-- ==== Sys2Proof/Word.lean ====
section
/-! DEFINITION. The byte of the host port, of frames, of commands and of notices (11_formats.md). -/

namespace Sys2Proof

/-- Eight bits, most significant bit first where they are sent (chapter 11). -/
abbrev Byte := BitVec 8

end Sys2Proof
end

