-- ==== Sys2Proof/Syntax.lean ====
section
/-! DEFINITION. The steps of the block: one constructor of `Instr` per row of spec/opcode_table.json, with what the
spec gives the step from outside the block as its operands. The commands a host gives (SETUP to CANCEL) have no
operand: their fields are the bytes that COMMAND_BYTE_WRITE put into the assembler (R159, R160). -/

namespace Sys2Proof

/-- The fields of a whole frame, from its arbitration field to its check, as its bits carry them (R141, R189). -/
structure BusFrame where
  /-- the kind code -/
  kind : BitVec 4
  /-- the sender station number -/
  sender : BitVec 5
  /-- the length field: the number of payload bytes -/
  length : BitVec 7
  /-- the payload bytes in the order sent -/
  payload : List Byte
  /-- the check received -/
  check : BitVec 16
deriving DecidableEq, Repr

/-- How a frame ends after its heard slot (R145). -/
inductive FrameEnd where
  /-- CBD rises while CBC is high: CLOSE -/
  | close
  /-- CBD falls while CBC is high: RELINK -/
  | relink
  /-- CBC falls again, or stalls, with no change of CBD: no valid end -/
  | noEnd
deriving DecidableEq, Repr

/-- How the bits that a station sampled came to their end: by the frame's end phase, by a stall, or by a change of CBD
while CBC is high (R145, R150). -/
inductive TryEnd where
  /-- the frame's end phase -/
  | frameEnd (ending : FrameEnd)
  /-- no edge of CBC for 16 bit times; whether both lines are then high -/
  | stalled (linesHigh : Bool)
  /-- a rise or a fall of CBD while CBC is high -/
  | broken (rise : Bool)
deriving DecidableEq, Repr

/-- What the lines showed of a frame since its OPEN: the bits sampled, one for each rising edge of CBC (high is true), and
how they came to their end (R141). -/
structure Sampled (ε : Type) where
  /-- the bits, in the order sampled -/
  bits : List Bool
  /-- their end -/
  ending : ε
deriving DecidableEq, Repr

/-- The steps of the C640, in the order of spec/opcode_table.json. -/
inductive Instr where
  /-- RESETn goes low, or power comes on (R88) -/
  | hardReset
  /-- RESETn rises with these levels on SN4 to SN0 (R88) -/
  | resetRelease (straps : BitVec 5)
  /-- HWSn rises with this byte on HD0 to HD7; whether HCSn is low and whether HRSn is low (R157) -/
  | commandByteWrite (b : Byte) (selected readLow : Bool)
  /-- the age of a partial command has reached 255 (R159) -/
  | assemblyAgeExpiry
  /-- HRSn rises; whether HCSn is low and whether HWSn is low (R157, R158) -/
  | noticeByteRead (selected writeLow : Bool)
  /-- the waiting SETUP is taken (R163) -/
  | setup
  /-- the waiting GO is taken (R88) -/
  | go
  /-- the waiting LEAVE is taken (R98) -/
  | leave
  /-- the waiting RESTART is taken (R89) -/
  | restart
  /-- the waiting STATUS is taken (R165) -/
  | status
  /-- the waiting MASK is taken (R165) -/
  | mask
  /-- the waiting QUERY is taken (R19) -/
  | query
  /-- the waiting SURVEY is taken (R165) -/
  | survey
  /-- the waiting ACQUIRE is taken (R168) -/
  | acquire
  /-- the waiting RELEASE is taken (R169) -/
  | release
  /-- the waiting EXTEND is taken (R170) -/
  | extend
  /-- the waiting CANCEL is taken (R171) -/
  | cancel
  /-- the end of a tick (R67, R71) -/
  | tick
  /-- a lease watch stands at 0 in MEMBER (R76) -/
  | leaseWatchExpiry
  /-- the roll timer stands at R (R94) -/
  | rollDue
  /-- a silence counter stands at 4R in MEMBER (R96) -/
  | silenceExpiry
  /-- the listen timer has reached 3R (R90) -/
  | listenTimerExpiry
  /-- the copy-wait timer has reached 8R (R93) -/
  | copyWaitExpiry
  /-- the rest timer has reached R (R102) -/
  | restTimerExpiry
  /-- free internal places take owed frames (R133) -/
  | owedFrameQueue
  /-- free notice places take pending WARNs (R180) -/
  | warnPost
  /-- `elapsed` more own bit times of idle have passed; the queue is revalidated and its first eligible entry
  offered, and with `pull` the station pulls CBD low (R127, R139) -/
  | frameOpen (elapsed : Nat) (pull : Bool)
  /-- a frame of another station: the bits sampled up to its check (high is true), whether some other receiver drives
  its veto slot low, and how it ends (R141, R144 to R148) -/
  | frameReceive (sampled : List Bool) (otherVeto : Bool) (ending : FrameEnd)
  /-- the end of an own try: the bits sampled since its OPEN, response slots included, and how they came to their end
  (R129, R142 to R145) -/
  | tryOutcome (lines : Sampled TryEnd)
  /-- no edge of CBC for 16 bit times inside a frame; the bits a sender has sampled of it, and whether both lines are
  then high (R150) -/
  | stall (lines : Sampled Bool)
  /-- CBD changes while CBC is high inside a frame; the bits a sender has sampled of it, and whether it rises or falls
  (R145) -/
  | frameBreak (lines : Sampled Bool)
  /-- a line has been low for 256 bit times with no rise of CBC (R151) -/
  | lineStuck
  /-- the end of a relinked run that returned to idle incomplete (R121) -/
  | trainRunEnd
  /-- the oldest received frame, an ASK, is applied (R48) -/
  | applyAsk
  /-- the oldest received frame, a YIELD, is applied (R51) -/
  | applyYield
  /-- the oldest received frame, an EXTEND, is applied (R52) -/
  | applyExtend
  /-- the oldest received frame, a LAPSE, is applied (R53) -/
  | applyLapse
  /-- the oldest received frame, a CANCEL, is applied (R54) -/
  | applyCancel
  /-- the oldest received frame, a DROP, is applied (R57) -/
  | applyDrop
  /-- the oldest received frame, an ENTER, is applied (R60) -/
  | applyEnter
  /-- the oldest received frame, a ROLL, is applied (R62) -/
  | applyRoll
  /-- the oldest received frame, a TRAIN-HEAD, is applied (R114) -/
  | applyTrainHead
  /-- the oldest received frame, a TRAIN-CLAIM, is applied (R115) -/
  | applyTrainClaim
  /-- the oldest received frame, a TRAIN-TAIL, is applied (R117) -/
  | applyTrainTail
  /-- both lines have been high for the normal gap, or are high after a stall (R138) -/
  | busIdleReturn
  /-- a line falls on the idle bus without forming an OPEN (R138) -/
  | lineFallWithoutOpen
deriving DecidableEq, Repr

end Sys2Proof
end

