-- ==== Sys2Proof/Decode.lean ====
section
/-! DEFINITION. spec/opcode_table.json gives bits to none of its rows (98_reader.md: "n_rows_with_fixed": 0,
"n_rows_with_fields": 0): the steps are events of the block and no word spells one. -/

namespace Sys2Proof

/-- The step that a word spells by the table's bits: none, since the table gives no row any bits. -/
def decodeTableWord (_nbits _w : Nat) : Option Instr := none

end Sys2Proof
end

