-- ==== Sys2Proof/Config.lean ====
section
/-! DEFINITION. The sizes and limits that the spec fixes for every C640. No result value of any step is left
undefined by the spec, so there is no free value here. -/

namespace Sys2Proof.Config

/-- Claim numbers run 0 to 63 (0.8, R1). -/
def claimCount : Nat := 64
/-- Station numbers run 0 to 31 (0.8, R84). -/
def stationCount : Nat := 32
/-- Tag numbers run 0 to 15 (0.8, R166). -/
def tagCount : Nat := 16
/-- Entries of the waiter pool (R27). -/
def poolSize : Nat := 128
/-- Most SHARED holders of one claim (R6). -/
def maxHolders : Nat := 4
/-- Entries of the receive queue (R39). -/
def rxSize : Nat := 4
/-- Places of the transmit queue for frames that host commands cause (R123). -/
def boundPlaces : Nat := 5
/-- Places of the transmit queue for internal frames (R123). -/
def internalPlaces : Nat := 3
/-- Places of the notice queue (R175). -/
def noticePlaces : Nat := 48
/-- The largest lease length (R3, R24). -/
def maxLease : Nat := 4095
/-- The largest payload of a frame (R141). -/
def maxPayload : Nat := 112
/-- The age at which a partial command is discarded (R159). -/
def assemblyAgeLimit : Nat := 255
/-- The most entry attempts (R92). -/
def maxAttempts : Nat := 3
/-- The veto run that sidelines (R152). -/
def vetoRunLimit : Nat := 8
/-- The unheard run that sidelines (R153). -/
def unheardRunLimit : Nat := 4
/-- The clash run that halts (R154). -/
def clashRunLimit : Nat := 4
/-- The bits of the arbitration field: kind code and sender (R141). -/
def arbitrationBits : Nat := 9
/-- The normal gap in bit times (R138). -/
def normalGap : Nat := 10
/-- The fair gap in bit times (R135, R138). -/
def fairGap : Nat := 20
/-- REFCLK cycles of one tick unit of 50 µs at 16 MHz (R67). -/
def cyclesPerUnit : Nat := 800
/-- The largest value of the counts that saturate at 255 (R64, R179). -/
def maxCount : Nat := 255

end Sys2Proof.Config
end

