-- ==== Sys2Proof/Machine/State.lean ====
section
/-! DEFINITION. The state of one C640, block by block as Table 0-1 lists them, as plain data, and the state right
after a hard reset. Tables with numbered entries are sorted lists of (number, value) pairs that list no entry equal
to what an unlisted number reads as (Machine/Tables.lean). Ages of queue entries are their places in the list. -/

namespace Sys2Proof.Machine

/-- A finite table by number: sorted, without entries equal to the default. -/
abbrev Table (α : Type) := List (Nat × α)

/-! ## Names of the chapters -/

/-- The hold mode of a slot, a waiter or a request (Table 0-4). -/
inductive Mode where
  | sole | shared
deriving DecidableEq, Repr

/-- The claim state read from the holder list (Table 1-2). -/
inductive ClaimState where
  | free | sole | shared
deriving DecidableEq, Repr

/-- A roster entry (R84). -/
inductive RosterEntry where
  | absent | joining | member
deriving DecidableEq, Repr

/-- The station states (Table 5-1). -/
inductive StationState where
  | localState | listen | entering | awaitCopy | member | leaving | sidelined | halted
deriving DecidableEq, Repr

/-- The causes a STATE notice carries (Table 5-2, Table 11-5). -/
inductive StateCause where
  | none | go | listened | founded | entered | joined | copyWait | dropped | noCopy | evicted | diverged | copy
  | leave | left | vetoRun | unheardRun | lineStuck | sendJam | rested | clashRun | restart
deriving DecidableEq, Repr

/-- The causes with which a request ends (Table 10-3, Table 11-5). -/
inductive TagCause where
  | host | lapsed | dropped | diverged | sidelined | left | copy
deriving DecidableEq, Repr

/-- The reasons of REFUSED (Table 10-3). -/
inductive RefuseReason where
  | busy | poolFull | duplicate | notMember | link
deriving DecidableEq, Repr

/-- The reasons of DENIED (Table 10-3, R161). -/
inductive DenyReason where
  | format | state | locked | range | tagBusy | idleTag | wrongPhase
deriving DecidableEq, Repr

/-- The phase of a tag in use (R166). -/
inductive Phase where
  | sending | waiting | cancelling | held | yielding
deriving DecidableEq, Repr

/-- The valid frame kinds (Table 11-2). -/
inductive FrameKind where
  | drop | lapse | extend | yield | trainHead | trainClaim | trainTail | ask | cancel | enter | roll
deriving DecidableEq, Repr

/-- The host commands (Table 9-1). -/
inductive Command where
  | status | survey | query | mask | setup | go | leave | restart | acquire | release | extend | cancel
deriving DecidableEq, Repr

/-! ## Replica -/

/-- A hold slot (Table 1-3). -/
structure HoldSlot where
  station : Nat
  mode : Mode
  lease : Nat
  serial : Nat
deriving DecidableEq, Repr

/-- A waiter entry (Table 2-1). -/
structure Waiter where
  station : Nat
  mode : Mode
  lease : Nat
deriving DecidableEq, Repr

/-- A claim record: serial, holders oldest grant first, waiters head first (Table 1-1). -/
structure ClaimRecord where
  serial : Nat
  holders : List HoldSlot
  waiters : List Waiter
deriving DecidableEq, Repr

/-- The record of a FREE claim: serial 0, no holders, no waiters (R4, R22). -/
def ClaimRecord.free : ClaimRecord := ⟨0, [], []⟩

/-- The replica: claim table with the waiter pool's queues, and roster (0.2). -/
structure Replica where
  claims : Table ClaimRecord
  roster : Table RosterEntry
deriving DecidableEq, Repr

/-! ## Apply unit -/

/-- An entry of the receive queue (R39), with the relinked-continuation mark of R148 and, for a TRAIN-HEAD, whether
this station loads the train (R114). -/
structure RxEntry where
  kind : FrameKind
  sender : Nat
  payload : List Byte
  own : Bool
  /-- for an own frame: the tag it was bound to, or none for an internal frame -/
  binding : Option Nat
  continuation : Bool
  loads : Bool
deriving DecidableEq, Repr

/-- The pending-train record of the apply unit (R111). -/
structure TrainRecord where
  sender : Nat
  members : BitVec 32
  joining : BitVec 32
  k : Nat
  occupancy : Nat
  count : Nat
  lastClaim : Option Nat
  loading : Bool
deriving DecidableEq, Repr

/-- The apply unit: receive queue and pending-train record. -/
structure ApplyUnit where
  rx : List RxEntry
  record : Option TrainRecord
deriving DecidableEq, Repr

/-! ## Watch unit -/

/-- What a lease watch holds beside its claim and holder, which are its place in the table (R69). -/
structure Watch where
  serial : Nat
  value : Nat
  warned : Bool
deriving DecidableEq, Repr

/-- The watch unit: tick divider, train pause, lease watches, silence counters, timers (R67 to R69, R90 to R95). -/
structure WatchUnit where
  tickCount : Nat
  pause : Bool
  watches : Table (Option Watch)
  silence : Table (Option Nat)
  roll : Option Nat
  listen : Option Nat
  copyWait : Option Nat
  rest : Option Nat
deriving DecidableEq, Repr

/-! ## Train unit -/

/-- The composer's place in the train it sends (R108). -/
structure Composer where
  k : Nat
  accepted : Nat
  lastClaim : Option Nat
deriving DecidableEq, Repr

/-- Where the relinked run of an accepted TRAIN-HEAD stands (R110, R121). -/
inductive TrainRun where
  /-- no run, or one whose TRAIN-TAIL was accepted -/
  | none
  /-- head accepted, tail not yet -/
  | running
  /-- the bus returned to idle before the tail was accepted; the end of the run is still to be taken -/
  | ended
deriving DecidableEq, Repr

/-- The train unit: composer state, a loader's carried ticks left, the run. -/
structure TrainUnit where
  composer : Option Composer
  /-- this station's train has ended incomplete; its TRAIN-HEAD stays ON_BUS until the bus is idle (R120, R129) -/
  failed : Bool
  carried : Table Nat
  run : TrainRun
  /-- this station holds a copy that is loaded in part (R114, R121) -/
  partialCopy : Bool
deriving DecidableEq, Repr

/-! ## Transmit queue -/

/-- A frame with its fields as far as they are fixed at queuing (Table 7-1). -/
inductive TxFrame where
  | drop (subject : Nat)
  | lapse (claim holder serial : Nat)
  | extend (claim lease : Nat)
  | yield (claim : Nat)
  | trainHead
  | ask (claim : Nat) (mode : Mode) (noWait : Bool) (lease : Nat)
  | cancel (claim : Nat)
  | enter
  | roll (joining : Bool)
deriving DecidableEq, Repr

/-- An entry of the transmit queue (R123). -/
structure TxEntry where
  frame : TxFrame
  /-- the tag of a bound frame; none for an internal frame -/
  binding : Option Nat
  onBus : Bool
  retries : Nat
  dead : Bool
  /-- for a ROLL: an own frame has been accepted since it was queued (Table 7-3); for a DROP: a copy that this station
  loaded as a mistaken founder lists its subject (R119) -/
  superseded : Bool
deriving DecidableEq, Repr

/-- The transmit queue: entries oldest first, fair-gap mark, and the frame offered and not yet opened (R127). -/
structure TransmitQueue where
  entries : List TxEntry
  fairGap : Bool
  offered : Option TxFrame
deriving DecidableEq, Repr

/-! ## Link controller -/

/-- The bus state of R138 with Table 8-5's "not receiving". BUSY is the last three. -/
inductive BusState where
  | notReceiving
  | idle
  /-- BUSY with no frame being received -/
  | busy
  /-- BUSY inside a frame opened by OPEN -/
  | inFrame
  /-- BUSY inside a frame opened by RELINK -/
  | inRelinked
deriving DecidableEq, Repr

/-- An own frame as composed at its opening (R127). -/
structure OwnFrame where
  kind : FrameKind
  payload : List Byte
deriving DecidableEq, Repr

/-- The pending-train record as the link controller reads it, with a loader's running values (R147). -/
structure LinkTrain where
  sender : Nat
  members : BitVec 32
  joining : BitVec 32
  k : Nat
  occupancy : Nat
  count : Nat
  lastClaim : Option Nat
  loads : Bool
  runOccupancy : Nat
  runDigest : BitVec 16
deriving DecidableEq, Repr

/-- The link controller. -/
structure LinkController where
  bus : BusState
  /-- REFCLK cycles of idle counted, up to the fair gap -/
  idleCycles : Nat
  sending : Option OwnFrame
  /-- the last frame that ended on the bus was an accepted frame of the train of `train` -/
  chain : Bool
  train : Option LinkTrain
  /-- this station's drive of the two slots of the last frame it received (R144) -/
  droveVeto : Bool
  droveHeard : Bool
  vetoRun : Nat
  unheardRun : Nat
  clashRun : Nat
deriving DecidableEq, Repr

/-! ## Tags and notices -/

/-- A tag (Table 9-4). -/
structure Tag where
  inUse : Bool
  claim : Nat
  mode : Mode
  lease : Nat
  noWait : Bool
  phase : Option Phase
  extendInFlight : Bool
  cancelPending : Bool
  warnLatch : Bool
  reservations : Nat
deriving DecidableEq, Repr

/-- A tag at its free values (Table 9-4). -/
def Tag.free : Tag := ⟨false, 0, .sole, 0, false, none, false, false, false, 0⟩

/-- The contents of a RECORD (R19, Table 11-6). -/
structure RecordReply where
  claim : Nat
  state : ClaimState
  serial : Nat
  /-- each holder with the ticks left on this station's watch -/
  holders : List (HoldSlot × Nat)
  waiters : List Waiter
deriving DecidableEq, Repr

/-- The contents of a ROSTER (R165, Table 11-7). -/
structure RosterReply where
  /-- each station's entry and silence counter -/
  places : List (RosterEntry × Nat)
  source : Option Nat
deriving DecidableEq, Repr

/-- The SETUP values (Table 9-3). -/
structure Setup where
  bitRate : Nat
  tickUnits : Nat
  r : Nat
  retryLimit : Nat
  defaultLease : Nat
deriving DecidableEq, Repr

/-- The SETUP values after a hard reset (Table 9-3). -/
def Setup.default : Setup := ⟨1, 20, 250, 10, 1000⟩

/-- The contents of a STATUS (R165, Table 11-8). -/
structure StatusReply where
  state : StationState
  cause : StateCause
  number : Nat
  lock : Bool
  setup : Setup
  attempts : Nat
  disagree : Nat
  occupancy : Nat
  boundHeld : Nat
  internalHeld : Nat
  vetoRun : Nat
  unheardRun : Nat
  clashRun : Nat
  /-- bit n set for tag n in use -/
  tagsInUse : Nat
deriving DecidableEq, Repr

/-- The notices (Table 10-1). -/
inductive Notice where
  | state (s : StationState) (cause : StateCause)
  | sendFailed (kind : FrameKind) (detail : Nat)
  | hostOverrun
  | overflow (dropped : Nat)
  | granted (tag serial : Nat)
  | queued (tag position : Nat)
  | refused (tag : Nat) (reason : RefuseReason)
  | cancelled (tag : Nat) (cause : TagCause)
  | released (tag : Nat)
  | lost (tag : Nat) (cause : TagCause)
  | extended (tag serial : Nat)
  | tooLate (tag : Nat)
  | denied (code : Byte) (reason : DenyReason)
  | warn (tag ticksLeft : Nat)
  | record (r : RecordReply)
  | roster (r : RosterReply)
  | status (r : StatusReply)
deriving DecidableEq, Repr

/-- The notice being read and the number of its bytes already read (R158, R183). -/
structure Reading where
  notice : Notice
  done : Nat
deriving DecidableEq, Repr

/-- The host port: command assembler with its age, read position, the byte last driven on HD0 to HD7, and the strobes
whose cycle overlapped the other's (R157). -/
structure HostPort where
  assembler : List Byte
  age : Nat
  reading : Option Reading
  dataOut : Byte
  /-- HWSn has been low together with HRSn, which has risen: the rise of HWSn has no effect -/
  writeSpoiled : Bool
  /-- HRSn has been low together with HWSn, which has risen: the rise of HRSn has no effect -/
  readSpoiled : Bool
deriving DecidableEq, Repr

/-- The notice queue: the entries present but for the one being read, oldest first; held drops; masks (R175). -/
structure NoticeQueue where
  entries : List Notice
  heldDrops : Nat
  resultMask : Bool
  reportMask : Bool
deriving DecidableEq, Repr

/-! ## Station controller and the whole -/

/-- The station controller (R86), with RESETn, the cause STATUS reports (R165) and the disagree count (R64). -/
structure StationController where
  /-- RESETn is low -/
  resetLow : Bool
  state : StationState
  number : Nat
  setup : Setup
  lock : Bool
  attempts : Nat
  lastCause : StateCause
  disagree : Nat
deriving DecidableEq, Repr

/-- The state of one C640, and the queue of the steps that wait. -/
structure State where
  station : StationController
  replica : Replica
  apply : ApplyUnit
  watch : WatchUnit
  train : TrainUnit
  tx : TransmitQueue
  link : LinkController
  port : HostPort
  tags : Table Tag
  notices : NoticeQueue
  /-- the steps that wait, first in first out (the model's own field) -/
  pending : List Instr
deriving DecidableEq, Repr

/-- The spec names no fault that stops the block: failures are notices and station states. No step raises one. -/
inductive Fault where
deriving DecidableEq, Repr

/-- The reasons for which a step may be refused. -/
inductive Refusal where
  /-- Raised only by an arm of `exec` without a meaning; there is none. Safe: it says nothing of the hardware. -/
  | notModelled (mnemonic : String)
deriving DecidableEq, Repr

/-- Right after a hard reset (R88, and the "Hard reset" rows of Tables 1-6, 2-3, 4-3, 5-4, 5-5, 6-3, 7-7, 8-5, 9-6,
10-4): RESETn released, LOCAL, everything empty, SETUP at its defaults and unlocked. DESIGN CHOICE (unsafe, log
entries 3 and 4): the straps read 0, and HD0 to HD7 0x00. -/
def State.reset : State where
  station := ⟨false, .localState, 0, Setup.default, false, 0, .none, 0⟩
  replica := ⟨[], []⟩
  apply := ⟨[], none⟩
  watch := ⟨0, false, [], [], none, none, none, none⟩
  train := ⟨none, false, [], .none, false⟩
  tx := ⟨[], false, none⟩
  link := ⟨.notReceiving, 0, none, false, none, false, false, 0, 0, 0⟩
  port := ⟨[], 0, none, 0, false, false⟩
  tags := []
  notices := ⟨[], 0, false, false⟩
  pending := []

end Sys2Proof.Machine
end

