-- ==== Sys2Proof/Machine/Tables.lean ====
section
/-! DEFINITION. Reading and writing a finite table by number. A table lists its numbers in rising order and lists no
entry equal to the default `d`, the value every unlisted number reads as. -/

namespace Sys2Proof.Machine

variable {α : Type} [DecidableEq α]

/-- The value at number `k`. -/
def Table.get (d : α) : Table α → Nat → α
  | [], _ => d
  | (j, v) :: t, k => if j = k then v else Table.get d t k

/-- `t` without any entry at number `k`. -/
def Table.erase : Table α → Nat → Table α
  | [], _ => []
  | (j, v) :: t, k => if j = k then Table.erase t k else (j, v) :: Table.erase t k

/-- `t`, which lists no `k`, with the entry put before the first larger number. -/
def Table.insert : Table α → Nat → α → Table α
  | [], k, v => [(k, v)]
  | (j, w) :: t, k, v => if k < j then (k, v) :: (j, w) :: t else (j, w) :: Table.insert t k v

/-- `t` with `v` at number `k`, in the table's form. -/
def Table.set (d : α) (t : Table α) (k : Nat) (v : α) : Table α :=
  if v = d then Table.erase t k else Table.insert (Table.erase t k) k v

/-- Every listed value changed by `f`, which sees the number; entries that become the default leave. -/
def Table.map (d : α) (f : Nat → α → α) : Table α → Table α
  | [] => []
  | (j, v) :: t => if f j v = d then Table.map d f t else (j, f j v) :: Table.map d f t

/-- The form of a table: numbers strictly rising, no default listed. -/
def Table.wf (d : α) : Table α → Bool
  | [] => true
  | [(_, v)] => v != d
  | (j, v) :: (k, w) :: t => v != d && decide (j < k) && Table.wf d ((k, w) :: t)

end Sys2Proof.Machine
end

