-- ==== Sys2Proof/Machine/Operands.lean ====
section
/-! DEFINITION. Layouts (chapter 11): frames, the frame check, commands, notices, the canonical form and the digest.
Every multi-byte number stands most significant byte first. -/

namespace Sys2Proof.Machine

open Sys2Proof (Byte BusFrame)

/-! ## Numbers as bytes -/

/-- The byte of a number below 256. -/
def byte (n : Nat) : Byte := BitVec.ofNat 8 n

/-- The two bytes of a number below 65536. -/
def bytes16 (n : Nat) : List Byte := [byte (n / 256), byte (n % 256)]

/-- The number that two bytes carry. -/
def u16 (hi lo : Byte) : Nat := hi.toNat * 256 + lo.toNat

/-- The four bytes of a mask: stations 31 to 24 first (R190). -/
def maskBytes (m : BitVec 32) : List Byte :=
  [m.extractLsb' 24 8, m.extractLsb' 16 8, m.extractLsb' 8 8, m.extractLsb' 0 8]

/-- The mask that four bytes carry (R190). -/
def maskOf (b3 b2 b1 b0 : Byte) : BitVec 32 := (b3 ++ b2) ++ (b1 ++ b0)

/-- The station-and-mode byte (R190): mode in bit 7, station in bits 4 to 0, bits 6 and 5 sent as 0. -/
def stationModeByte (m : Mode) (station : Nat) : Byte :=
  byte ((match m with | .sole => 0 | .shared => 128) + station % 32)

/-- The mode of a station-and-mode byte (R190). -/
def modeOf (b : Byte) : Mode := if b.msb then .shared else .sole

/-- The station of a station-and-mode byte; bits 6 and 5 are disregarded (R190). -/
def stationOf (b : Byte) : Nat := b.toNat % 32

/-! ## The check and the digest -/

/-- One bit of the check (R189): the bit is combined with bit 15, the register shifted, the generator combined. -/
def crcBit (r : BitVec 16) (b : Bool) : BitVec 16 :=
  if (r.msb ^^ b) then (r <<< 1) ^^^ 0x1021#16 else r <<< 1

/-- One byte of the check, most significant bit first (R189). -/
def crcByte (r : BitVec 16) (x : Byte) : BitVec 16 :=
  [7, 6, 5, 4, 3, 2, 1, 0].foldl (fun r i => crcBit r (x.getLsbD i)) r

/-- The register after more bytes (R189). -/
def crcFrom (r : BitVec 16) (bs : List Byte) : BitVec 16 := bs.foldl crcByte r

/-- The check of R189 over bytes: preset 0xFFFF, no inversion. -/
def crc (bs : List Byte) : BitVec 16 := crcFrom 0xFFFF#16 bs

/-- The bytes of one hold slot in the canonical form (R191). -/
def canonicalHolder (h : HoldSlot) : List Byte :=
  [stationModeByte h.mode h.station, byte h.serial] ++ bytes16 h.lease

/-- The bytes of one waiter in the canonical form (R191). -/
def canonicalWaiter (w : Waiter) : List Byte := stationModeByte w.mode w.station :: bytes16 w.lease

/-- The bytes of one claim in the canonical form (R191). -/
def canonicalClaim (r : ClaimRecord) : List Byte :=
  [byte r.serial, byte r.holders.length] ++ r.holders.flatMap canonicalHolder ++
    [byte r.waiters.length] ++ r.waiters.flatMap canonicalWaiter

/-- The roster's stations whose entry is `e`, as a mask (R20, R190). -/
def rosterMask (roster : Table RosterEntry) (e : RosterEntry) : BitVec 32 :=
  (List.range Config.stationCount).foldl
    (fun m n => if Table.get .absent roster n = e then m ||| (1#32 <<< n) else m) 0#32

/-- The canonical bytes of a replica (R20, R191): member mask, then the claims 0 to 63. -/
def canonicalBytes (r : Replica) : List Byte :=
  maskBytes (rosterMask r.roster .member) ++
    (List.range Config.claimCount).flatMap (fun c => canonicalClaim (Table.get ClaimRecord.free r.claims c))

/-- The digest of a replica (R20, R191). -/
def digest (r : Replica) : BitVec 16 := crc (canonicalBytes r)

/-! ## Frames -/

/-- The kind code (Table 11-2). -/
def FrameKind.code : FrameKind → Nat
  | .drop => 1 | .lapse => 2 | .extend => 3 | .yield => 4 | .trainHead => 6 | .trainClaim => 7 | .trainTail => 8
  | .ask => 9 | .cancel => 10 | .enter => 12 | .roll => 13

/-- The kind of a code; 0x0, 0x5, 0xB, 0xE and 0xF are invalid (R189). -/
def FrameKind.ofCode (code : Nat) : Option FrameKind :=
  match code with
  | 1 => some .drop | 2 => some .lapse | 3 => some .extend | 4 => some .yield | 6 => some .trainHead
  | 7 => some .trainClaim | 8 => some .trainTail | 9 => some .ask | 10 => some .cancel | 12 => some .enter
  | 13 => some .roll | _ => none

/-- A frame of a copy train (R66). -/
def FrameKind.isTrain : FrameKind → Bool
  | .trainHead | .trainClaim | .trainTail => true
  | .drop | .lapse | .extend | .yield | .ask | .cancel | .enter | .roll => false

/-- Whether a kind allows a payload length (Table 8-2). -/
def FrameKind.lengthOk (k : FrameKind) (n : Nat) : Bool :=
  match k with
  | .drop | .cancel => n == 1
  | .yield | .trainTail => n == 2
  | .lapse | .roll => n == 3
  | .extend | .ask => n == 4
  | .trainHead => n == 10
  | .trainClaim => 9 ≤ n && n ≤ 111
  | .enter => n == 0

/-- The kind of a frame at its queuing. -/
def TxFrame.kind : TxFrame → FrameKind
  | .drop _ => .drop | .lapse _ _ _ => .lapse | .extend _ _ => .extend | .yield _ => .yield | .trainHead => .trainHead
  | .ask _ _ _ _ => .ask | .cancel _ => .cancel | .enter => .enter | .roll _ => .roll

/-- The two header bytes over which the check is computed (Table 11-1). -/
def headerBytes (kind : BitVec 4) (sender : BitVec 5) (length : BitVec 7) : List Byte :=
  let h : BitVec 16 := kind ++ sender ++ length
  [h.extractLsb' 8 8, h.extractLsb' 0 8]

/-- The check of a frame over its header and payload (R189). -/
def BusFrame.computedCheck (f : BusFrame) : BitVec 16 :=
  crc (headerBytes f.kind f.sender f.length ++ f.payload)

/-! ## Bits on the line -/

/-- The `w` bits of a number, most significant bit first (R141). -/
def natBits (w n : Nat) : List Bool := (List.range w).map (fun i => n.testBit (w - 1 - i))

/-- The number that bits carry, most significant bit first (R141). -/
def bitsNat (bs : List Bool) : Nat := bs.foldl (fun n b => 2 * n + b.toNat) 0

/-- The bits of bytes (R141). -/
def byteBits (bytes : List Byte) : List Bool := bytes.flatMap (fun b => natBits 8 b.toNat)

/-- The bits of a frame in the order sent, from its arbitration field to its check (R141, R189): 32, and 8 for each
payload byte. The two response slots follow. -/
def BusFrame.bits (f : BusFrame) : List Bool :=
  natBits 4 f.kind.toNat ++ natBits 5 f.sender.toNat ++ natBits 7 f.length.toNat ++ byteBits f.payload ++
    natBits 16 f.check.toNat

/-- The next `n` bytes of the bits sampled. -/
def readBytes : Nat → List Bool → List Byte
  | 0, _ => []
  | n + 1, bs => byte (bitsNat (bs.take 8)) :: readBytes n (bs.drop 8)

/-- The number of payload bytes, which every station reads from the length field (R141). -/
def lengthField (bs : List Bool) : Nat := bitsNat ((bs.drop 9).take 7)

/-- The frame that sampled bits carry (R141); none where they are not one whole frame by its own length field. -/
def readFrame (bs : List Bool) : Option BusFrame :=
  if bs.length = 32 + 8 * lengthField bs then
    some ⟨BitVec.ofNat 4 (bitsNat (bs.take 4)), BitVec.ofNat 5 (bitsNat ((bs.drop 4).take 5)),
      BitVec.ofNat 7 (lengthField bs), readBytes (lengthField bs) (bs.drop 16),
      BitVec.ofNat 16 (bitsNat ((bs.drop (16 + 8 * lengthField bs)).take 16))⟩
  else none

/-! ## Payloads -/

/-- The payload fields of an ASK (R190). -/
structure AskFields where
  claim : Nat
  flags : Nat
  lease : Nat
deriving DecidableEq, Repr

/-- The mode of the ASK flags (R190). -/
def AskFields.mode (a : AskFields) : Mode := if a.flags % 2 = 1 then .shared else .sole

/-- The no-wait flag of the ASK flags (R190). -/
def AskFields.noWait (a : AskFields) : Bool := a.flags / 2 % 2 == 1

/-- The payload of an ASK (R190). -/
def askBytes (claim : Nat) (mode : Mode) (noWait : Bool) (lease : Nat) : List Byte :=
  [byte claim, byte ((match mode with | .sole => 0 | .shared => 1) + if noWait then 2 else 0)] ++ bytes16 lease

/-- The fields of an ASK payload. -/
def parseAsk : List Byte → Option AskFields
  | [c, f, h, l] => some ⟨c.toNat, f.toNat, u16 h l⟩
  | _ => none

/-- Claim and slot serial of a YIELD payload (R190). -/
def parseYield : List Byte → Option (Nat × Nat)
  | [c, s] => some (c.toNat, s.toNat)
  | _ => none

/-- The payload of a YIELD (R190). -/
def yieldBytes (claim serial : Nat) : List Byte := [byte claim, byte serial]

/-- Claim, slot serial and new lease of an EXTEND payload (R190). -/
def parseExtend : List Byte → Option (Nat × Nat × Nat)
  | [c, s, h, l] => some (c.toNat, s.toNat, u16 h l)
  | _ => none

/-- The payload of an EXTEND (R190). -/
def extendBytes (claim serial lease : Nat) : List Byte := [byte claim, byte serial] ++ bytes16 lease

/-- Claim, holder and slot serial of a LAPSE payload (R190). -/
def parseLapse : List Byte → Option (Nat × Nat × Nat)
  | [c, h, s] => some (c.toNat, h.toNat, s.toNat)
  | _ => none

/-- The payload of a LAPSE (R190). -/
def lapseBytes (claim holder serial : Nat) : List Byte := [byte claim, byte holder, byte serial]

/-- The one number of a CANCEL (claim) or DROP (subject station) payload (R190). -/
def parseOne : List Byte → Option Nat
  | [c] => some c.toNat
  | _ => none

/-- Flags and digest of a ROLL payload (R190). -/
def parseRoll : List Byte → Option (Nat × BitVec 16)
  | [f, h, l] => some (f.toNat, h ++ l)
  | _ => none

/-- A digest as two bytes (R190). -/
def digestBytes (d : BitVec 16) : List Byte := [d.extractLsb' 8 8, d.extractLsb' 0 8]

/-- The payload of a ROLL (R190). -/
def rollBytes (joining : Bool) (d : BitVec 16) : List Byte := byte (if joining then 1 else 0) :: digestBytes d

/-- The payload fields of a TRAIN-HEAD (R109, R190). -/
structure HeadFields where
  members : BitVec 32
  joining : BitVec 32
  k : Nat
  occupancy : Nat
deriving DecidableEq, Repr

/-- The fields of a TRAIN-HEAD payload. -/
def parseHead : List Byte → Option HeadFields
  | [a, b, c, d, e, f, g, h, k, o] => some ⟨maskOf a b c d, maskOf e f g h, k.toNat, o.toNat⟩
  | _ => none

/-- The payload of a TRAIN-HEAD (R190). -/
def headBytes (h : HeadFields) : List Byte :=
  maskBytes h.members ++ maskBytes h.joining ++ [byte h.k, byte h.occupancy]

/-- The payload fields of a TRAIN-CLAIM (R109, R190): each holder with the ticks left on the source's watch. -/
structure ClaimFields where
  claim : Nat
  serial : Nat
  holders : List (HoldSlot × Nat)
  waiters : List Waiter
deriving DecidableEq, Repr

/-- The next `n` holders of a TRAIN-CLAIM payload and the bytes after them (R190). -/
def parseHolders : Nat → List Byte → Option (List (HoldSlot × Nat) × List Byte)
  | 0, bs => some ([], bs)
  | n + 1, m :: s :: lh :: ll :: th :: tl :: bs =>
    match parseHolders n bs with
    | some (hs, rest) => some ((⟨stationOf m, modeOf m, u16 lh ll, s.toNat⟩, u16 th tl) :: hs, rest)
    | none => none
  | _ + 1, _ => none

/-- The next `n` waiters of a TRAIN-CLAIM payload, which must use up the bytes (R190). -/
def parseWaiters : Nat → List Byte → Option (List Waiter)
  | 0, [] => some []
  | 0, _ :: _ => none
  | n + 1, m :: lh :: ll :: bs => (parseWaiters n bs).map (⟨stationOf m, modeOf m, u16 lh ll⟩ :: ·)
  | _ + 1, _ => none

/-- The fields of a TRAIN-CLAIM payload; none where its length differs from 3 plus 6 per holder plus 3 per waiter. -/
def parseClaim : List Byte → Option ClaimFields
  | c :: s :: counts :: bs =>
    match parseHolders (counts.toNat / 32) bs with
    | some (hs, rest) => (parseWaiters (counts.toNat % 32) rest).map (⟨c.toNat, s.toNat, hs, ·⟩)
    | none => none
  | _ => none

/-- One holder of a TRAIN-CLAIM payload (R190). -/
def holderBytes (h : HoldSlot × Nat) : List Byte :=
  [stationModeByte h.1.mode h.1.station, byte h.1.serial] ++ bytes16 h.1.lease ++ bytes16 h.2

/-- The payload of a TRAIN-CLAIM (R190). -/
def claimBytes (f : ClaimFields) : List Byte :=
  [byte f.claim, byte f.serial, byte (f.holders.length * 32 + f.waiters.length)] ++
    f.holders.flatMap holderBytes ++ f.waiters.flatMap canonicalWaiter

/-- The digest of a TRAIN-TAIL payload (R190). -/
def parseTail : List Byte → Option (BitVec 16)
  | [h, l] => some (h ++ l)
  | _ => none

/-! ## Commands -/

/-- The code of a command (Table 11-3). -/
def Command.code : Command → Nat
  | .status => 0x01 | .survey => 0x02 | .query => 0x03 | .mask => 0x04 | .setup => 0x08 | .go => 0x09 | .leave => 0x0A
  | .restart => 0x0F | .acquire => 0x20 | .release => 0x21 | .extend => 0x22 | .cancel => 0x23

/-- The command of a first byte (Table 11-3); none where the byte is unknown. -/
def Command.ofCode (code : Nat) : Option Command :=
  match code with
  | 0x01 => some .status | 0x02 => some .survey | 0x03 => some .query | 0x04 => some .mask | 0x08 => some .setup
  | 0x09 => some .go | 0x0A => some .leave | 0x0F => some .restart | 0x20 => some .acquire | 0x21 => some .release
  | 0x22 => some .extend | 0x23 => some .cancel | _ => none

/-- The bytes of a command, its code included (Table 11-3). -/
def Command.bytes : Command → Nat
  | .status | .survey | .go | .leave | .restart => 1
  | .query | .mask | .release | .cancel => 2
  | .extend => 4
  | .acquire => 5
  | .setup => 8

/-- The command whose bytes fill the assembler (R159); none while it is empty or the command partial. -/
def completeCommand : List Byte → Option Command
  | [] => none
  | b :: bs =>
    match Command.ofCode b.toNat with
    | some c => if bs.length + 1 = c.bytes then some c else none
    | none => none

/-! ## Notices -/

/-- Codes of station states (Table 11-5). -/
def StationState.code : StationState → Nat
  | .localState => 0 | .listen => 1 | .entering => 2 | .awaitCopy => 3 | .member => 4 | .leaving => 5
  | .sidelined => 6 | .halted => 7

/-- Codes of STATE causes (Table 11-5). -/
def StateCause.code : StateCause → Nat
  | .none => 0 | .go => 1 | .listened => 2 | .founded => 3 | .entered => 4 | .joined => 5 | .copyWait => 6
  | .dropped => 7 | .noCopy => 8 | .evicted => 9 | .diverged => 10 | .copy => 11 | .leave => 12 | .left => 13
  | .vetoRun => 14 | .unheardRun => 15 | .lineStuck => 16 | .sendJam => 17 | .rested => 18 | .clashRun => 19
  | .restart => 20

/-- Codes of tag causes (Table 11-5). -/
def TagCause.code : TagCause → Nat
  | .host => 1 | .lapsed => 2 | .dropped => 3 | .diverged => 4 | .sidelined => 5 | .left => 6 | .copy => 7

/-- Codes of REFUSED reasons (Table 11-5). -/
def RefuseReason.code : RefuseReason → Nat
  | .busy => 1 | .poolFull => 2 | .duplicate => 3 | .notMember => 4 | .link => 5

/-- Codes of DENIED reasons (Table 11-5). -/
def DenyReason.code : DenyReason → Nat
  | .format => 1 | .state => 2 | .locked => 3 | .range => 4 | .tagBusy => 5 | .idleTag => 6 | .wrongPhase => 7

/-- Codes of claim states (Table 11-5). -/
def ClaimState.code : ClaimState → Nat
  | .free => 0 | .sole => 1 | .shared => 2

/-- Codes of roster entries (Table 11-5). -/
def RosterEntry.code : RosterEntry → Nat
  | .absent => 0 | .joining => 1 | .member => 2

/-- The first `n` bytes of `bs`, places that it does not fill being 0 (11.4). -/
def padTo (n : Nat) (bs : List Byte) : List Byte := (bs ++ List.replicate n 0#8).take n

/-- The bytes of a RECORD after its kind byte (Table 11-6). -/
def recordBytes (r : RecordReply) : List Byte :=
  [byte r.claim, byte r.state.code, byte r.serial, byte r.holders.length, byte r.waiters.length] ++
    padTo 24 (r.holders.flatMap holderBytes) ++ padTo 93 (r.waiters.flatMap canonicalWaiter)

/-- The bytes of a ROSTER after its kind byte (Table 11-7). -/
def rosterBytes (r : RosterReply) : List Byte :=
  padTo 96 (r.places.flatMap (fun p => byte p.1.code :: bytes16 p.2)) ++ [byte (r.source.getD 0xFF)]

/-- The bytes of a STATUS after its kind byte (Table 11-8). -/
def statusBytes (r : StatusReply) : List Byte :=
  [byte r.state.code, byte r.cause.code, byte r.number, byte (if r.lock then 1 else 0), byte r.setup.bitRate,
    byte r.setup.tickUnits] ++ bytes16 r.setup.r ++ [byte r.setup.retryLimit] ++ bytes16 r.setup.defaultLease ++
    [byte r.attempts, byte r.disagree, byte r.occupancy, byte r.boundHeld, byte r.internalHeld, byte r.vetoRun,
      byte r.unheardRun, byte r.clashRun] ++ bytes16 r.tagsInUse

/-- The bytes of a notice (Table 11-4). -/
def Notice.bytes : Notice → List Byte
  | .state s c => [0x01#8, byte s.code, byte c.code]
  | .sendFailed k d => [0x02#8, 1#8, byte k.code, byte d]
  | .hostOverrun => [0x02#8, 2#8, 0#8, 0#8]
  | .overflow n => [0x03#8, byte n]
  | .granted t s => [0x10#8, byte t, byte s]
  | .queued t p => [0x11#8, byte t, byte p]
  | .refused t r => [0x12#8, byte t, byte r.code]
  | .cancelled t c => [0x13#8, byte t, byte c.code]
  | .released t => [0x14#8, byte t]
  | .lost t c => [0x15#8, byte t, byte c.code]
  | .extended t s => [0x16#8, byte t, byte s]
  | .tooLate t => [0x17#8, byte t]
  | .denied c r => [0x18#8, c, byte r.code]
  | .warn t n => [0x20#8, byte t] ++ bytes16 n
  | .record r => 0x21#8 :: recordBytes r
  | .roster r => 0x22#8 :: rosterBytes r
  | .status r => 0x23#8 :: statusBytes r

/-- The class of a notice as its rank in the order of reading: ALERT 0, RESULT 1, REPORT 2 (Table 10-1, R182). -/
def Notice.rank : Notice → Nat
  | .state _ _ | .sendFailed _ _ | .hostOverrun | .overflow _ => 0
  | .granted _ _ | .queued _ _ | .refused _ _ | .cancelled _ _ | .released _ | .lost _ _ | .extended _ _ | .tooLate _
  | .denied _ _ => 1
  | .warn _ _ | .record _ | .roster _ | .status _ => 2

/-- An OVERFLOW notice (R179). -/
def Notice.isOverflow : Notice → Bool
  | .overflow _ => true
  | _ => false

/-- A WARN of tag `t` (R180). -/
def Notice.isWarnOf (t : Nat) : Notice → Bool
  | .warn u _ => u == t
  | _ => false

end Sys2Proof.Machine
end

