-- ==== Sys2Proof/Machine/Ops.lean ====
section
/-! DEFINITION. The shared operations over the state: what is read of it, the writes of one entry, the posting of
notices (chapter 10), the ends of tags (R173), the places and keys of the transmit queue (R123, R124). -/

namespace Sys2Proof.Machine

/-- A station with RESETn low takes no step but the release of RESETn (R88): `f` acts only while it is high. -/
def powered (f : State → State) (s : State) : State := if s.station.resetLow then s else f s

/-! ## Readings -/

/-- Claim record `c` (R1). -/
def claimAt (s : State) (c : Nat) : ClaimRecord := Table.get ClaimRecord.free s.replica.claims c

/-- Roster entry of station `d` (R84). -/
def rosterAt (s : State) (d : Nat) : RosterEntry := Table.get .absent s.replica.roster d

/-- Tag `t` (R166). -/
def tagAt (s : State) (t : Nat) : Tag := Table.get Tag.free s.tags t

/-- Where the watch of holder `h` on claim `c` stands in the table of watches: claim order first. -/
def watchKey (c h : Nat) : Nat := c * Config.stationCount + h

/-- The lease watch of holder `h` on claim `c` (R69). -/
def watchAt (s : State) (c h : Nat) : Option Watch := Table.get none s.watch.watches (watchKey c h)

/-- The ticks left on the watch of holder `h` on claim `c`; 0 where there is none, which R69 excludes. -/
def ticksLeft (s : State) (c h : Nat) : Nat :=
  match watchAt s c h with
  | some w => w.value
  | none => 0

/-- The silence counter of station `d` (R95). -/
def silenceAt (s : State) (d : Nat) : Option Nat := Table.get none s.watch.silence d

/-- Pool occupancy: the sum of the 64 queue lengths (R27). -/
def occupancy (s : State) : Nat :=
  ((List.range Config.claimCount).map (fun c => (claimAt s c).waiters.length)).sum

/-- The claim state read from a holder list (R2, Table 1-2). -/
def claimState (holders : List HoldSlot) : ClaimState :=
  match holders with
  | [] => .free
  | h :: _ => match h.mode with
    | .sole => .sole
    | .shared => .shared

/-- The copy source: the lowest-numbered MEMBER (R85). -/
def copySource (s : State) : Option Nat :=
  (List.range Config.stationCount).find? (fun d => rosterAt s d == .member)

/-- Some station other than this one is not ABSENT (R149). -/
def listsAnother (s : State) : Bool :=
  (List.range Config.stationCount).any (fun d => d != s.station.number && rosterAt s d != .absent)

/-- The states that receive frames (R40, R137). -/
def StationState.receives : StationState → Bool
  | .listen | .entering | .awaitCopy | .member | .leaving => true
  | .localState | .sidelined | .halted => false

/-- The states that send frames (R137). -/
def StationState.sends : StationState → Bool
  | .entering | .awaitCopy | .member | .leaving => true
  | .localState | .listen | .sidelined | .halted => false

/-- The states that apply claim frames (R45). -/
def StationState.sharing : StationState → Bool
  | .member | .leaving => true
  | .localState | .listen | .entering | .awaitCopy | .sidelined | .halted => false

/-- The states with a learned roster (R46). -/
def StationState.learning : StationState → Bool
  | .listen | .entering | .awaitCopy => true
  | .localState | .member | .leaving | .sidelined | .halted => false

/-- This station loads a copy: it holds one in part, or has yet to apply the head of a train that it loads (R114). -/
def isLoading (s : State) : Bool := s.train.partialCopy || s.apply.rx.any (·.loads)

/-! ## Writes of one entry -/

/-- Claim record `c` becomes `r`. -/
def setClaim (c : Nat) (r : ClaimRecord) (s : State) : State :=
  { s with replica.claims := Table.set ClaimRecord.free s.replica.claims c r }

/-- Roster entry `d` becomes `e`. -/
def setRoster (d : Nat) (e : RosterEntry) (s : State) : State :=
  { s with replica.roster := Table.set .absent s.replica.roster d e }

/-- Tag `t` becomes `v`. -/
def setTag (t : Nat) (v : Tag) (s : State) : State := { s with tags := Table.set Tag.free s.tags t v }

/-- The watch of holder `h` on claim `c` becomes `w`. -/
def setWatch (c h : Nat) (w : Option Watch) (s : State) : State :=
  { s with watch.watches := Table.set none s.watch.watches (watchKey c h) w }

/-- The silence counter of station `d` becomes `v`; none is kept for this station (R95). -/
def setSilence (d : Nat) (v : Option Nat) (s : State) : State :=
  if d = s.station.number then s else { s with watch.silence := Table.set none s.watch.silence d v }

/-- The entries of the transmit queue become `es`. -/
def setEntries (es : List TxEntry) (s : State) : State := { s with tx.entries := es }

/-- The station state becomes `st`. -/
def setState (st : StationState) (s : State) : State := { s with station.state := st }

/-! ## Notices (chapter 10) -/

/-- The notice being read is an OVERFLOW (R179). -/
def readingOverflow (s : State) : Bool :=
  match s.port.reading with
  | some r => r.notice.isOverflow
  | none => false

/-- An OVERFLOW entry is present, unread or being read (R175). -/
def overflowPresent (s : State) : Bool := s.notices.entries.any Notice.isOverflow || readingOverflow s

/-- The number of entries present, the one being read included (R175, R183). -/
def entriesPresent (s : State) : Nat := s.notices.entries.length + (if s.port.reading.isSome then 1 else 0)

/-- The reservations held by all tags together (R175). -/
def reservations (s : State) : Nat :=
  ((List.range Config.tagCount).map (fun t => (tagAt s t).reservations)).sum

/-- The places occupied, reserved or kept for OVERFLOW (R175). -/
def placesTaken (s : State) : Nat :=
  entriesPresent s + reservations s + (if overflowPresent s then 0 else 1)

/-- The number of free places (R175). -/
def freePlaces (s : State) : Nat := Config.noticePlaces - placesTaken s

/-- A notice enters the queue as its youngest entry. -/
def push (n : Notice) (s : State) : State := { s with notices.entries := s.notices.entries ++ [n] }

/-- The dropped count of an OVERFLOW entry rises by one and stays at 255 (R179). -/
def Notice.bump : Notice → Notice
  | .overflow n => .overflow (min Config.maxCount (n + 1))
  | n => n

/-- A dropped notice is counted (R179). -/
def countDrop (s : State) : State :=
  if readingOverflow s then { s with notices.heldDrops := min Config.maxCount (s.notices.heldDrops + 1) }
  else if s.notices.entries.any Notice.isOverflow then
    { s with notices.entries := s.notices.entries.map Notice.bump }
  else push (.overflow 1) s

/-- An unreserved notice takes a free place or is dropped and counted (R179). -/
def postUnreserved (n : Notice) (s : State) : State := if 0 < freePlaces s then push n s else countDrop s

/-- The pending WARN of tag `t` is posted where a place is free: its ticks left are read now and its latch clears
(R75, R180). -/
def postPendingWarn (s : State) (t : Nat) : State :=
  if (tagAt s t).warnLatch ∧ 0 < freePlaces s then
    push (.warn t (ticksLeft s (tagAt s t).claim s.station.number))
      (setTag t { tagAt s t with warnLatch := false } s)
  else s

/-- The pending WARNs are posted, one per free place, in tag-number order (R180). -/
def postPendingWarns (s : State) : State := (List.range Config.tagCount).foldl postPendingWarn s

/-- STATE(`st`, `cause`) is posted or dropped, and STATUS reports its cause from now on (R87, R165). -/
def postState (st : StationState) (cause : StateCause) (s : State) : State :=
  postUnreserved (.state st cause) { s with station.lastCause := cause }

/-- The station moves to `st` and posts its STATE notice (R87). -/
def moveTo (st : StationState) (cause : StateCause) (s : State) : State := postState st cause (setState st s)

/-! ## Transmit queue: places, keys, entries (R123, R124) -/

/-- A frame newly queued, READY with no retry counted. -/
def newEntry (f : TxFrame) (binding : Option Nat) : TxEntry := ⟨f, binding, false, 0, false, false⟩

/-- A frame is queued with the youngest age. -/
def enqueue (f : TxFrame) (binding : Option Nat) (s : State) : State :=
  setEntries (s.tx.entries ++ [newEntry f binding]) s

/-- The bound places held: by bound entries and by accepted bound frames not yet applied (R123). -/
def boundHeld (s : State) : Nat :=
  (s.tx.entries.filter (·.binding.isSome)).length +
    (s.apply.rx.filter (fun e => e.own && e.binding.isSome)).length

/-- The internal places held: by internal entries, and by accepted internal frames not yet applied other than train
frames, whose place is the TRAIN-HEAD's entry (R108, R123). -/
def internalHeld (s : State) : Nat :=
  (s.tx.entries.filter (·.binding.isNone)).length +
    (s.apply.rx.filter (fun e => e.own && e.binding.isNone && !e.kind.isTrain)).length

/-- The bytes of a frame's payload that its key names beside the kind (R124, Table 11-2). -/
def TxFrame.keyBytes : TxFrame → List Byte
  | .drop d => [byte d]
  | .lapse c h _ => [byte c, byte h]
  | .extend c _ | .yield c | .ask c _ _ _ | .cancel c => [byte c]
  | .trainHead | .enter | .roll _ => []

/-- Two frames have the same key (R124). -/
def TxFrame.sameKey (f g : TxFrame) : Bool := f.kind == g.kind && f.keyBytes == g.keyBytes

/-- A frame of the key of `f` is in the queue, or accepted and not yet applied (R124). -/
def keyPresent (f : TxFrame) (s : State) : Bool :=
  s.tx.entries.any (fun e => e.frame.sameKey f) ||
    s.apply.rx.any (fun e => e.own && e.kind == f.kind && e.payload.take f.keyBytes.length == f.keyBytes)

/-- The offer of a READY frame bound to tag `t` is gone with the frame (R127). -/
def offerWithout (t : Nat) (s : State) : Option TxFrame :=
  if s.tx.entries.any (fun e => e.binding == some t && !e.onBus && s.tx.offered == some e.frame) then none
  else s.tx.offered

/-- Frames bound to tag `t` leave the queue, or are marked dead while ON_BUS; one offered is not opened (R127,
R134). -/
def withdrawBound (t : Nat) (s : State) : State :=
  setEntries ((s.tx.entries.filter (fun e => e.binding != some t || e.onBus)).map
    (fun e => if e.binding = some t then { e with dead := true } else e))
    { s with tx.offered := offerWithout t s }

/-- READY frames of which `p` holds leave the queue. -/
def withdrawReady (p : TxFrame → Bool) (s : State) : State :=
  setEntries (s.tx.entries.filter (fun e => e.onBus || !p e.frame)) s

/-- The queue's order: kind code, then age (R125). -/
def queueOrder (es : List TxEntry) : List TxEntry :=
  (List.range 16).flatMap (fun code => es.filter (fun e => e.frame.kind.code == code))

/-! ## Tags (chapter 9) -/

/-- The tags in use, for claim `c`, in one of the phases `ps`: the first one's number. R167 and R168 leave at most
one tag in use for a claim. -/
def findTag (s : State) (c : Nat) (ps : List Phase) : Option Nat :=
  (List.range Config.tagCount).find?
    (fun t => (tagAt s t).inUse && (tagAt s t).claim == c && ps.any (fun p => (tagAt s t).phase == some p))

/-- Every phase. -/
def allPhases : List Phase := [.sending, .waiting, .cancelling, .held, .yielding]

/-- Tag `t` ends: its frames are withdrawn, its notice takes one of its reservations and the others are returned, it
is free, its unread WARN leaves, and the places freed take pending WARNs (R134, R172, R173, R177, R180). -/
def endTag (t : Nat) (n : Notice) (s : State) : State :=
  let s1 := setTag t Tag.free (push n (withdrawBound t s))
  postPendingWarns { s1 with notices.entries := s1.notices.entries.filter (fun m => !m.isWarnOf t) }

/-- The notice with which the station controller ends a tag of a phase: LOST where it was granted, else CANCELLED
(R173). -/
def endNotice (t : Nat) (p : Option Phase) (cause : TagCause) : Notice :=
  match p with
  | some .held | some .yielding => .lost t cause
  | _ => .cancelled t cause

/-- The station controller ends tag `t` if it is in use (R173). -/
def endTagIfUsed (cause : TagCause) (s : State) (t : Nat) : State :=
  if (tagAt s t).inUse then endTag t (endNotice t (tagAt s t).phase cause) s else s

/-- The station controller ends every tag in use, in tag-number order (R173). -/
def endTags (cause : TagCause) (s : State) : State := (List.range Config.tagCount).foldl (endTagIfUsed cause) s

/-- Tag `t` is granted with slot serial `serial`: HELD, GRANTED posted into one of its reservations (R172). -/
def tagGranted (t serial : Nat) (s : State) : State :=
  push (.granted t serial) (setTag t { tagAt s t with phase := some .held, reservations := 1 } s)

end Sys2Proof.Machine
end

