-- ==== Sys2Proof/Machine/Flags.lean ====
section
/-! DEFINITION. The outputs that follow from the state: HRDY, HNOT, HATNn (R157, R158, R185) and the two bus lines'
drive (R137). -/

namespace Sys2Proof.Machine

open Sys2Proof (BusFrame)

/-- HRDY is high: RESETn is high and no complete command waits (R157, R161). -/
def hrdy (s : State) : Bool := !s.station.resetLow && (completeCommand s.port.assembler).isNone

/-- HNOT is high: a notice is partly read, or the queue holds one (R158). -/
def hnot (s : State) : Bool := s.port.reading.isSome || !s.notices.entries.isEmpty

/-- A notice draws attention under the masks (R184, R185). -/
def drawsAttention (s : State) (n : Notice) : Bool :=
  n.rank == 0 || (n.rank == 1 && !s.notices.resultMask) || (n.rank == 2 && !s.notices.reportMask)

/-- HATNn is asserted; a notice being read counts as held (R185). -/
def attention (s : State) : Bool :=
  !s.station.resetLow && (s.notices.entries.any (drawsAttention s) ||
    match s.port.reading with
    | some r => drawsAttention s r.notice
    | none => false)

/-- The frame that this station sends, as the bus shows it: header, payload and check (R141, R189). -/
def sentFrame (s : State) : Option BusFrame :=
  s.link.sending.map (fun o =>
    let f : BusFrame := ⟨BitVec.ofNat 4 o.kind.code, BitVec.ofNat 5 s.station.number, BitVec.ofNat 7 o.payload.length,
      o.payload, 0#16⟩
    { f with check := BusFrame.computedCheck f })

/-- The bits of the frame that this station sends, up to its check (R141). -/
def sentBits (s : State) : List Bool :=
  match sentFrame s with
  | some f => BusFrame.bits f
  | none => []

/-- This station drives the bus lines as the sender of a frame (R137). -/
def drivesLines (s : State) : Bool := s.link.sending.isSome

end Sys2Proof.Machine
end

