-- ==== Sys2Proof/Machine/Claims.lean ====
section
/-! DEFINITION. The operations on claim records, with the lease watches and tags they reach: grant test, grant,
extension, removal of a hold, promotion, purge, clearing (chapters 1 and 2; watches: chapter 4). -/

namespace Sys2Proof.Machine

/-! ## Lease watches (chapter 4) -/

/-- The grace of a lease of `l` ticks: max(2, floor(l/8)) (R70). -/
def grace (l : Nat) : Nat := max 2 (l / 8)

/-- The warn point of a lease of `l` ticks: floor(l/4), and 1 where that is 0 (R74). -/
def warnPoint (l : Nat) : Nat := max 1 (l / 4)

/-- The start value of a watch for holder `h` with lease `l` (R70). -/
def watchStart (s : State) (h l : Nat) : Nat := if h = s.station.number then l else l + grace l

/-- The warn latch of this station's tag for claim `c` is set, and its WARN posted at once where room exists
(R74, R180). -/
def latchWarn (c : Nat) (s : State) : State :=
  match findTag s c allPhases with
  | some t => postPendingWarns (setTag t { tagAt s t with warnLatch := true } s)
  | none => s

/-- The warn latch of this station's tag for claim `c` clears with no notice (R75). -/
def clearLatch (c : Nat) (s : State) : State :=
  match findTag s c allPhases with
  | some t => setTag t { tagAt s t with warnLatch := false } s
  | none => s

/-- A watch starts or restarts at `value` for the hold of `h` on `c` with lease `l` and slot serial `serial`; one of
this station that starts at or below its warn point warns at once (R70, R72, R74, R81). -/
def startWatchAt (c h l serial value : Nat) (s : State) : State :=
  if h = s.station.number ∧ value ≤ warnPoint l then
    latchWarn c (setWatch c h (some ⟨serial, value, true⟩) s)
  else setWatch c h (some ⟨serial, value, false⟩) s

/-- The watch of a granted or extended hold starts (R70, R72). -/
def startWatch (c h l serial : Nat) (s : State) : State := startWatchAt c h l serial (watchStart s h l) s

/-- The watch of a hold is removed; the latch of this station's own hold clears with it (R73, R75). -/
def removeWatch (c h : Nat) (s : State) : State :=
  let s1 := setWatch c h none s
  if h = s.station.number then clearLatch c s1 else s1

/-! ## Grants and promotion -/

/-- The grant test (R6, Table 1-4). -/
def grantTest (holders : List HoldSlot) (m : Mode) : Bool :=
  match holders with
  | [] => true
  | _ :: _ => m == .shared && holders.all (·.mode == .shared) && decide (holders.length < Config.maxHolders)

/-- A serial's successor: 255 is followed by 0 (R4). -/
def nextSerial (n : Nat) : Nat := (n + 1) % 256

/-- The record after a grant to `w` (R7). -/
def ClaimRecord.grant (r : ClaimRecord) (w : Waiter) : ClaimRecord :=
  { r with
    serial := nextSerial r.serial
    holders := r.holders ++ [⟨w.station, w.mode, w.lease, nextSerial r.serial⟩] }

/-- A grant on claim `c` to `w`: the record, then the slot's watch (R7). -/
def grant (c : Nat) (w : Waiter) (s : State) : State :=
  startWatch c w.station w.lease (nextSerial (claimAt s c).serial) (setClaim c ((claimAt s c).grant w) s)

/-- A grant by promotion: the head waiter leaves the queue and is granted; a grant to this station reaches its
WAITING or CANCELLING tag (R12, R15). `rest` is the queue behind the head. -/
def promoteHead (c : Nat) (w : Waiter) (rest : List Waiter) (s : State) : State :=
  let s1 := grant c w (setClaim c { claimAt s c with waiters := rest } s)
  if w.station = s.station.number then
    match findTag s1 c [.waiting, .cancelling] with
    | some t => tagGranted t (claimAt s1 c).serial s1
    | none => s1
  else s1

/-- The steps of promotion on claim `c`, whose queue is `q` (R12). -/
def promoteQueue (c : Nat) : List Waiter → State → State
  | [], s => s
  | w :: rest, s =>
    if grantTest (claimAt s c).holders w.mode then promoteQueue c rest (promoteHead c w rest s) else s

/-- A claim left without holders is FREE and its serial is 0 (R4, R12). -/
def freeSerial (c : Nat) (s : State) : State :=
  if (claimAt s c).holders = [] then setClaim c { claimAt s c with serial := 0 } s else s

/-- Promotion on claim `c` (R11, R12). -/
def promote (c : Nat) (s : State) : State := freeSerial c (promoteQueue c (claimAt s c).waiters s)

/-! ## Extension and removal -/

/-- The slot of station `h` in a holder list. -/
def slotOf (r : ClaimRecord) (h : Nat) : Option HoldSlot := r.holders.find? (fun x => x.station == h)

/-- A reference to a hold matches: the holder has a slot with that slot serial (R5). -/
def refMatches (s : State) (c h serial : Nat) : Bool :=
  match slotOf (claimAt s c) h with
  | some x => x.serial == serial
  | none => false

/-- `h` waits on claim `c`. -/
def waitsOn (s : State) (c h : Nat) : Bool := (claimAt s c).waiters.any (fun w => w.station == h)

/-- `h` holds claim `c`. -/
def holdsClaim (s : State) (c h : Nat) : Bool := (claimAt s c).holders.any (fun x => x.station == h)

/-- The LAPSE frames of this station for the hold of `h` on claim `c` leave the queue (R9, R10). -/
def withdrawLapse (c h : Nat) (s : State) : State :=
  withdrawReady (fun f => match f with
    | .lapse c' h' _ => c' == c && h' == h
    | _ => false) s

/-- The record after an extension of the slot of `h` with lease `l` (R9). -/
def ClaimRecord.extend (r : ClaimRecord) (h l : Nat) : ClaimRecord :=
  { r with
    serial := nextSerial r.serial
    holders := r.holders.map
      (fun x => if x.station = h then { x with lease := l, serial := nextSerial r.serial } else x) }

/-- An extension: the record, the LAPSE for the old serial, the old latch, then the restarted watch (R9, R72). -/
def extendHold (c h l : Nat) (s : State) : State :=
  let s1 := withdrawLapse c h (setClaim c ((claimAt s c).extend h l) s)
  let s2 := if h = s.station.number then clearLatch c s1 else s1
  startWatch c h l (nextSerial (claimAt s c).serial) s2

/-- The removal of the hold of `h` on claim `c`: slot, watch and LAPSE; promotion is the caller's (R10). -/
def removeHold (c h : Nat) (s : State) : State :=
  withdrawLapse c h (removeWatch c h
    (setClaim c { claimAt s c with holders := (claimAt s c).holders.filter (fun x => x.station != h) } s))

/-- The removal of the waiter entry of `h` on claim `c`; promotion is the caller's (R33). -/
def removeWaiter (c h : Nat) (s : State) : State :=
  setClaim c { claimAt s c with waiters := (claimAt s c).waiters.filter (fun w => w.station != h) } s

/-- `h` is the head waiter of claim `c`. -/
def isHead (s : State) (c h : Nat) : Bool :=
  match (claimAt s c).waiters with
  | [] => false
  | w :: _ => w.station == h

/-! ## Purge and clearing -/

/-- The purge of station `d` on claim `c` (R16): waiter, hold, then promotion if a hold or the head left. -/
def purgeClaim (d : Nat) (s : State) (c : Nat) : State :=
  let wasHead := isHead s c d
  let held := holdsClaim s c d
  let s1 := if waitsOn s c d then removeWaiter c d s else s
  let s2 := if held then removeHold c d s1 else s1
  if held || wasHead then promote c s2 else s2

/-- The purge of station `d`, claims 0 to 63 in order (R16). -/
def purge (d : Nat) (s : State) : State := (List.range Config.claimCount).foldl (purgeClaim d) s

/-- The clearing of the claim table and pool: every watch and LAPSE goes with it, a loader's carried ticks, and the
latches of the watches (R22, R38, R73, R75). -/
def clearTable (s : State) : State :=
  let s1 := withdrawReady (fun f => f.kind == .lapse) s
  { s1 with
    replica.claims := []
    watch.watches := []
    train.carried := []
    tags := Table.map Tag.free (fun _ v => { v with warnLatch := false }) s1.tags }

/-- The roster becomes all ABSENT, and every silence counter is removed (R95). -/
def clearRoster (s : State) : State := { s with replica.roster := [], watch.silence := [] }

end Sys2Proof.Machine
end

