-- ==== Sys2Proof/Machine/Controller.lean ====
section
/-! DEFINITION. The station controller's shared operations: leaving the bus, sidelining, halting, entering again
(chapter 5), the owed internal frames (R133), and the end of a relinked run (R68, R121). -/

namespace Sys2Proof.Machine

/-! ## Owed internal frames -/

/-- An internal frame is queued where its key is not present and an internal place is free; else it stays owed
(R124, R133). -/
def queueInternal (s : State) (f : TxFrame) : State :=
  if keyPresent f s ∨ Config.internalPlaces ≤ internalHeld s then s else enqueue f none s

/-- The DROP duty: listed stations whose silence counter stands at 4R (R96). -/
def dueDrops (s : State) : List TxFrame :=
  ((List.range Config.stationCount).filter
    (fun d => rosterAt s d != .absent && silenceAt s d == some (4 * s.station.setup.r))).map .drop

/-- The LAPSE duty on claim `c`: holds whose watch stands at 0, in holder-list order (R76, R77). -/
def dueLapsesOn (s : State) (c : Nat) : List TxFrame :=
  (claimAt s c).holders.filterMap (fun h =>
    match watchAt s c h.station with
    | some w => if w.value = 0 then some (.lapse c h.station w.serial) else none
    | none => none)

/-- The LAPSE duty, in claim order (R76, R77). -/
def dueLapses (s : State) : List TxFrame := (List.range Config.claimCount).flatMap (dueLapsesOn s)

/-- The roster shows a JOINING entry (R107). -/
def showsJoining (s : State) : Bool := (List.range Config.stationCount).any (fun d => rosterAt s d == .joining)

/-- The train duty is due (R107). -/
def dueHead (s : State) : List TxFrame :=
  if copySource s = some s.station.number ∧ showsJoining s then [.trainHead] else []

/-- The roll duty is due, with this joining flag (R94). -/
def dueRoll (s : State) (joining : Bool) : List TxFrame :=
  if s.watch.roll = some s.station.setup.r then [.roll joining] else []

/-- The internal frames that are due, by kind code and then in the order of Table 7-5. -/
def dueFrames (s : State) : List TxFrame :=
  match s.station.state with
  | .member => dueDrops s ++ dueLapses s ++ dueHead s ++ dueRoll s false
  | .entering => [.enter]
  | .awaitCopy => dueRoll s true
  | .leaving => [.drop s.station.number]
  | .localState | .listen | .sidelined | .halted => []

/-- The free internal places take the owed frames, one a place, as one event (R133). -/
def fillOwed (s : State) : State := (dueFrames s).foldl queueInternal s

/-! ## Leaving the bus -/

/-- What every withdrawal from the bus takes away: lines released, receive queue, pending-train record, transmit
queue, replica, watches, silence counters, timers, train pause, runs (R42, R101, Tables 1-6, 2-3, 4-3, 5-5, 6-3, 7-7,
8-5). Tags, notices, host port and SETUP values stay. -/
def leaveBus (s : State) : State :=
  { s with
    replica := ⟨[], []⟩
    apply := ⟨[], none⟩
    watch := { s.watch with
      pause := false
      watches := []
      silence := []
      roll := none
      listen := none
      copyWait := none
      rest := none }
    train := ⟨none, false, [], .none, false⟩
    tx := ⟨[], false, none⟩
    link := ⟨.notReceiving, 0, none, false, none, false, false, 0, 0, 0⟩
    station.disagree := 0 }

/-- The station is sidelined (R101). -/
def sideline (cause : StateCause) (s : State) : State :=
  let s1 := leaveBus (endTags .sidelined s)
  moveTo .sidelined cause { s1 with station.attempts := 0, watch.rest := some 0 }

/-- The station is halted: the steps of sidelining, with the attempt count kept and no rest timer (R103). -/
def halt (cause : StateCause) (s : State) : State :=
  moveTo .halted cause (leaveBus (endTags .sidelined s))

/-- The departure ends after the purge: tags, transmit queue, replica, receive queue, LOCAL (R59, R99). -/
def departureEnds (s : State) : State :=
  let s1 := leaveBus (endTags .left s)
  moveTo .localState .left { s1 with station.attempts := 0 }

/-! ## Entering -/

/-- The frames that an entry to ENTERING leaves in the transmit queue: ENTER, a ROLL with the joining flag set, and
what is ON_BUS until its try ends (R91, R134). -/
def keptAtEntering (e : TxEntry) : Bool :=
  e.onBus || e.frame == .enter || e.frame == .roll true

/-- Entry to ENTERING: the transmit queue is emptied of all but `keptAtEntering`, the watches and the roll, listen and
copy-wait timers stop, the ENTER of the attempt is queued, and STATE is posted (R69, R91, R97). -/
def enterEntering (cause : StateCause) (s : State) : State :=
  let s1 := setState .entering
    { s with
      tx.entries := s.tx.entries.filter keptAtEntering
      watch.watches := []
      watch.roll := none
      watch.listen := none
      watch.copyWait := none }
  postState .entering cause (queueInternal s1 .enter)

/-- Back to ENTERING from MEMBER, with the attempt count at 1 (R92, R97). -/
def enterAfresh (cause : StateCause) (s : State) : State :=
  enterEntering cause { s with station.attempts := 1 }

/-- AWAIT_COPY ends without a copy: the next attempt, or HALTED with NO_COPY where none is left (R92, R93). -/
def nextAttempt (cause : StateCause) (s : State) : State :=
  if s.station.attempts < Config.maxAttempts then
    enterEntering cause { s with station.attempts := s.station.attempts + 1 }
  else halt .noCopy s

/-- A learned entry other than this station's whose silence counter stands at 4R becomes ABSENT (R93). -/
def forgetIfSilent (s : State) (d : Nat) : State :=
  if d ≠ s.station.number ∧ silenceAt s d = some (4 * s.station.setup.r) then
    setSilence d none (setRoster d .absent s)
  else s

/-- The copy-wait expiry (R93). -/
def copyWaitExpires (s : State) : State :=
  nextAttempt .copyWait ((List.range Config.stationCount).foldl forgetIfSilent s)

/-- The copy-wait timer stands at 8R (R93). -/
def copyWaitDue (s : State) : Bool := s.watch.copyWait == some (8 * s.station.setup.r)

/-! ## An entry's return from the bus -/

/-- The entry ON_BUS; there is at most one. -/
def onBusEntry (s : State) : Option TxEntry := s.tx.entries.find? (·.onBus)

/-- The entries without the one ON_BUS. -/
def withoutOnBus (s : State) : List TxEntry := s.tx.entries.filter (fun e => !e.onBus)

/-- An internal entry that returns to READY is withdrawn: in LEAVING all but DROP of itself, in ENTERING all but
ENTER and a joining ROLL (R91, R98, R134). -/
def withdrawnOnReturn (e : TxEntry) (s : State) : Bool :=
  e.binding.isNone && match s.station.state with
    | .leaving => e.frame != .drop s.station.number
    | .entering => e.frame != .enter && e.frame != .roll true
    | _ => false

/-- The retry count after a try. -/
def retriesAfter (counted : Bool) (e : TxEntry) : Nat := if counted then e.retries + 1 else e.retries

/-- The entry ON_BUS stands READY again with its retry count. -/
def readyAgain (counted : Bool) (s : State) : State :=
  setEntries (s.tx.entries.map
    (fun x => if x.onBus then { x with onBus := false, retries := retriesAfter counted x } else x)) s

/-- The return of a TRAIN-HEAD: READY with at most one retry counted for the whole train, or withdrawn in LEAVING; at
the retry limit the station is sidelined with SEND_JAM (R120, R132). -/
def trainReturn (counted : Bool) (e : TxEntry) (s : State) : State :=
  let s1 := { s with train.composer := none, train.failed := false }
  if withdrawnOnReturn e s1 then setEntries (withoutOnBus s1) s1
  else if counted ∧ s1.station.setup.retryLimit ≤ retriesAfter counted e then sideline .sendJam s1
  else readyAgain counted s1

/-- At the end of the run of a train that ended incomplete, its TRAIN-HEAD returns with one retry counted (R120). -/
def returnHead (s : State) : State :=
  match onBusEntry s with
  | some e => if s.train.failed ∧ e.frame = .trainHead then trainReturn true e s else s
  | none => s

/-! ## The relinked run of a train -/

/-- The bus stands IDLE: the idle time restarts, the train pause clears, and a run whose TRAIN-TAIL was not accepted
has ended (R68, R138). -/
def idleBus (s : State) : State :=
  { s with
    link.bus := .idle
    link.idleCycles := 0
    link.chain := false
    watch.pause := false
    train.run := match s.train.run with
      | .running => .ended
      | r => r }

/-- The bus becomes IDLE, which ends the run of this station's own train too (R68, R120, R138). -/
def busToIdle (s : State) : State := returnHead (idleBus s)

/-- The loader stops loading; the record itself stays until the next accepted frame (R121). -/
def stopLoading (s : State) : State :=
  { s with
    apply.record := s.apply.record.map (fun r => { r with loading := false })
    link.train := s.link.train.map (fun r => { r with loads := false })
    train.partialCopy := false }

/-- A loader discards its partial copy (R121): in AWAIT_COPY a held copy-wait expiry is taken; a mistaken founder ends
its tags COPY and enters again. -/
def discardCopy (s : State) : State :=
  let s1 := clearTable (stopLoading s)
  match s.station.state with
  | .awaitCopy => if copyWaitDue s1 then copyWaitExpires s1 else s1
  | .member => enterAfresh .copy (endTags .copy s1)
  | .localState | .listen | .entering | .leaving | .sidelined | .halted => s1

/-- The end of an incomplete run (R121). -/
def endRun (s : State) : State :=
  let s1 := { s with train.run := .none }
  if s.train.partialCopy then discardCopy s1 else s1

/-- A train frame accepted earlier still waits to be applied. -/
def trainFrameWaits (s : State) : Bool := s.apply.rx.any (·.kind.isTrain)

/-- The end of an incomplete run is taken once the bus has returned to idle and the train frames accepted before have
been applied (R121; log entry 13). -/
def settleRun (s : State) : State :=
  if s.train.run = .ended ∧ trainFrameWaits s = false then endRun s else s

end Sys2Proof.Machine
end

