-- ==== Sys2Proof/Machine/Timers.lean ====
section
/-! DEFINITION. Time: TICK, the expiries, the owed frames and the pending WARNs as steps (chapters 4, 5, 7, 10), and
one REFCLK cycle, which is what passes on an empty queue of steps. -/

namespace Sys2Proof.Machine

/-! ## The tick (R67, R68, R71, R74) -/

/-- The lease length of this station's own hold on claim `c`. -/
def ownLease (s : State) (c : Nat) : Nat :=
  match slotOf (claimAt s c) s.station.number with
  | some x => x.lease
  | none => 0

/-- A counted tick lowers a watch above 0 by one; one of this station that it lowers to its warn point, not warned
yet, is marked warned (R71, R74). `k` is the watch's place. -/
def tickWatch (s : State) (k : Nat) (w : Option Watch) : Option Watch :=
  match w with
  | none => none
  | some w =>
    if w.value = 0 then some w
    else if k % Config.stationCount = s.station.number ∧ w.warned = false ∧
        w.value - 1 = warnPoint (ownLease s (k / Config.stationCount)) then
      some { w with value := w.value - 1, warned := true }
    else some { w with value := w.value - 1 }

/-- The watch of this station's hold on `c` is warned. -/
def isWarned (s : State) (c : Nat) : Bool :=
  match watchAt s c s.station.number with
  | some w => w.warned
  | none => false

/-- The latch of this station's tag for `c` is set if its watch has become warned since `before` (R74). -/
def latchIfWarned (before : State) (s : State) (c : Nat) : State :=
  if isWarned before c = false ∧ isWarned s c then
    match findTag s c allPhases with
    | some t => setTag t { tagAt s t with warnLatch := true } s
    | none => s
  else s

/-- A counted tick on the lease watches: all are lowered as one event, the latches are set, and WARNs are posted where
room exists, in tag-number order (R71, R74, R180; log entry 8). -/
def tickLeases (s : State) : State :=
  let s1 := { s with watch.watches := Table.map none (tickWatch s) s.watch.watches }
  postPendingWarns ((List.range Config.claimCount).foldl (latchIfWarned s) s1)

/-- A counted tick on the silence counters: each counts up to 4R (R95). -/
def tickSilence (s : State) : State :=
  { s with watch.silence :=
      Table.map none (fun _ v => v.map (fun n => min (4 * s.station.setup.r) (n + 1))) s.watch.silence }

/-- A timer that runs counts one tick and stays at its limit. -/
def tickTimer (limit : Nat) (t : Option Nat) : Option Nat := t.map (fun n => min limit (n + 1))

/-- The roll, listen, copy-wait and rest timers and the assembly age count every tick (R68, R90, R93, R94, R102,
R159). -/
def tickTimers (s : State) : State :=
  { s with
    watch.roll := tickTimer s.station.setup.r s.watch.roll
    watch.listen := tickTimer (3 * s.station.setup.r) s.watch.listen
    watch.copyWait := tickTimer (8 * s.station.setup.r) s.watch.copyWait
    watch.rest := tickTimer s.station.setup.r s.watch.rest
    port.age :=
      if s.port.assembler ≠ [] ∧ completeCommand s.port.assembler = none then
        min Config.assemblyAgeLimit (s.port.age + 1)
      else s.port.age }

/-- The end of a tick (R67): a paused tick is not counted by lease watches and silence counters (R68). -/
def tick (s : State) : State :=
  let s1 := tickTimers { s with watch.tickCount := 0 }
  if s1.watch.pause then s1 else tickLeases (tickSilence s1)

/-- TICK (R67). -/
def execTick (s : State) : Host.Outcome State Fault Refusal := .next (powered tick s)

/-! ## One cycle of REFCLK -/

/-- REFCLK cycles of one own bit time (Table 8-3). -/
def cyclesPerBit (s : State) : Nat := 256 >>> s.station.setup.bitRate

/-- The idle time counts while the bus is IDLE, up to the fair gap, the longest it is compared with (R138). -/
def countIdle (cycles : Nat) (s : State) : State :=
  if s.link.bus = .idle then
    { s with link.idleCycles := min (Config.fairGap * cyclesPerBit s) (s.link.idleCycles + cycles) }
  else s

/-- One cycle of REFCLK: the idle time and the tick divider count; the divider ends a tick at tick units × 800
cycles (R67, R138). -/
def clockCycle (s : State) : State :=
  let s1 := countIdle 1 s
  if s1.station.setup.tickUnits * Config.cyclesPerUnit ≤ s1.watch.tickCount + 1 then tick s1
  else { s1 with watch.tickCount := s1.watch.tickCount + 1 }

/-! ## Expiries and duties -/

/-- A frame of kind `k` is due and its key is not present (R124, R133). -/
def owes (k : FrameKind) (s : State) : Bool := (dueFrames s).any (fun f => f.kind == k && !keyPresent f s)

/-- A lease watch stands at 0 in MEMBER without its LAPSE: the owed frames take the free internal places, by kind
code (R76, R77, R133). -/
def leaseWatchExpiry (s : State) : State :=
  if s.station.state = .member ∧ owes .lapse s then fillOwed s else s

/-- The roll duty is due without its ROLL (R94, R133). -/
def rollDue (s : State) : State := if owes .roll s then fillOwed s else s

/-- A silence counter stands at 4R in MEMBER without its DROP (R96, R133). -/
def silenceExpiry (s : State) : State :=
  if s.station.state = .member ∧ owes .drop s then fillOwed s else s

/-- The listen timer stands at 3R (R90). -/
def listenTimerExpiry (s : State) : State :=
  if s.station.state = .listen ∧ s.watch.listen = some (3 * s.station.setup.r) then
    enterEntering .listened { s with station.attempts := 1 }
  else s

/-- The copy-wait timer stands at 8R and no train is being loaded (R93). -/
def copyWaitExpiry (s : State) : State :=
  if s.station.state = .awaitCopy ∧ copyWaitDue s ∧ isLoading s = false then copyWaitExpires s else s

/-- The rest timer stands at R: back to LISTEN as a receiver only, the bus BUSY until both lines have been high for
the normal gap (R102, R138). -/
def restTimerExpiry (s : State) : State :=
  if s.station.state = .sidelined ∧ s.watch.rest = some s.station.setup.r then
    moveTo .listen .rested
      { s with
        replica.roster := []
        watch.rest := none
        watch.listen := some 0
        link.bus := .busy
        link.idleCycles := 0
        link.vetoRun := 0
        link.unheardRun := 0
        link.clashRun := 0 }
  else s

/-- LEASE_WATCH_EXPIRY (R76). -/
def execLeaseWatchExpiry (s : State) : Host.Outcome State Fault Refusal := .next (powered leaseWatchExpiry s)

/-- ROLL_DUE (R94). -/
def execRollDue (s : State) : Host.Outcome State Fault Refusal := .next (powered rollDue s)

/-- SILENCE_EXPIRY (R96). -/
def execSilenceExpiry (s : State) : Host.Outcome State Fault Refusal := .next (powered silenceExpiry s)

/-- LISTEN_TIMER_EXPIRY (R90). -/
def execListenTimerExpiry (s : State) : Host.Outcome State Fault Refusal := .next (powered listenTimerExpiry s)

/-- COPY_WAIT_EXPIRY (R93). -/
def execCopyWaitExpiry (s : State) : Host.Outcome State Fault Refusal := .next (powered copyWaitExpiry s)

/-- REST_TIMER_EXPIRY (R102). -/
def execRestTimerExpiry (s : State) : Host.Outcome State Fault Refusal := .next (powered restTimerExpiry s)

/-- OWED_FRAME_QUEUE (R133). -/
def execOwedFrameQueue (s : State) : Host.Outcome State Fault Refusal := .next (powered fillOwed s)

/-- WARN_POST (R180). -/
def execWarnPost (s : State) : Host.Outcome State Fault Refusal := .next (powered postPendingWarns s)

end Sys2Proof.Machine
end

