-- ==== Sys2Proof/Machine/Receive.lean ====
section
/-! DEFINITION. The link controller as a receiver: the tests before the veto slot, the two slots, acceptance, and the
end of a frame: FRAME_RECEIVE (6.2, 6.3, 8.6 to 8.8, R152). -/

namespace Sys2Proof.Machine

open Sys2Proof (Byte BusFrame FrameEnd)

/-! ## The pending train as the link controller reads it -/

/-- The frame on the bus was opened by RELINK directly after the last accepted frame of the pending train (R111,
R145). -/
def relinkContinues (s : State) : Bool := s.link.bus == .inRelinked && s.link.chain && s.link.train.isSome

/-- A frame of this kind now on the bus is a relinked continuation of the pending train (R111). -/
def continues (k : FrameKind) (s : State) : Bool := relinkContinues s && (k == .trainClaim || k == .trainTail)

/-- Bit `n` of a mask: the mask lists station `n` (R190). -/
def maskLists (m : BitVec 32) (n : Nat) : Bool := m.getLsbD n

/-- A TRAIN-HEAD fails a test of Table 6-2 (R112). -/
def headOutOfContext (sender : Nat) (payload : List Byte) (s : State) : Bool :=
  (s.link.bus == .inRelinked && s.link.train.isSome) ||
    match parseHead payload with
    | none => true
    | some h =>
      decide (Config.claimCount < h.k) || decide (Config.poolSize < h.occupancy) || !maskLists h.members sender ||
        (h.members &&& h.joining) != 0#32

/-- A claim number is not above the last accepted one of the train (R112). -/
def notAbove (last : Option Nat) (c : Nat) : Bool :=
  match last with
  | some l => decide (c ≤ l)
  | none => false

/-- A TRAIN-CLAIM fails a test of Table 6-2 (R112). -/
def claimOutOfContext (sender : Nat) (payload : List Byte) (s : State) : Bool :=
  match s.link.train, parseClaim payload with
  | some r, some f =>
    !continues .trainClaim s || sender != r.sender || decide (r.k ≤ r.count) ||
      decide (Config.claimCount ≤ f.claim) || notAbove r.lastClaim f.claim || f.holders.isEmpty ||
      decide (Config.maxHolders < f.holders.length)
  | _, _ => true

/-- A TRAIN-TAIL fails a test of Table 6-2 (R112). -/
def tailOutOfContext (sender : Nat) (payload : List Byte) (s : State) : Bool :=
  match s.link.train, parseTail payload with
  | some r, some _ => !continues .trainTail s || sender != r.sender || decide (r.count < r.k)
  | _, _ => true

/-! ## A loader's content tests -/

/-- A lease is 0 or above 4095. -/
def leaseOutOfRange (l : Nat) : Bool := l == 0 || decide (Config.maxLease < l)

/-- The holders are one SOLE slot or one to four SHARED slots (R115). -/
def holdersShaped (hs : List HoldSlot) : Bool :=
  match hs with
  | [] => false
  | [_] => true
  | _ :: _ :: _ => hs.all (·.mode == .shared) && decide (hs.length ≤ Config.maxHolders)

/-- The stations that a TRAIN-CLAIM names. -/
def ClaimFields.stations (f : ClaimFields) : List Nat :=
  f.holders.map (·.1.station) ++ f.waiters.map (·.station)

/-- A TRAIN-CLAIM fails a content test of the loading station `self` (R37, R115). -/
def claimContentFails (self : Nat) (r : LinkTrain) (f : ClaimFields) : Bool :=
  !holdersShaped (f.holders.map (·.1)) ||
    f.holders.any (fun h => leaseOutOfRange h.1.lease || decide (h.1.lease + grace h.1.lease < h.2)) ||
    f.waiters.any (fun w => leaseOutOfRange w.lease) ||
    f.stations.any (fun d => !maskLists r.members d) ||
    !decide f.stations.Nodup ||
    f.stations.any (fun d => d == self) ||
    decide (r.occupancy < r.runOccupancy + f.waiters.length)

/-- The canonical bytes of `n` FREE claims with serial 0 (R191). -/
def freeClaimBytes (n : Nat) : List Byte := List.replicate (3 * n) 0#8

/-- The next claim number a running digest has not taken in yet. -/
def LinkTrain.nextClaim (r : LinkTrain) : Nat :=
  match r.lastClaim with
  | some c => c + 1
  | none => 0

/-- The running digest after a TRAIN-CLAIM: the claims between are FREE (R147). -/
def LinkTrain.digestWith (r : LinkTrain) (f : ClaimFields) : BitVec 16 :=
  crcFrom r.runDigest
    (freeClaimBytes (f.claim - r.nextClaim) ++ canonicalClaim ⟨f.serial, f.holders.map (·.1), f.waiters⟩)

/-- The digest of the loaded copy, the claims after the last one being FREE (R147). -/
def LinkTrain.finalDigest (r : LinkTrain) : BitVec 16 :=
  crcFrom r.runDigest (freeClaimBytes (Config.claimCount - r.nextClaim))

/-- A TRAIN-TAIL fails the occupancy or the digest test of a loading station (R37, R116). -/
def tailContentFails (r : LinkTrain) (d : BitVec 16) : Bool := r.runOccupancy != r.occupancy || r.finalDigest != d

/-- This station loads the pending train, and a content test of it fails (R115, R116). -/
def contentFails (k : FrameKind) (payload : List Byte) (s : State) : Bool :=
  match s.link.train with
  | none => false
  | some r =>
    r.loads && match k with
      | .trainClaim => match parseClaim payload with
        | some f => claimContentFails s.station.number r f
        | none => true
      | .trainTail => match parseTail payload with
        | some d => tailContentFails r d
        | none => true
      | _ => false

/-! ## The veto -/

/-- A train frame is out of context, or its tail fails (R112, R115, R116). -/
def trainFrameFails (k : FrameKind) (sender : Nat) (payload : List Byte) (s : State) : Bool :=
  match k with
  | .trainHead => headOutOfContext sender payload s || !s.apply.rx.isEmpty
  | .trainClaim => claimOutOfContext sender payload s || contentFails .trainClaim payload s
  | .trainTail => tailOutOfContext sender payload s || contentFails .trainTail payload s
  | _ => false

/-- The kind, the length or the context of a frame gives a veto (Table 8-1, Table 8-2). -/
def kindVeto (f : BusFrame) (s : State) : Bool :=
  match FrameKind.ofCode f.kind.toNat with
  | none => true
  | some k => !k.lengthOk f.length.toNat || trainFrameFails k f.sender.toNat f.payload s

/-- A relinked frame that is not a TRAIN-CLAIM or TRAIN-TAIL (Table 8-1). -/
def relinkedOther (f : BusFrame) (s : State) : Bool :=
  s.link.bus == .inRelinked && f.kind != 7#4 && f.kind != 8#4

/-- A veto reason of Table 8-1 that counts in the veto run (R146, R152). -/
def countingVeto (f : BusFrame) (s : State) : Bool :=
  f.check != BusFrame.computedCheck f || kindVeto f s || decide (Config.rxSize ≤ s.apply.rx.length) ||
    f.sender.toNat == s.station.number || relinkedOther f s

/-- A TRAIN-HEAD from a station that is not this station's copy source, which does not name this station (R113). -/
def nonSourceHead (f : BusFrame) (s : State) : Bool :=
  f.kind == 6#4 && s.station.state.sharing && copySource s != some f.sender.toNat &&
    match parseHead f.payload with
    | some h => !maskLists h.joining s.station.number
    | none => false

/-- This station drives its veto slot low (R146). -/
def vetoes (f : BusFrame) (s : State) : Bool := countingVeto f s || nonSourceHead f s

/-! ## Acceptance -/

/-- This station loads the train of a TRAIN-HEAD it accepts (R114). -/
def loadsTrain (h : HeadFields) (s : State) : Bool :=
  (s.station.state == .awaitCopy || s.station.state == .member) && maskLists h.joining s.station.number

/-- The record as a TRAIN-HEAD's acceptance sets it, with the running digest begun by the member mask (R111, R147). -/
def LinkTrain.start (sender : Nat) (h : HeadFields) (loads : Bool) : LinkTrain :=
  ⟨sender, h.members, h.joining, h.k, h.occupancy, 0, none, loads, 0, crc (maskBytes h.members)⟩

/-- The record as a TRAIN-CLAIM's acceptance sets it (R111, R147). -/
def LinkTrain.advance (r : LinkTrain) (f : ClaimFields) : LinkTrain :=
  { r with
    count := r.count + 1
    lastClaim := some f.claim
    runOccupancy := r.runOccupancy + f.waiters.length
    runDigest := r.digestWith f }

/-- The link controller's record after the acceptance of a frame; `own` heads are not loaded. The acceptance of a
TRAIN-TAIL or of a frame that is no continuation ends it (R66, R111; log entry 27). -/
def trainAfter (k : FrameKind) (sender : Nat) (payload : List Byte) (own : Bool) (s : State) : Option LinkTrain :=
  match k with
  | .trainHead => (parseHead payload).map (fun h => LinkTrain.start sender h (!own && loadsTrain h s))
  | .trainClaim =>
    if continues .trainClaim s then
      match s.link.train, parseClaim payload with
      | some r, some f => some (r.advance f)
      | r, _ => r
    else none
  | _ => none

/-- The mark of a received TRAIN-HEAD that this station loads its train (R114). -/
def entryLoads (k : FrameKind) (payload : List Byte) (own : Bool) (s : State) : Bool :=
  k == .trainHead && !own && match parseHead payload with
    | some h => loadsTrain h s
    | none => false

/-- Where the relinked run stands after an acceptance (R68, R110). -/
def runAfter (k : FrameKind) (s : State) : TrainRun :=
  if k = .trainHead then .running else if continues .trainTail s ∧ k = .trainTail then .none else s.train.run

/-- A frame is accepted, as a receiver's or as the sender's own: the receive queue, the train record and the train
pause (R39, R40, R68, R111, R147 to R149). -/
def acceptFrame (k : FrameKind) (sender : Nat) (payload : List Byte) (own : Bool) (binding : Option Nat)
    (s : State) : State :=
  { s with
    apply.rx := s.apply.rx ++ [⟨k, sender, payload, own, binding, continues k s, entryLoads k payload own s⟩]
    link.train := trainAfter k sender payload own s
    link.chain := k == .trainHead || (k == .trainClaim && continues k s)
    watch.pause := k == .trainHead || s.watch.pause
    train.run := runAfter k s }

/-! ## The end of a frame -/

/-- The end phase of a frame as a receiver takes it (R145). -/
def endFrame (e : FrameEnd) (s : State) : State :=
  match e with
  | .close => busToIdle s
  | .relink => { s with link.bus := .inRelinked }
  | .noEnd => { s with link.bus := .busy, link.chain := false }

/-! ## FRAME_RECEIVE -/

/-- The station takes frames from the bus: it receives, is not the sender, and a frame may open or be open (R137,
R138). -/
def receiving (s : State) : Bool :=
  s.station.state.receives && s.link.sending.isNone &&
    (s.link.bus == .idle || s.link.bus == .inFrame || s.link.bus == .inRelinked)

/-- A frame vetoed here or by another receiver is discarded; a counting veto raises the veto run, and the eighth
sidelines the station, whose lines are then released whatever the frame's end (R148, R152, R101). -/
def refuseFrame (counts : Bool) (e : FrameEnd) (s : State) : State :=
  let s1 := { s with
    link.chain := false
    link.vetoRun := if counts then s.link.vetoRun + 1 else s.link.vetoRun }
  if counts ∧ Config.vetoRunLimit ≤ s1.link.vetoRun then sideline .vetoRun s1 else endFrame e s1

/-- A frame accepted as a receiver: the veto run and the fair-gap mark clear (R148, R152, R135). -/
def takeFrame (k : FrameKind) (f : BusFrame) (e : FrameEnd) (s : State) : State :=
  let s1 := acceptFrame k f.sender.toNat f.payload false none s
  endFrame e { s1 with link.vetoRun := 0, tx.fairGap := false }

/-- The two slots of a frame of another station and its end (R144, R146, R148). -/
def slotsOf (f : BusFrame) (otherVeto : Bool) (e : FrameEnd) (s : State) : State :=
  let s1 := { s with link.droveVeto := vetoes f s, link.droveHeard := !vetoes f s }
  if vetoes f s ∨ otherVeto then refuseFrame (countingVeto f s) e s1
  else
    match FrameKind.ofCode f.kind.toNat with
    | some k => takeFrame k f e s1
    | none => s1

/-- A frame of another station ends an offer of this one (R139); the end of an incomplete run is taken before it. Bits
that are not a whole frame are no frame's (R141; log entry 23). -/
def receiveFrame (sampled : List Bool) (otherVeto : Bool) (e : FrameEnd) (s : State) : State :=
  match readFrame sampled with
  | some f =>
    if receiving s then
      let s1 := settleRun { s with tx.offered := none }
      if receiving s1 then slotsOf f otherVeto e s1 else s1
    else s
  | none => s

/-- FRAME_RECEIVE (R148). -/
def execFrameReceive (sampled : List Bool) (otherVeto : Bool) (ending : FrameEnd) (s : State) :
    Host.Outcome State Fault Refusal :=
  .next (powered (receiveFrame sampled otherVeto ending) s)

end Sys2Proof.Machine
end

