-- ==== Sys2Proof/Machine/Send.lean ====
section
/-! DEFINITION. The transmit queue at the bus: revalidation, offer, opening and composing (FRAME_OPEN), the outcomes
of a try (TRY_OUTCOME), and the line events that end frames (STALL, FRAME_BREAK, LINE_STUCK, BUS_IDLE_RETURN,
LINE_FALL_WITHOUT_OPEN, TRAIN_RUN_END) (6.1, 6.5, chapter 7, 8.1, 8.2, 8.6, 8.9). -/

namespace Sys2Proof.Machine

open Sys2Proof (Byte FrameEnd Sampled TryEnd)

/-! ## Eligibility and revalidation -/

/-- A frame may be offered in a station state (Table 7-2). `self` is this station. -/
def eligible (self : Nat) (st : StationState) (f : TxFrame) : Bool :=
  match st with
  | .entering => f == .enter || f == .roll true
  | .awaitCopy => f == .roll true
  | .member => f != .roll true
  | .leaving => f == .drop self
  | .localState | .listen | .sidelined | .halted => false

/-- An entry is stale at revalidation (Table 7-3, R119; log entry 35). -/
def isStale (e : TxEntry) (s : State) : Bool :=
  match e.frame with
  | .lapse c h serial => !refMatches s c h serial
  | .drop d => e.superseded || rosterAt s d == .absent
  | .yield c => !holdsClaim s c s.station.number
  | .extend c _ => !holdsClaim s c s.station.number
  | .cancel c => !waitsOn s c s.station.number
  | .ask _ _ _ _ => rosterAt s s.station.number != .member
  | .roll true => e.superseded || s.station.state.sharing
  | .roll false => e.superseded || s.station.state != .member
  | .trainHead => !showsJoining s || copySource s != some s.station.number
  | .enter => s.station.state != .entering

/-- Tag `t` ends if it is in use. -/
def endIfUsed (t : Nat) (n : Notice) (s : State) : State := if (tagAt s t).inUse then endTag t n s else s

/-- TOO_LATE for tag `t` where it is HELD (R55, R128, R171). -/
def tooLateIfHeld (t : Nat) (s : State) : State :=
  if (tagAt s t).phase = some .held then postUnreserved (.tooLate t) s else s

/-- The extend-in-flight flag of tag `t` clears (R52, R128, R131). -/
def clearExtend (t : Nat) (s : State) : State := setTag t { tagAt s t with extendInFlight := false } s

/-- What the removal of a stale entry does to its tag (Table 7-3). -/
def staleEffect (e : TxEntry) (s : State) : State :=
  match e.frame, e.binding with
  | .ask _ _ _ _, some t => endIfUsed t (.refused t .notMember) s
  | .cancel _, some t => tooLateIfHeld t s
  | .extend _ _, some t => if (tagAt s t).inUse then clearExtend t s else s
  | _, _ => s

/-- A READY entry that is still in the queue and stale is removed, with its effect (R127, R128). -/
def withdrawIfStale (s : State) (e : TxEntry) : State :=
  if s.tx.entries.contains e ∧ isStale e s then
    staleEffect e (setEntries (s.tx.entries.filter (fun x => x != e)) s)
  else s

/-- The READY entries. -/
def readyEntries (s : State) : List TxEntry := s.tx.entries.filter (fun e => !e.onBus)

/-- Revalidation: every READY entry, in queue order (R127). -/
def revalidate (s : State) : State := (queueOrder (readyEntries s)).foldl withdrawIfStale s

/-! ## Offer and opening -/

/-- The first READY entry that is eligible, in queue order (R125, R126). -/
def firstEligible (s : State) : Option TxEntry :=
  (queueOrder (readyEntries s)).find? (fun e => eligible s.station.number s.station.state e.frame)

/-- A frame of kind 0x9 or higher, which the fair gap governs (R135). -/
def fairKind (k : FrameKind) : Bool := decide (9 ≤ k.code)

/-- The idle time has reached `bits` own bit times (R138). -/
def idleFor (bits : Nat) (s : State) : Bool := decide (bits * cyclesPerBit s ≤ s.link.idleCycles)

/-- The offer after revalidation: nothing while the fair gap holds the first eligible entry back (R127, R135). -/
def offer (s : State) : State :=
  { s with tx.offered :=
      match firstEligible s with
      | some e =>
        if fairKind e.frame.kind && s.tx.fairGap && !idleFor Config.fairGap s then none else some e.frame
      | none => none }

/-- The claims with holders after claim `last`, in claim order (R109). -/
def laterClaims (last : Option Nat) (s : State) : List Nat :=
  (List.range Config.claimCount).filter (fun c => !(claimAt s c).holders.isEmpty && !notAbove last c)

/-- The fields of this station's TRAIN-HEAD (R109). -/
def headFields (s : State) : HeadFields :=
  ⟨rosterMask s.replica.roster .member, rosterMask s.replica.roster .joining, (laterClaims none s).length, occupancy s⟩

/-- The fields of the TRAIN-CLAIM for claim `c` (R109, R82). -/
def claimFields (c : Nat) (s : State) : ClaimFields :=
  ⟨c, (claimAt s c).serial, (claimAt s c).holders.map (fun h => (h, ticksLeft s c h.station)), (claimAt s c).waiters⟩

/-- The slot serial of this station's own slot on claim `c` (R50); 0 where it has none, which revalidation rules out. -/
def ownSerial (s : State) (c : Nat) : Nat :=
  match slotOf (claimAt s c) s.station.number with
  | some x => x.serial
  | none => 0

/-- A frame composed at its opening (Table 7-1). -/
def compose (f : TxFrame) (s : State) : OwnFrame :=
  match f with
  | .drop d => ⟨.drop, [byte d]⟩
  | .lapse c h serial => ⟨.lapse, lapseBytes c h serial⟩
  | .extend c l => ⟨.extend, extendBytes c (ownSerial s c) l⟩
  | .yield c => ⟨.yield, yieldBytes c (ownSerial s c)⟩
  | .trainHead => ⟨.trainHead, headBytes (headFields s)⟩
  | .ask c m noWait l => ⟨.ask, askBytes c m noWait l⟩
  | .cancel c => ⟨.cancel, [byte c]⟩
  | .enter => ⟨.enter, []⟩
  | .roll true => ⟨.roll, rollBytes true 0#16⟩
  | .roll false => ⟨.roll, rollBytes false (digest s.replica)⟩

/-- The offered entry, still READY and eligible, is opened: CBD is pulled low, the entry is ON_BUS, the frame is
composed, and the fair-gap mark clears for a frame that it governs (R127, R135, R139). -/
def openEntry (e : TxEntry) (s : State) : State :=
  { s with
    tx.entries := s.tx.entries.map (fun x => if x = e then { x with onBus := true } else x)
    tx.offered := none
    tx.fairGap := if fairKind e.frame.kind then false else s.tx.fairGap
    train.composer := if e.frame = .trainHead then some ⟨(headFields s).k, 0, none⟩ else s.train.composer
    link.sending := some (compose e.frame s)
    link.bus := .inFrame
    link.chain := false
    link.idleCycles := 0 }

/-- The READY entry of the offered frame, if it is still there and eligible (R127). -/
def offeredEntry (s : State) : Option TxEntry :=
  match s.tx.offered with
  | some f =>
    (readyEntries s).find? (fun e => e.frame == f && eligible s.station.number s.station.state e.frame)
  | none => none

/-- The station pulls CBD low for what it offers, or the opening is cancelled (R127, R139). -/
def pullOffered (s : State) : State :=
  match offeredEntry s with
  | some e => openEntry e s
  | none => { s with tx.offered := none }

/-- The station may open a frame (R127, R139): the normal gap has passed, nothing is unapplied, an entry is READY. -/
def mayOpen (s : State) : Bool :=
  s.link.bus == .idle && s.station.state.sends && s.link.sending.isNone && s.apply.rx.isEmpty &&
    idleFor Config.normalGap s && !(readyEntries s).isEmpty

/-- The two halves of an opening (R127, R139; log entry 18): revalidation and offer, then the pull. A pull with
nothing offered yet revalidates and offers first. -/
def openFrame (pull : Bool) (s : State) : State :=
  if mayOpen s then
    if pull ∧ s.tx.offered.isSome then pullOffered s
    else if pull then pullOffered (offer (revalidate s))
    else offer (revalidate s)
  else s

/-- `elapsed` more own bit times of idle pass, then the station may open (R138, R139). -/
def frameOpen (elapsed : Nat) (pull : Bool) (s : State) : State :=
  openFrame pull (settleRun (countIdle (elapsed * cyclesPerBit s) s))

/-- FRAME_OPEN (R139). -/
def execFrameOpen (elapsed : Nat) (pull : Bool) (s : State) : Host.Outcome State Fault Refusal :=
  .next (powered (frameOpen elapsed pull) s)

/-! ## An entry's return to READY -/

/-- The detail of FAULT(SEND_FAILED): the claim, or the subject station, or 0 (R131, R132). -/
def TxFrame.detail : TxFrame → Nat
  | .drop d => d
  | .lapse c _ _ | .extend c _ | .yield c | .ask c _ _ _ | .cancel c => c
  | .trainHead | .enter | .roll _ => 0

/-- What a frame removed at the retry limit does to its tag, or an internal frame queued again at once (R131, R132,
R171). -/
def limitEffect (f : TxFrame) (binding : Option Nat) (s : State) : State :=
  match binding with
  | some t =>
    match f with
    | .ask _ _ _ _ => endIfUsed t (.refused t .link) s
    | .yield _ =>
      if (tagAt s t).phase = some .yielding then setTag t { tagAt s t with phase := some .held } s else s
    | .cancel _ =>
      if (tagAt s t).phase = some .cancelling then setTag t { tagAt s t with phase := some .waiting } s
      else tooLateIfHeld t s
    | .extend _ _ => if (tagAt s t).inUse then clearExtend t s else s
    | _ => s
  | none =>
    match f with
    | .enter => if s.station.state = .entering then queueInternal s .enter else s
    | .drop d =>
      if s.station.state = .leaving ∧ d = s.station.number then queueInternal s (.drop d) else s
    | _ => s

/-- The retry limit: the entry leaves, FAULT(SEND_FAILED) is posted before the tag's notice (R131, R132). -/
def atLimit (e : TxEntry) (s : State) : State :=
  limitEffect e.frame e.binding
    (postUnreserved (.sendFailed e.frame.kind e.frame.detail) (setEntries (withoutOnBus s) s))

/-- A bound ASK whose tag has cancel-pending set: its tag (R130). -/
def cancelPendingOf (e : TxEntry) (s : State) : Option Nat :=
  match e.frame, e.binding with
  | .ask _ _ _ _, some t => if (tagAt s t).inUse && (tagAt s t).cancelPending then some t else none
  | _, _ => none

/-- This station's train ends incomplete: its TRAIN-HEAD stays ON_BUS until the bus is idle (R120, R129). -/
def failTrain (s : State) : State := { s with train.failed := true }

/-- The entry ON_BUS returns to READY; the tests of R129 follow in order. A TRAIN-HEAD that lost arbitration at its
opening returns at once, uncounted; any other end of a train waits for the end of the run (R120). -/
def returnEntry (counted : Bool) (e : TxEntry) (s : State) : State :=
  if e.frame = .trainHead then (if counted then failTrain s else trainReturn false e s)
  else if e.dead ∨ withdrawnOnReturn e s then setEntries (withoutOnBus s) s
  else
    match cancelPendingOf e s with
    | some t => endTag t (.cancelled t .host) (readyAgain counted s)
    | none =>
      if counted ∧ s.station.setup.retryLimit ≤ retriesAfter counted e then atLimit e s
      else readyAgain counted s

/-- The try ends without acceptance (R129). -/
def returnTry (counted : Bool) (s : State) : State :=
  match onBusEntry s with
  | some e => returnEntry counted e { s with link.sending := none }
  | none => { s with link.sending := none }

/-! ## The bus after a frame -/

/-- Both lines are high after a stall: IDLE; else BUSY until they are (R138, R150). -/
def afterStall (linesHigh : Bool) (s : State) : State :=
  if linesHigh then busToIdle s else { s with link.bus := .busy, link.chain := false }

/-- The bus after a change of CBD inside a frame: a rise is taken as a CLOSE and a fall as an OPEN, with no idle between
(R145). -/
def afterBreak (rise : Bool) (s : State) : State :=
  if rise then busToIdle s else { s with link.bus := .inFrame, link.chain := false }

/-- The bus after bits that came to such an end (R138, R145, R150). -/
def afterEnd (e : TryEnd) (s : State) : State :=
  match e with
  | .frameEnd ending => endFrame ending s
  | .stalled linesHigh => afterStall linesHigh s
  | .broken rise => afterBreak rise s

/-- The end phase of an own frame went as this station drives it: a CLOSE or a RELINK, at its choice (R145). -/
def ownEndPhase (e : TryEnd) : Bool :=
  match e with
  | .frameEnd .close | .frameEnd .relink => true
  | .frameEnd .noEnd | .stalled _ | .broken _ => false

/-- The bus after an own frame that this station does not RELINK: its CLOSE, or what cut the end phase short (R145). -/
def afterOwn (e : TryEnd) (s : State) : State := if ownEndPhase e then busToIdle s else afterEnd e s

/-! ## Acceptance by the sender -/

/-- What every acceptance of an own frame does beside the receive queue: a ROLL still queued is superseded, and the
roll timer restarts (R43, R94, R128; log entry 14). -/
def ownAccepted (s : State) : State :=
  { s with
    tx.entries := s.tx.entries.map
      (fun e => if e.frame.kind = .roll then { e with superseded := true } else e)
    watch.roll := s.watch.roll.map (fun _ => 0) }

/-- An own frame enters the receive queue with its binding (R40, R149). -/
def acceptOwn (o : OwnFrame) (binding : Option Nat) (s : State) : State :=
  ownAccepted (acceptFrame o.kind s.station.number o.payload true binding s)

/-- An own frame that is no train frame is accepted: it leaves the transmit queue, sets the fair-gap mark where the
fair gap governs its kind, and CLOSEs (R129, R135, R145). -/
def acceptSingle (o : OwnFrame) (e : TxEntry) (ending : TryEnd) (s : State) : State :=
  let s1 := { setEntries (withoutOnBus s) s with link.sending := none }
  if e.dead then afterOwn ending s1
  else
    let s2 := acceptOwn o e.binding s1
    afterOwn ending { s2 with tx.fairGap := s2.tx.fairGap || fairKind o.kind }

/-- The next frame of a train and the composer after it: the next TRAIN-CLAIM, or the TRAIN-TAIL once k claim frames
have been accepted (R108, R109). -/
def nextTrainFrame (c : Composer) (s : State) : OwnFrame × Composer :=
  match (if c.accepted = c.k then [] else laterClaims c.lastClaim s) with
  | n :: _ => (⟨.trainClaim, claimBytes (claimFields n s)⟩, { c with lastClaim := some n })
  | [] => (⟨.trainTail, digestBytes (digest s.replica)⟩, c)

/-- The composer after the acceptance of a train frame of kind `k`. -/
def Composer.count (c : Composer) (k : FrameKind) : Composer :=
  if k = .trainClaim then { c with accepted := c.accepted + 1 } else c

/-- RELINK: the next frame of the train is composed and opened with no idle between (R108, R145). -/
def relink (c : Composer) (s : State) : State :=
  { s with
    link.sending := some (nextTrainFrame c s).1
    link.bus := .inRelinked
    train.composer := some (nextTrainFrame c s).2 }

/-- The source RELINKs: its end phase is its own, the train has frames left and the receive queue a free entry
(R108). -/
def relinksWith (ending : TryEnd) (s : State) : Option Composer :=
  if ownEndPhase ending ∧ s.apply.rx.length < Config.rxSize then s.train.composer else none

/-- A train frame is accepted by its source: after a TRAIN-TAIL it CLOSEs and the train is complete; else it RELINKs,
or the train ends incomplete (R108, R120). -/
def acceptTrain (o : OwnFrame) (ending : TryEnd) (s : State) : State :=
  let s1 := acceptOwn o none { s with link.sending := none }
  if o.kind = .trainTail then afterOwn ending { s1 with train.composer := none }
  else
    match relinksWith ending s1 with
    | some c => relink (c.count o.kind) s1
    | none => afterOwn ending (failTrain s1)

/-- A frame is accepted at its sender. -/
def acceptTry (o : OwnFrame) (ending : TryEnd) (s : State) : State :=
  match onBusEntry s with
  | some e => if o.kind.isTrain then acceptTrain o ending s else acceptSingle o e ending s
  | none => afterOwn ending { s with link.sending := none }

/-! ## What the lines showed -/

/-- What the bits that a sender sampled say of its try (R142, R143, R149). -/
inductive TryReport where
  /-- it sent 1 and sampled 0 in the arbitration field (R142) -/
  | lost
  /-- it sent 1 and sampled 0 after it (R143) -/
  | clashed
  /-- the bits end before the heard slot was sampled; whether the veto slot was sampled, and low -/
  | cut (vetoLow : Option Bool)
  /-- both response slots were sampled: whether each was low (R144, R149) -/
  | slots (vetoLow heardLow : Bool)
deriving DecidableEq, Repr

/-- The first bit period in which a sender of `own` sent 1 and sampled 0 (R142, R143). -/
def firstBeaten : List Bool → List Bool → Option Nat
  | true :: _, false :: _ => some 0
  | _ :: own, _ :: sampled => (firstBeaten own sampled).map (· + 1)
  | _, _ => none

/-- What the bits sampled say of a try that sent `own` up to its check; a low slot is a 0 (R142 to R144). -/
def readTry (own sampled : List Bool) : TryReport :=
  match firstBeaten own sampled with
  | some i => if i < Config.arbitrationBits then .lost else .clashed
  | none =>
    match sampled.drop own.length with
    | [] => .cut none
    | [veto] => .cut (some (!veto))
    | veto :: heard :: _ => .slots (!veto) (!heard)

/-! ## TRY_OUTCOME -/

/-- The unheard and clash runs after a try that reached its slots (R153, R154). -/
def countSlots (vetoLow heardLow : Bool) (s : State) : State :=
  { s with
    link.clashRun := 0
    link.unheardRun :=
      if vetoLow || heardLow then 0 else if listsAnother s then s.link.unheardRun + 1 else 0 }

/-- The sender accepts its frame (R149). -/
def senderAccepts (k : FrameKind) (vetoLow heardLow : Bool) (s : State) : Bool :=
  !vetoLow && (heardLow || !listsAnother s || k == .trainTail)

/-- An unheard run of 4 is reported where own frames are sent (R153, R100). -/
def reportUnheard (s : State) : State :=
  if s.station.state.sends ∧ Config.unheardRunLimit ≤ s.link.unheardRun then sideline .unheardRun s else s

/-- A clash run of 4 is reported where own frames are sent (R154, R103). -/
def reportClash (s : State) : State :=
  if s.station.state.sends ∧ Config.clashRunLimit ≤ s.link.clashRun then halt .clashRun s else s

/-- A try whose slots were sampled: accepted, or vetoed or unheard with a CLOSE and a retry counted (R129, R145,
R149). The transmit queue acts before a run is reported (log entry 11). -/
def trySlots (o : OwnFrame) (vetoLow heardLow : Bool) (ending : TryEnd) (s : State) : State :=
  let s1 := countSlots vetoLow heardLow s
  reportUnheard
    (if senderAccepts o.kind vetoLow heardLow s then acceptTry o ending s1 else afterOwn ending (returnTry true s1))

/-- A clashed try: this station vetoes as a receiver and does not drive the heard slot; at the frame's end the try is
counted, in the retry count and in the clash run (R143, R154). -/
def tryClashed (e : FrameEnd) (s : State) : State :=
  let s1 := { s with
    link.clashRun := s.link.clashRun + 1
    link.chain := false
    link.droveVeto := true
    link.droveHeard := false }
  reportClash (endFrame e (returnTry true s1))

/-- A TRAIN-TAIL accepted on its veto slot, its heard slot never sampled: it reached its veto slot without a clash, and
it is an own frame accepted (R149, R153, R154). -/
def countTail (s : State) : State :=
  { s with
    link.clashRun := 0
    link.unheardRun := if listsAnother s then s.link.unheardRun else 0 }

/-- A try that stalled or was broken before its heard slot was sampled: a retry is counted. DESIGN CHOICE: both runs are
left as they were, also where the veto slot had been sampled (R153 and R154 say both of such a try; log entry 33). The
source accepts its TRAIN-TAIL all the same where it had sampled the veto slot high (R149). -/
def tryCut (o : OwnFrame) (vetoLow : Option Bool) (ending : TryEnd) (s : State) : State :=
  if o.kind = .trainTail ∧ vetoLow = some false then acceptTry o ending (countTail s)
  else afterEnd ending (returnTry true s)

/-- A try lost in the arbitration field returns uncounted, and the station goes on as a receiver of the winner's frame
(R142); in a relinked frame the train ends incomplete (R120). -/
def tryLost (o : OwnFrame) (ending : TryEnd) (s : State) : State :=
  let s1 := returnTry (o.kind == .trainClaim || o.kind == .trainTail) { s with link.chain := false }
  match ending with
  | .frameEnd _ => s1
  | .stalled _ | .broken _ => afterEnd ending s1

/-- The end of a try that sampled these bits (R129, R142 to R145, R149, R150). A clashed try that then stalls ends
stalled, as its frame has no end (log entry 34). Bits that end before the heard slot come to their end by a stall or a
break only. -/
def endTry (o : OwnFrame) (sampled : List Bool) (ending : TryEnd) (s : State) : State :=
  match readTry (sentBits s) sampled, ending with
  | .lost, _ => tryLost o ending s
  | .clashed, .frameEnd e => tryClashed e s
  | .clashed, .stalled _ | .clashed, .broken _ => tryCut o none ending s
  | .cut _, .frameEnd _ => s
  | .cut vetoLow, .stalled _ | .cut vetoLow, .broken _ => tryCut o vetoLow ending s
  | .slots vetoLow heardLow, _ => trySlots o vetoLow heardLow ending s

/-- The end of an own try; a station that sends nothing has none. -/
def tryOutcome (sampled : List Bool) (ending : TryEnd) (s : State) : State :=
  match s.link.sending with
  | some o => endTry o sampled ending s
  | none => s

/-- TRY_OUTCOME (R129). -/
def execTryOutcome (lines : Sampled TryEnd) (s : State) : Host.Outcome State Fault Refusal :=
  .next (powered (tryOutcome lines.bits lines.ending) s)

/-! ## Line events -/

/-- The station may be inside a frame; a frame another station opened on the idle bus counts (R138, R150; log entry
21). -/
def mayBeInFrame (s : State) : Bool :=
  s.station.state.receives && (s.link.bus == .idle || s.link.bus == .inFrame || s.link.bus == .inRelinked)

/-- A frame is cut short: a sender's try ends, and a receiver discards the partial frame (R145, R150). -/
def cutFrame (sampled : List Bool) (ending : TryEnd) (s : State) : State :=
  if mayBeInFrame s then
    let s1 := { s with tx.offered := none }
    if s.link.sending.isSome then tryOutcome sampled ending s1 else afterEnd ending s1
  else s

/-- A stall (R150): a sender releases both lines and its try ends stalled; a receiver discards the partial frame. -/
def stall (sampled : List Bool) (linesHigh : Bool) (s : State) : State := cutFrame sampled (.stalled linesHigh) s

/-- A framing break (R145): receivers discard the partial frame; a sender ends its try with the outcome stalled. -/
def frameBreak (sampled : List Bool) (rise : Bool) (s : State) : State := cutFrame sampled (.broken rise) s

/-- A stuck line sidelines a station that receives (R151). -/
def lineStuck (s : State) : State := if s.station.state.receives then sideline .lineStuck s else s

/-- The bus becomes IDLE otherwise than by CLOSE (R138). -/
def busIdleReturn (s : State) : State :=
  if s.station.state.receives ∧ s.link.bus = .busy then busToIdle s else s

/-- A line falls on the idle bus without forming an OPEN: BUSY, and no frame is received (R138). -/
def lineFallWithoutOpen (s : State) : State :=
  if s.link.bus = .idle then { s with link.bus := .busy, link.idleCycles := 0, tx.offered := none } else s

/-- STALL (R150). -/
def execStall (lines : Sampled Bool) (s : State) : Host.Outcome State Fault Refusal :=
  .next (powered (stall lines.bits lines.ending) s)

/-- FRAME_BREAK (R145). -/
def execFrameBreak (lines : Sampled Bool) (s : State) : Host.Outcome State Fault Refusal :=
  .next (powered (frameBreak lines.bits lines.ending) s)

/-- LINE_STUCK (R151). -/
def execLineStuck (s : State) : Host.Outcome State Fault Refusal := .next (powered lineStuck s)

/-- TRAIN_RUN_END (R121). -/
def execTrainRunEnd (s : State) : Host.Outcome State Fault Refusal := .next (powered settleRun s)

/-- BUS_IDLE_RETURN (R138). -/
def execBusIdleReturn (s : State) : Host.Outcome State Fault Refusal := .next (powered busIdleReturn s)

/-- LINE_FALL_WITHOUT_OPEN (R138). -/
def execLineFallWithoutOpen (s : State) : Host.Outcome State Fault Refusal := .next (powered lineFallWithoutOpen s)

end Sys2Proof.Machine
end

