-- ==== Sys2Proof/Machine/Apply.lean ====
section
/-! DEFINITION. The applications of accepted frames: APPLY_ASK to APPLY_TRAIN_TAIL (chapter 3; train frames: chapter
6). Each takes the oldest entry of the receive queue, if it is of its kind (R41). -/

namespace Sys2Proof.Machine

open Sys2Proof (Byte)

/-! ## What every application begins with -/

/-- The common steps (R43): the sender's silence counter resets if it is listed; an own frame restarts the roll
timer. -/
def commonSteps (e : RxEntry) (s : State) : State :=
  let s1 := if rosterAt s e.sender = .absent then s else setSilence e.sender (some 0) s
  if e.own then { s1 with watch.roll := s1.watch.roll.map (fun _ => 0) } else s1

/-- A frame that is not a relinked continuation ends the pending-train record before it is applied; the end of the
train's run has then been taken (R66, R111, R121; log entry 13). -/
def beforeApply (e : RxEntry) (s : State) : State :=
  if e.continuation then s
  else
    let s1 := settleRun s
    { s1 with apply.record := none }

/-- The oldest entry leaves the receive queue and its place is free, the common steps act, then the frame's own rule
`body` (R41, R43, R123). -/
def applyEntry (body : RxEntry → State → State) (s : State) : State :=
  match s.apply.rx with
  | [] => s
  | e :: rest => body e (commonSteps e { s with apply.rx := rest })

/-- The application of the oldest entry where it is of kind `k` and the state receives (R40, R41). -/
def applyFront (k : FrameKind) (body : RxEntry → State → State) (s : State) : State :=
  match s.apply.rx with
  | [] => s
  | e :: _ =>
    if s.station.state.receives ∧ e.kind = k then applyEntry body (beforeApply e s) else s

/-- The tag an own frame is bound to, while it is in use (R44, R134). -/
def boundTag (e : RxEntry) (s : State) : Option Nat :=
  match e.binding with
  | some t => if e.own && (tagAt s t).inUse then some t else none
  | none => none

/-- The sender takes part in the claim table: it is MEMBER here (R56). -/
def inTurn (e : RxEntry) (s : State) : Bool := rosterAt s e.sender == .member

/-! ## ASK -/

/-- The outcomes of the ASK decision, in the order tried (R48). -/
inductive AskOutcome where
  | outOfTurn | duplicate | grant | busy | poolFull | queued
deriving DecidableEq, Repr

/-- The fields of an ASK are in range (R47). -/
def AskFields.inRange (a : AskFields) : Bool :=
  decide (a.claim < Config.claimCount) && decide (a.flags < 4) && !leaseOutOfRange a.lease

/-- The ASK decision (R48). -/
def askDecision (a : AskFields) (sender : Nat) (s : State) : AskOutcome :=
  if rosterAt s sender ≠ .member then .outOfTurn
  else if holdsClaim s a.claim sender ∨ waitsOn s a.claim sender then .duplicate
  else if (claimAt s a.claim).waiters = [] ∧ grantTest (claimAt s a.claim).holders a.mode then .grant
  else if a.noWait then .busy
  else if Config.poolSize ≤ occupancy s then .poolFull
  else .queued

/-- The append of a waiter at the tail (R30). -/
def appendWaiter (c : Nat) (w : Waiter) (s : State) : State :=
  setClaim c { claimAt s c with waiters := (claimAt s c).waiters ++ [w] } s

/-- The ASK was granted with this slot serial: GRANTED, and TOO_LATE where a cancel was pending (R49). -/
def tagAskGranted (serial : Nat) (t : Nat) (s : State) : State :=
  let s1 := tagGranted t serial s
  if (tagAt s t).cancelPending then
    postUnreserved (.tooLate t) (setTag t { tagAt s1 t with cancelPending := false } s1)
  else s1

/-- The ASK was queued at this position: WAITING with QUEUED, and on to CANCELLING where a cancel was pending (R49). -/
def tagAskQueued (claim position : Nat) (t : Nat) (s : State) : State :=
  let s1 := postUnreserved (.queued t position) (setTag t { tagAt s t with phase := some .waiting } s)
  if (tagAt s t).cancelPending then
    enqueue (.cancel claim) (some t)
      (setTag t { tagAt s1 t with phase := some .cancelling, cancelPending := false } s1)
  else s1

/-- The outcome reaches the tag bound to an own ASK (R49). -/
def toAskTag (e : RxEntry) (act : Nat → State → State) (s : State) : State :=
  match boundTag e s with
  | some t => if (tagAt s t).phase = some .sending then act t s else s
  | none => s

/-- The effect of an outcome of the ASK decision (R48, R49). -/
def askEffect (a : AskFields) (e : RxEntry) (o : AskOutcome) (s : State) : State :=
  match o with
  | .outOfTurn => toAskTag e (fun t => endTag t (.refused t .notMember)) s
  | .duplicate => toAskTag e (fun t => endTag t (.refused t .duplicate)) s
  | .busy => toAskTag e (fun t => endTag t (.refused t .busy)) s
  | .poolFull => toAskTag e (fun t => endTag t (.refused t .poolFull)) s
  | .grant =>
    toAskTag e (tagAskGranted (nextSerial (claimAt s a.claim).serial))
      (grant a.claim ⟨e.sender, a.mode, a.lease⟩ s)
  | .queued =>
    toAskTag e (tagAskQueued a.claim ((claimAt s a.claim).waiters.length + 1))
      (appendWaiter a.claim ⟨e.sender, a.mode, a.lease⟩ s)

/-- ASK (R45, R47, R48): in MEMBER and LEAVING; a value out of range is stale. -/
def askBody (e : RxEntry) (s : State) : State :=
  match parseAsk e.payload with
  | some a =>
    if s.station.state.sharing && a.inRange then askEffect a e (askDecision a e.sender s) s else s
  | none => s

/-! ## Frames that name a hold -/

/-- The hold of `h` on claim `c` is removed and promotion runs (R10, R12). -/
def removeAndPromote (c h : Nat) (s : State) : State := promote c (removeHold c h s)

/-- This station's tag for claim `c` in one of the phases `ps` ends with a notice (R51, R53, R54). -/
def endTagFor (c : Nat) (ps : List Phase) (n : Nat → Notice) (s : State) : State :=
  match findTag s c ps with
  | some t => endTag t (n t) s
  | none => s

/-- YIELD (R51): a matching reference removes the sender's hold; at the sender its tag ends RELEASED. -/
def yieldBody (e : RxEntry) (s : State) : State :=
  match parseYield e.payload with
  | some (c, serial) =>
    if s.station.state.sharing && inTurn e s && decide (c < Config.claimCount) && refMatches s c e.sender serial then
      let s1 := removeAndPromote c e.sender s
      if e.sender = s.station.number then endTagFor c [.yielding] (fun t => .released t) s1 else s1
    else s
  | none => s

/-- A stale EXTEND at its sender: a bound tag still in use has its extend-in-flight flag cleared (R52). -/
def staleExtend (e : RxEntry) (s : State) : State :=
  match boundTag e s with
  | some t => clearExtend t s
  | none => s

/-- This station's tag for an extended hold: the new lease, the flag clear, EXTENDED (R52, R166). -/
def tagExtended (c l serial : Nat) (s : State) : State :=
  match findTag s c [.held, .yielding] with
  | some t =>
    postUnreserved (.extended t serial) (setTag t { tagAt s t with lease := l, extendInFlight := false } s)
  | none => s

/-- EXTEND (R52). -/
def extendBody (e : RxEntry) (s : State) : State :=
  match parseExtend e.payload with
  | some (c, serial, l) =>
    if s.station.state.sharing && inTurn e s then
      if decide (c < Config.claimCount) && !leaseOutOfRange l && refMatches s c e.sender serial then
        let s1 := extendHold c e.sender l s
        if e.sender = s.station.number then tagExtended c l (nextSerial (claimAt s c).serial) s1 else s1
      else staleExtend e s
    else s
  | none => s

/-- LAPSE (R53): from any sender; at the holder its tag ends LOST(LAPSED). -/
def lapseBody (e : RxEntry) (s : State) : State :=
  match parseLapse e.payload with
  | some (c, h, serial) =>
    if s.station.state.sharing && decide (c < Config.claimCount) && decide (h < Config.stationCount) &&
        refMatches s c h serial then
      let s1 := removeAndPromote c h s
      if h = s.station.number then endTagFor c [.held, .yielding] (fun t => .lost t .lapsed) s1 else s1
    else s
  | none => s

/-! ## CANCEL -/

/-- A stale CANCEL at its sender: TOO_LATE where the tag is HELD (R55). -/
def staleCancel (e : RxEntry) (s : State) : State :=
  match boundTag e s with
  | some t => tooLateIfHeld t s
  | none => s

/-- A waiter leaves the queue of claim `c`, with promotion where it was the head (R33, R34). -/
def leaveQueue (c h : Nat) (s : State) : State :=
  if isHead s c h then promote c (removeWaiter c h s) else removeWaiter c h s

/-- CANCEL (R54, R55). -/
def cancelBody (e : RxEntry) (s : State) : State :=
  match parseOne e.payload with
  | some c =>
    if s.station.state.sharing && inTurn e s then
      if decide (c < Config.claimCount) && waitsOn s c e.sender then
        let s1 := leaveQueue c e.sender s
        if e.sender = s.station.number then endTagFor c [.cancelling] (fun t => .cancelled t .host) s1 else s1
      else staleCancel e s
    else s
  | none => s

/-! ## DROP -/

/-- Station `d` becomes ABSENT and its silence counter is removed (R46, R57, R95). -/
def unlist (d : Nat) (s : State) : State := setSilence d none (setRoster d .absent s)

/-- The station controller's part of a DROP of this station: the departure ends, or the station is evicted (R57 to
R59, R97). -/
def droppedSelf (sender : Nat) (s : State) : State :=
  if s.station.state = .leaving ∨ sender = s.station.number then departureEnds s
  else enterAfresh .evicted (endTags .dropped s)

/-- DROP in MEMBER and LEAVING (R57). -/
def dropShared (d sender : Nat) (s : State) : State :=
  if rosterAt s d = .absent then s
  else
    let s1 := unlist d (purge d s)
    if d = s.station.number then droppedSelf sender s1 else s1

/-- DROP on a learned roster (R46, R59, R93). -/
def dropLearned (d : Nat) (s : State) : State :=
  let s1 := if rosterAt s d = .absent then s else unlist d s
  if d = s.station.number ∧ s.station.state = .awaitCopy then nextAttempt .dropped s1 else s1

/-- DROP (R45, R47, R57). -/
def dropBody (e : RxEntry) (s : State) : State :=
  match parseOne e.payload with
  | some d =>
    if Config.stationCount ≤ d then s
    else if s.station.state.sharing then dropShared d e.sender s
    else dropLearned d s
  | none => s

/-! ## ENTER -/

/-- `d` is listed with this entry, its silence counter starting at 0 (R60, R61). -/
def listFresh (d : Nat) (r : RosterEntry) (s : State) : State := setSilence d (some 0) (setRoster d r s)

/-- ENTER in MEMBER and LEAVING (R60): a listed sender is purged; it becomes JOINING. -/
def enterShared (d : Nat) (s : State) : State :=
  listFresh d .joining (if rosterAt s d = .absent then s else unlist d (purge d s))

/-- The station founds: table clear, MEMBER (R23, R61, R91, R64). -/
def found (s : State) : State :=
  let s1 := clearTable s
  moveTo .member .founded { s1 with station.attempts := 0, station.disagree := 0, watch.roll := some 0 }

/-- The station joins: AWAIT_COPY (R61, R91). -/
def joinWait (s : State) : State := moveTo .awaitCopy .entered { s with watch.copyWait := some 0, watch.roll := some 0 }

/-- ENTER on a learned roster, with the founding decision (R61). -/
def enterLearned (d : Nat) (s : State) : State :=
  let s1 := if rosterAt s d = .absent then s else unlist d s
  let founds := (copySource s1).isNone
  let s2 := listFresh d (if founds then .member else .joining) s1
  if d = s.station.number ∧ s.station.state = .entering then (if founds then found s2 else joinWait s2) else s2

/-- ENTER (R45, R60, R61). -/
def enterBody (e : RxEntry) (s : State) : State :=
  if s.station.state.sharing then enterShared e.sender s else enterLearned e.sender s

/-! ## ROLL -/

/-- A ROLL on a learned roster (R46). -/
def learnRoll (d : Nat) (joining : Bool) (s : State) : State :=
  match rosterAt s d, joining with
  | .absent, true => listFresh d .joining s
  | .absent, false => listFresh d .member s
  | .joining, false => setRoster d .member s
  | _, _ => s

/-- A ROLL with the joining flag clear from another station shows this MEMBER to be diverged (R63). -/
def rollDiverges (d : Nat) (dig : BitVec 16) (s : State) : Bool :=
  (copySource s == some d && dig != digest s.replica) ||
    (rosterAt s d == .absent && decide (d < s.station.number))

/-- Divergence (R65, R97). -/
def diverge (d : Nat) (s : State) : State :=
  let s1 := clearRoster (clearTable s)
  learnRoll d false (enterAfresh .diverged (endTags .diverged { s1 with station.disagree := 0 }))

/-- The disagree count rises, staying at 255 (R64). -/
def countDisagree (s : State) : State :=
  { s with station.disagree := min Config.maxCount (s.station.disagree + 1) }

/-- The digest comparison of a MEMBER (R63, R64). -/
def compareRoll (d : Nat) (dig : BitVec 16) (s : State) : State :=
  if rollDiverges d dig s then diverge d s
  else if copySource s ≠ some d ∧ dig ≠ digest s.replica then countDisagree s
  else s

/-- ROLL (R45 to R47, R62 to R65). -/
def rollBody (e : RxEntry) (s : State) : State :=
  match parseRoll e.payload with
  | some (flags, dig) =>
    if 2 ≤ flags then s
    else if s.station.state.learning then learnRoll e.sender (flags == 1) s
    else if s.station.state = .member ∧ e.sender ≠ s.station.number ∧ flags = 0 then compareRoll e.sender dig s
    else s
  | none => s

/-! ## Train frames -/

/-- The roster that a TRAIN-HEAD's masks give (R114). -/
def rosterOf (members joining : BitVec 32) : Table RosterEntry :=
  (List.range Config.stationCount).filterMap (fun d =>
    if maskLists members d then some (d, .member) else if maskLists joining d then some (d, .joining) else none)

/-- The silence counters that a TRAIN-HEAD starts: every listed station but this one, at 0 (R114). -/
def silenceOf (self : Nat) (roster : Table RosterEntry) : Table (Option Nat) :=
  (roster.filter (fun p => p.1 != self)).map (fun p => (p.1, some 0))

/-- A loading station at the head: table cleared, roster and silence counters from the masks (R114). -/
def loadHead (h : HeadFields) (s : State) : State :=
  let s1 := clearTable s
  { s1 with
    train.partialCopy := true
    replica.roster := rosterOf h.members h.joining
    watch.silence := silenceOf s.station.number (rosterOf h.members h.joining)
    station.disagree := 0 }

/-- TRAIN-HEAD: the pending-train record, and the load's beginning (R111, R114). A copy that an earlier train left in
part is discarded where this one is not loaded (log entry 13). -/
def trainHeadBody (e : RxEntry) (s : State) : State :=
  match parseHead e.payload with
  | some h =>
    let loading := e.loads && (s.station.state == .awaitCopy || s.station.state == .member)
    let s1 := { s with
      apply.record := some ⟨e.sender, h.members, h.joining, h.k, h.occupancy, 0, none, loading⟩ }
    if loading then loadHead h s1 else if s.train.partialCopy then discardCopy s1 else s1
  | none => s

/-- A loaded hold: its carried ticks left are kept, and a mistaken founder starts its watch (R81, R115). -/
def loadHold (c : Nat) (s : State) (h : HoldSlot × Nat) : State :=
  let s1 := { s with train.carried := Table.set 0 s.train.carried (watchKey c h.1.station) h.2 }
  if s.station.state = .member then
    startWatchAt c h.1.station h.1.lease h.1.serial (h.2 + grace h.1.lease) s1
  else s1

/-- A TRAIN-CLAIM written into the replica (R37, R115). -/
def loadClaim (f : ClaimFields) (s : State) : State :=
  f.holders.foldl (loadHold f.claim) (setClaim f.claim ⟨f.serial, f.holders.map (·.1), f.waiters⟩ s)

/-- TRAIN-CLAIM: the record counts it, and a loading station writes it (R111, R115). -/
def trainClaimBody (e : RxEntry) (s : State) : State :=
  match s.apply.record, parseClaim e.payload with
  | some r, some f =>
    let s1 := { s with apply.record := some { r with count := r.count + 1, lastClaim := some f.claim } }
    if r.loading then loadClaim f s1 else s1
  | _, _ => s

/-- A station in the joining mask whose entry is still JOINING becomes MEMBER (R117). -/
def commitStation (joining : BitVec 32) (s : State) (d : Nat) : State :=
  if maskLists joining d ∧ rosterAt s d = .joining then setRoster d .member s else s

/-- The commit in the roster (R117). -/
def commitRoster (joining : BitVec 32) (s : State) : State :=
  (List.range Config.stationCount).foldl (commitStation joining) s

/-- The commit at the source: the TRAIN-HEAD's entry leaves the queue (R108, R117). -/
def sourceCommit (s : State) : State :=
  { s with
    tx.entries := s.tx.entries.filter (fun e => !(e.onBus && e.frame == .trainHead))
    train.composer := none }

/-- The watch of a loaded hold starts at the carried ticks left plus the grace (R81, R118). -/
def startLoaded (c : Nat) (s : State) (h : HoldSlot) : State :=
  startWatchAt c h.station h.lease h.serial
    (Table.get 0 s.train.carried (watchKey c h.station) + grace h.lease) s

/-- The watches of the loaded holds, in claim order and holder-list order (R118). -/
def startLoadedOn (s : State) (c : Nat) : State := (claimAt s c).holders.foldl (startLoaded c) s

/-- What both kinds of loader do at the commit (R64, R118, R119). -/
def loaderReady (s : State) : State :=
  { s with
    train.carried := []
    train.partialCopy := false
    watch.copyWait := none
    watch.roll := some 0
    station.attempts := 0
    station.disagree := 0 }

/-- A loader in AWAIT_COPY becomes MEMBER (R118). -/
def joinCommit (s : State) : State :=
  moveTo .member .joined (loaderReady ((List.range Config.claimCount).foldl startLoadedOn s))

/-- A tag of a mistaken founder that does not match the loaded copy ends with cause COPY (R119). -/
def reconcileTag (s : State) (t : Nat) : State :=
  let stays := match (tagAt s t).phase with
    | some .held | some .yielding => holdsClaim s (tagAt s t).claim s.station.number
    | some .waiting | some .cancelling => waitsOn s (tagAt s t).claim s.station.number
    | _ => true
  if stays then s else endTagIfUsed .copy s t

/-- The DROPs in a mistaken founder's queue whose subjects the copy lists are stale from now on (R119; log entry
35). -/
def supersedeDrops (s : State) : State :=
  setEntries (s.tx.entries.map (fun e => match e.frame with
    | .drop d => if rosterAt s d = .absent then e else { e with superseded := true }
    | _ => e)) s

/-- A mistaken founder at the commit (R119). -/
def founderCommit (s : State) : State :=
  moveTo .member .copy ((List.range Config.tagCount).foldl reconcileTag (supersedeDrops (loaderReady s)))

/-- The loader's part of the commit (R118, R119). -/
def loaderCommit (s : State) : State :=
  match s.station.state with
  | .awaitCopy => joinCommit s
  | .member => founderCommit s
  | .localState | .listen | .entering | .leaving | .sidelined | .halted => s

/-- TRAIN-TAIL: the commit, at every station that holds the record, which then ends (R117). -/
def trainTailBody (e : RxEntry) (s : State) : State :=
  match s.apply.record with
  | some r =>
    let s1 := commitRoster r.joining { s with apply.record := none }
    let s2 := if e.own then sourceCommit s1 else s1
    if r.loading then loaderCommit s2 else s2
  | none => s

/-! ## The steps -/

/-- APPLY_ASK (R48). -/
def execApplyAsk (s : State) : Host.Outcome State Fault Refusal := .next (powered (applyFront .ask askBody) s)

/-- APPLY_YIELD (R51). -/
def execApplyYield (s : State) : Host.Outcome State Fault Refusal := .next (powered (applyFront .yield yieldBody) s)

/-- APPLY_EXTEND (R52). -/
def execApplyExtend (s : State) : Host.Outcome State Fault Refusal := .next (powered (applyFront .extend extendBody) s)

/-- APPLY_LAPSE (R53). -/
def execApplyLapse (s : State) : Host.Outcome State Fault Refusal := .next (powered (applyFront .lapse lapseBody) s)

/-- APPLY_CANCEL (R54). -/
def execApplyCancel (s : State) : Host.Outcome State Fault Refusal := .next (powered (applyFront .cancel cancelBody) s)

/-- APPLY_DROP (R57). -/
def execApplyDrop (s : State) : Host.Outcome State Fault Refusal := .next (powered (applyFront .drop dropBody) s)

/-- APPLY_ENTER (R60). -/
def execApplyEnter (s : State) : Host.Outcome State Fault Refusal := .next (powered (applyFront .enter enterBody) s)

/-- APPLY_ROLL (R62). -/
def execApplyRoll (s : State) : Host.Outcome State Fault Refusal := .next (powered (applyFront .roll rollBody) s)

/-- APPLY_TRAIN_HEAD (R114). -/
def execApplyTrainHead (s : State) : Host.Outcome State Fault Refusal :=
  .next (powered (applyFront .trainHead trainHeadBody) s)

/-- APPLY_TRAIN_CLAIM (R115). -/
def execApplyTrainClaim (s : State) : Host.Outcome State Fault Refusal :=
  .next (powered (applyFront .trainClaim trainClaimBody) s)

/-- APPLY_TRAIN_TAIL (R117). -/
def execApplyTrainTail (s : State) : Host.Outcome State Fault Refusal :=
  .next (powered (applyFront .trainTail trainTailBody) s)

end Sys2Proof.Machine
end

