-- ==== Sys2Proof/Machine/Commands.lean ====
section
/-! DEFINITION. The host commands taken from the assembler: SETUP to CANCEL (9.3, 9.4, 9.6). -/

namespace Sys2Proof.Machine

open Sys2Proof (Byte)

/-! ## Taking a command -/

/-- No own frame bound to the tag number waits in the receive queue (R160). -/
def tagFreeOfRx (s : State) (t : Nat) : Bool := !s.apply.rx.any (fun e => e.own && e.binding == some t)

/-- The room that Table 9-1 asks for a command is free (R160). -/
def roomFor (c : Command) (s : State) : Bool :=
  match c with
  | .restart => true
  | .acquire =>
    decide (2 ≤ freePlaces s) && decide (boundHeld s < Config.boundPlaces) &&
      tagFreeOfRx s (s.port.assembler.getD 1 0#8).toNat
  | .release | .extend | .cancel => decide (1 ≤ freePlaces s) && decide (boundHeld s < Config.boundPlaces)
  | .status | .survey | .query | .mask | .setup | .go | .leave => decide (1 ≤ freePlaces s)

/-- The complete command `c` is taken when its room is free: its field bytes leave the assembler and `body` acts
(R160). Another command, a partial one or too little room leave the state as it is. -/
def takeCommand (c : Command) (body : List Byte → State → State) (s : State) : State :=
  if completeCommand s.port.assembler = some c ∧ roomFor c s then
    body s.port.assembler.tail { s with port.assembler := [], port.age := 0 }
  else s

/-- DENIED(code, reason) in the place that the room condition provided (R161, R178). -/
def deny (c : Command) (r : DenyReason) (s : State) : State := push (.denied (byte c.code) r) s

/-! ## Station commands -/

/-- The five SETUP values are within Table 9-3. -/
def setupInRange (v : Setup) : Bool :=
  decide (v.bitRate ≤ 3) && decide (1 ≤ v.tickUnits) && decide (v.tickUnits ≤ 255) && decide (16 ≤ v.r) &&
    decide (v.r ≤ 4095) && decide (1 ≤ v.retryLimit) && decide (v.retryLimit ≤ 15) &&
    decide (1 ≤ v.defaultLease) && decide (v.defaultLease ≤ Config.maxLease)

/-- The five values in SETUP's field bytes (Table 11-3). -/
def setupFields (fs : List Byte) : Setup :=
  ⟨(fs.getD 0 0#8).toNat, (fs.getD 1 0#8).toNat, u16 (fs.getD 2 0#8) (fs.getD 3 0#8), (fs.getD 4 0#8).toNat,
    u16 (fs.getD 5 0#8) (fs.getD 6 0#8)⟩

/-- The effect of SETUP (R163). -/
def takeSetup (fs : List Byte) (s : State) : State :=
  if s.station.state ≠ .localState then deny .setup .state s
  else if s.station.lock then deny .setup .locked s
  else if setupInRange (setupFields fs) = false then deny .setup .range s
  else { s with station.setup := setupFields fs, station.lock := true, watch.tickCount := 0 }

/-- The effect of GO (R88). -/
def takeGo (_fs : List Byte) (s : State) : State :=
  if s.station.state ≠ .localState then deny .go .state s
  else
    moveTo .listen .go
      { s with
        station.lock := true
        station.attempts := 0
        replica.roster := []
        watch.listen := some 0
        link.bus := .busy
        link.idleCycles := 0
        link.vetoRun := 0
        link.unheardRun := 0
        link.clashRun := 0 }

/-- The effect of LEAVE (R98): the internal frames that are READY are withdrawn, those ON_BUS run on; DROP of itself is
queued; the roll timer is not kept in LEAVING (R94). -/
def takeLeave (_fs : List Byte) (s : State) : State :=
  if s.station.state ≠ .member ∨ isLoading s then deny .leave .state s
  else
    let s1 := { s with
      tx.entries := s.tx.entries.filter (fun e => e.binding.isSome || e.onBus)
      watch.roll := none }
    moveTo .leaving .leave (queueInternal s1 (.drop s.station.number))

/-- The effect of RESTART (R89, R164): masks, station number, SETUP values and lock are kept. -/
def takeRestart (_fs : List Byte) (s : State) : State :=
  let s1 := leaveBus s
  moveTo .localState .restart
    { s1 with
      tags := []
      notices := { s1.notices with entries := [], heldDrops := 0 }
      port := { s1.port with assembler := [], age := 0, reading := none }
      station.attempts := 0
      watch.tickCount := 0 }

/-- The tags in use, bit n for tag n (R165). -/
def tagsInUse (s : State) : Nat :=
  ((List.range Config.tagCount).map (fun t => if (tagAt s t).inUse then 2 ^ t else 0)).sum

/-- The contents of a STATUS (R165). -/
def statusReply (s : State) : StatusReply where
  state := s.station.state
  cause := s.station.lastCause
  number := s.station.number
  lock := s.station.lock
  setup := s.station.setup
  attempts := s.station.attempts
  disagree := s.station.disagree
  occupancy := if s.station.state.sharing then occupancy s else 0
  boundHeld := boundHeld s
  internalHeld := internalHeld s
  vetoRun := s.link.vetoRun
  unheardRun := s.link.unheardRun
  clashRun := s.link.clashRun
  tagsInUse := tagsInUse s

/-- The effect of STATUS (R165). -/
def takeStatus (_fs : List Byte) (s : State) : State := push (.status (statusReply s)) s

/-- The effect of MASK (R165, R184, Table 11-3). -/
def takeMask (fs : List Byte) (s : State) : State :=
  if 4 ≤ (fs.getD 0 0#8).toNat then deny .mask .range s
  else
    { s with
      notices.resultMask := (fs.getD 0 0#8).getLsbD 0
      notices.reportMask := (fs.getD 0 0#8).getLsbD 1 }

/-- The contents of a RECORD for claim `c` (R19): the claim as it stands in MEMBER and LEAVING, FREE elsewhere. -/
def recordReply (c : Nat) (s : State) : RecordReply :=
  if s.station.state.sharing then
    ⟨c, claimState (claimAt s c).holders, (claimAt s c).serial,
      (claimAt s c).holders.map (fun h => (h, ticksLeft s c h.station)), (claimAt s c).waiters⟩
  else ⟨c, .free, 0, [], []⟩

/-- The effect of QUERY (R19, R165). -/
def takeQuery (fs : List Byte) (s : State) : State :=
  if Config.claimCount ≤ (fs.getD 0 0#8).toNat then deny .query .range s
  else push (.record (recordReply (fs.getD 0 0#8).toNat s)) s

/-- The place of station `d` in a ROSTER (R165): a silence counter only for another station that is listed. -/
def rosterPlace (s : State) (d : Nat) : RosterEntry × Nat :=
  if s.station.state.receives then
    (rosterAt s d, if d ≠ s.station.number ∧ rosterAt s d ≠ .absent then (silenceAt s d).getD 0 else 0)
  else (.absent, 0)

/-- The contents of a ROSTER (R165). -/
def rosterReply (s : State) : RosterReply :=
  ⟨(List.range Config.stationCount).map (rosterPlace s), if s.station.state.receives then copySource s else none⟩

/-- The effect of SURVEY (R165). -/
def takeSurvey (_fs : List Byte) (s : State) : State := push (.roster (rosterReply s)) s

/-! ## Requests -/

/-- A lease field of 0 stands for the SETUP default lease (R168, R170). -/
def leaseOrDefault (s : State) (l : Nat) : Nat := if l = 0 then s.station.setup.defaultLease else l

/-- A tag as ACQUIRE takes it (R168). -/
def acquiredTag (claim : Nat) (mode : Mode) (noWait : Bool) (lease : Nat) : Tag :=
  ⟨true, claim, mode, lease, noWait, some .sending, false, false, false, 2⟩

/-- The effect of ACQUIRE (R161, R168). -/
def takeAcquire (fs : List Byte) (s : State) : State :=
  let t := (fs.getD 0 0#8).toNat
  let q := fs.getD 1 0#8
  let lease := u16 (fs.getD 2 0#8) (fs.getD 3 0#8)
  let claim := q.toNat % 64
  let l := leaseOrDefault s lease
  let taken := setTag t (acquiredTag claim (modeOf q) (q.getLsbD 6) l) s
  if s.station.state ≠ .member then deny .acquire .state s
  else if Config.tagCount ≤ t ∨ Config.maxLease < lease then deny .acquire .range s
  else if (tagAt s t).inUse then deny .acquire .tagBusy s
  else if (findTag s claim allPhases).isSome then endTag t (.refused t .duplicate) taken
  else enqueue (.ask claim (modeOf q) (q.getLsbD 6) l) (some t) taken

/-- The checks that RELEASE, EXTEND and CANCEL share (R161): state, range, tag in use; then `act`. -/
def onTag (c : Command) (t : Nat) (inRange : Bool) (act : State → State) (s : State) : State :=
  if s.station.state.sharing = false then deny c .state s
  else if Config.tagCount ≤ t ∨ inRange = false then deny c .range s
  else if (tagAt s t).inUse = false then deny c .idleTag s
  else act s

/-- The effect of RELEASE (R169). -/
def takeRelease (fs : List Byte) (s : State) : State :=
  let t := (fs.getD 0 0#8).toNat
  onTag .release t true (fun s =>
    if (tagAt s t).phase ≠ some .held then deny .release .wrongPhase s
    else enqueue (.yield (tagAt s t).claim) (some t) (setTag t { tagAt s t with phase := some .yielding } s)) s

/-- The effect of EXTEND (R170). -/
def takeExtend (fs : List Byte) (s : State) : State :=
  let t := (fs.getD 0 0#8).toNat
  let lease := u16 (fs.getD 1 0#8) (fs.getD 2 0#8)
  onTag .extend t (decide (lease ≤ Config.maxLease)) (fun s =>
    if (tagAt s t).phase ≠ some .held ∨ (tagAt s t).extendInFlight then deny .extend .wrongPhase s
    else enqueue (.extend (tagAt s t).claim (leaseOrDefault s lease)) (some t)
      (setTag t { tagAt s t with extendInFlight := true } s)) s

/-- The ASK bound to tag `t` stands READY in the transmit queue (R171). -/
def askReady (s : State) (t : Nat) : Bool :=
  s.tx.entries.any (fun e => e.binding == some t && e.frame.kind == .ask && !e.onBus)

/-- The effect of CANCEL by the tag's phase (R171). An entry offered and removed here is not opened (R127). -/
def takeCancel (fs : List Byte) (s : State) : State :=
  let t := (fs.getD 0 0#8).toNat
  onTag .cancel t true (fun s =>
    match (tagAt s t).phase with
    | some .sending =>
      if (tagAt s t).cancelPending then deny .cancel .wrongPhase s
      else if askReady s t then endTag t (.cancelled t .host) s
      else setTag t { tagAt s t with cancelPending := true } s
    | some .waiting =>
      enqueue (.cancel (tagAt s t).claim) (some t) (setTag t { tagAt s t with phase := some .cancelling } s)
    | _ => deny .cancel .wrongPhase s) s

/-! ## The steps -/

/-- SETUP (R163). -/
def execSetup (s : State) : Host.Outcome State Fault Refusal := .next (powered (takeCommand .setup takeSetup) s)

/-- GO (R88, R164). -/
def execGo (s : State) : Host.Outcome State Fault Refusal := .next (powered (takeCommand .go takeGo) s)

/-- LEAVE (R98, R164). -/
def execLeave (s : State) : Host.Outcome State Fault Refusal := .next (powered (takeCommand .leave takeLeave) s)

/-- RESTART (R89, R164). -/
def execRestart (s : State) : Host.Outcome State Fault Refusal := .next (powered (takeCommand .restart takeRestart) s)

/-- STATUS (R165). -/
def execStatus (s : State) : Host.Outcome State Fault Refusal := .next (powered (takeCommand .status takeStatus) s)

/-- MASK (R165). -/
def execMask (s : State) : Host.Outcome State Fault Refusal := .next (powered (takeCommand .mask takeMask) s)

/-- QUERY (R19). -/
def execQuery (s : State) : Host.Outcome State Fault Refusal := .next (powered (takeCommand .query takeQuery) s)

/-- SURVEY (R165). -/
def execSurvey (s : State) : Host.Outcome State Fault Refusal := .next (powered (takeCommand .survey takeSurvey) s)

/-- ACQUIRE (R168). -/
def execAcquire (s : State) : Host.Outcome State Fault Refusal := .next (powered (takeCommand .acquire takeAcquire) s)

/-- RELEASE (R169). -/
def execRelease (s : State) : Host.Outcome State Fault Refusal := .next (powered (takeCommand .release takeRelease) s)

/-- EXTEND (R170). -/
def execExtend (s : State) : Host.Outcome State Fault Refusal := .next (powered (takeCommand .extend takeExtend) s)

/-- CANCEL (R171). -/
def execCancel (s : State) : Host.Outcome State Fault Refusal := .next (powered (takeCommand .cancel takeCancel) s)

end Sys2Proof.Machine
end

