-- ==== Sys2Proof/Machine/HostPort.lean ====
section
/-! DEFINITION. The host port's bytes: COMMAND_BYTE_WRITE, ASSEMBLY_AGE_EXPIRY, NOTICE_BYTE_READ (9.1, 9.2, 10.5). -/

namespace Sys2Proof.Machine

open Sys2Proof (Byte)

/-- A partial command whose age has reached 255 ticks stands in the assembler (R159). -/
def assemblyAged (s : State) : Bool :=
  !s.port.assembler.isEmpty && (completeCommand s.port.assembler).isNone &&
    decide (Config.assemblyAgeLimit ≤ s.port.age)

/-- The assembler is emptied. -/
def clearAssembler (s : State) : State := { s with port.assembler := [], port.age := 0 }

/-- An aged-out partial command is discarded with DENIED(code, FORMAT), unreserved (R159). -/
def expireAssembly (s : State) : State :=
  if assemblyAged s then postUnreserved (.denied (s.port.assembler.headD 0#8) .format) (clearAssembler s) else s

/-- A byte latched while a complete command waits is lost with FAULT(HOST_OVERRUN, 0); else it is a code, an unknown
code, or the next field byte (R157, R159). -/
def latchByte (b : Byte) (s : State) : State :=
  if (completeCommand s.port.assembler).isSome then postUnreserved .hostOverrun s
  else if s.port.assembler = [] then
    if (Command.ofCode b.toNat).isSome then { s with port.assembler := [b], port.age := 0 }
    else postUnreserved (.denied b .format) s
  else { s with port.assembler := s.port.assembler ++ [b] }

/-- A rising edge of HWSn ends its cycle. It has no effect while HCSn is high, while HRSn is low, or after HRSn has been
low in the same cycle; while both are low it spoils the cycle of HRSn too (R157). An aged-out partial command has left
before the byte is latched (R159, log entry 19). -/
def writeByte (b : Byte) (selected readLow : Bool) (s : State) : State :=
  let s1 := { s with
    port.writeSpoiled := false
    port.readSpoiled := s.port.readSpoiled || (selected && readLow) }
  if selected && !readLow && !s.port.writeSpoiled then latchByte b (expireAssembly s1) else s1

/-- COMMAND_BYTE_WRITE (R157, R159). -/
def execCommandByteWrite (b : Byte) (selected readLow : Bool) (s : State) : Host.Outcome State Fault Refusal :=
  .next (powered (writeByte b selected readLow) s)

/-- ASSEMBLY_AGE_EXPIRY (R159). -/
def execAssemblyAgeExpiry (s : State) : Host.Outcome State Fault Refusal := .next (powered expireAssembly s)

/-! ## Reading -/

/-- The first notice of rank `k` and the entries without it. -/
def takeRank (k : Nat) : List Notice → Option (Notice × List Notice)
  | [] => none
  | n :: ns => if n.rank = k then some (n, ns) else (takeRank k ns).map (fun p => (p.1, n :: p.2))

/-- The notice read next: the oldest of the highest class that holds any entry (R182). -/
def chooseNotice (es : List Notice) : Option (Notice × List Notice) :=
  match takeRank 0 es with
  | some p => some p
  | none => match takeRank 1 es with
    | some p => some p
    | none => takeRank 2 es

/-- The read of a notice's last byte: it leaves, after an OVERFLOW the held drops make a new one at once in the kept
place, and the places freed take pending WARNs (R158, R179, R180, R183). -/
def finishReading (n : Notice) (s : State) : State :=
  let s1 := { s with port.reading := none }
  if n.isOverflow ∧ 0 < s1.notices.heldDrops then
    postPendingWarns (push (.overflow s1.notices.heldDrops) { s1 with notices.heldDrops := 0 })
  else postPendingWarns s1

/-- The next byte of the notice being read is driven and consumed (R158). -/
def readNext (r : Reading) (s : State) : State :=
  let s1 := { s with port.dataOut := r.notice.bytes.getD r.done 0#8 }
  if r.done + 1 < r.notice.bytes.length then { s1 with port.reading := some ⟨r.notice, r.done + 1⟩ }
  else finishReading r.notice s1

/-- The next byte of the notice read, or of the one chosen now; with no notice a read returns 0x00 and changes nothing
(R158, R182). -/
def consumeByte (s : State) : State :=
  match s.port.reading with
  | some r => readNext r s
  | none =>
    match chooseNotice s.notices.entries with
    | some (n, rest) => readNext ⟨n, 0⟩ { s with notices.entries := rest, port.reading := some ⟨n, 0⟩ }
    | none => { s with port.dataOut := 0#8 }

/-- A rising edge of HRSn ends its cycle. It has no effect while HCSn is high, while HWSn is low, or after HWSn has been
low in the same cycle; while both are low it spoils the cycle of HWSn too (R157). -/
def readByte (selected writeLow : Bool) (s : State) : State :=
  let s1 := { s with
    port.readSpoiled := false
    port.writeSpoiled := s.port.writeSpoiled || (selected && writeLow) }
  if selected && !writeLow && !s.port.readSpoiled then consumeByte s1 else s1

/-- NOTICE_BYTE_READ (R158). -/
def execNoticeByteRead (selected writeLow : Bool) (s : State) : Host.Outcome State Fault Refusal :=
  .next (powered (readByte selected writeLow) s)

end Sys2Proof.Machine
end

