-- ==== Sys2Proof/Machine/Resets.lean ====
section
/-! DEFINITION. HARD_RESET and RESET_RELEASE (R88). -/

namespace Sys2Proof.Machine

/-- RESETn low or power-on: every block at its hard-reset value, lines released (R88, Table 8-5). -/
def hardReset (s : State) : State :=
  { State.reset with station.resetLow := true, pending := s.pending }

/-- RESETn rises: the straps are latched, SN0 least significant, and the station starts in LOCAL (R88). Without RESETn
low there is nothing to release. -/
def resetRelease (straps : BitVec 5) (s : State) : State :=
  if s.station.resetLow then { State.reset with station.number := straps.toNat, pending := s.pending } else s

/-- HARD_RESET (R88). -/
def execHardReset (s : State) : Host.Outcome State Fault Refusal := .next (hardReset s)

/-- RESET_RELEASE (R88). -/
def execResetRelease (straps : BitVec 5) (s : State) : Host.Outcome State Fault Refusal := .next (resetRelease straps s)

end Sys2Proof.Machine
end

