-- ==== Sys2Proof/Machine/Dispatch.lean ====
section
/-! DEFINITION. One step of the block by its constructor: each arm calls the step's own meaning. -/

namespace Sys2Proof.Machine

open Sys2Proof (Instr)

def exec (i : Instr) (s : State) : Host.Outcome State Fault Refusal :=
  match i with
  | .hardReset => Sys2Proof.Machine.execHardReset s
  | .resetRelease straps => Sys2Proof.Machine.execResetRelease straps s
  | .commandByteWrite b selected readLow => Sys2Proof.Machine.execCommandByteWrite b selected readLow s
  | .assemblyAgeExpiry => Sys2Proof.Machine.execAssemblyAgeExpiry s
  | .noticeByteRead selected writeLow => Sys2Proof.Machine.execNoticeByteRead selected writeLow s
  | .setup => Sys2Proof.Machine.execSetup s
  | .go => Sys2Proof.Machine.execGo s
  | .leave => Sys2Proof.Machine.execLeave s
  | .restart => Sys2Proof.Machine.execRestart s
  | .status => Sys2Proof.Machine.execStatus s
  | .mask => Sys2Proof.Machine.execMask s
  | .query => Sys2Proof.Machine.execQuery s
  | .survey => Sys2Proof.Machine.execSurvey s
  | .acquire => Sys2Proof.Machine.execAcquire s
  | .release => Sys2Proof.Machine.execRelease s
  | .extend => Sys2Proof.Machine.execExtend s
  | .cancel => Sys2Proof.Machine.execCancel s
  | .tick => Sys2Proof.Machine.execTick s
  | .leaseWatchExpiry => Sys2Proof.Machine.execLeaseWatchExpiry s
  | .rollDue => Sys2Proof.Machine.execRollDue s
  | .silenceExpiry => Sys2Proof.Machine.execSilenceExpiry s
  | .listenTimerExpiry => Sys2Proof.Machine.execListenTimerExpiry s
  | .copyWaitExpiry => Sys2Proof.Machine.execCopyWaitExpiry s
  | .restTimerExpiry => Sys2Proof.Machine.execRestTimerExpiry s
  | .owedFrameQueue => Sys2Proof.Machine.execOwedFrameQueue s
  | .warnPost => Sys2Proof.Machine.execWarnPost s
  | .frameOpen elapsed pull => Sys2Proof.Machine.execFrameOpen elapsed pull s
  | .frameReceive sampled otherVeto ending => Sys2Proof.Machine.execFrameReceive sampled otherVeto ending s
  | .tryOutcome lines => Sys2Proof.Machine.execTryOutcome lines s
  | .stall lines => Sys2Proof.Machine.execStall lines s
  | .frameBreak lines => Sys2Proof.Machine.execFrameBreak lines s
  | .lineStuck => Sys2Proof.Machine.execLineStuck s
  | .trainRunEnd => Sys2Proof.Machine.execTrainRunEnd s
  | .applyAsk => Sys2Proof.Machine.execApplyAsk s
  | .applyYield => Sys2Proof.Machine.execApplyYield s
  | .applyExtend => Sys2Proof.Machine.execApplyExtend s
  | .applyLapse => Sys2Proof.Machine.execApplyLapse s
  | .applyCancel => Sys2Proof.Machine.execApplyCancel s
  | .applyDrop => Sys2Proof.Machine.execApplyDrop s
  | .applyEnter => Sys2Proof.Machine.execApplyEnter s
  | .applyRoll => Sys2Proof.Machine.execApplyRoll s
  | .applyTrainHead => Sys2Proof.Machine.execApplyTrainHead s
  | .applyTrainClaim => Sys2Proof.Machine.execApplyTrainClaim s
  | .applyTrainTail => Sys2Proof.Machine.execApplyTrainTail s
  | .busIdleReturn => Sys2Proof.Machine.execBusIdleReturn s
  | .lineFallWithoutOpen => Sys2Proof.Machine.execLineFallWithoutOpen s

end Sys2Proof.Machine
end

