-- ==== Sys2Proof/Machine/Step.lean ====
section
/-! DEFINITION. The step: the command at the front of the queue acts on the state with the queue's rest. -/

namespace Sys2Proof.Machine

/-- What passes on an empty queue: one cycle of REFCLK, which counts the idle time and the tick divider (R67, R138);
with RESETn low nothing counts (R88). DESIGN CHOICE (log entry 2). -/
def idleCycle (s : State) : State := powered clockCycle s

/-- The step: the front command of the queue, or one cycle of REFCLK where none waits. -/
def step (s : State) : Host.Outcome State Fault Refusal :=
  match s.pending with
  | c :: rest => exec c { s with pending := rest }
  | [] => .next (idleCycle s)

/-- `s` with the command that the word spells at the front of its queue; `s` where the word spells none. -/
def State.withFetchWord (s : State) (nbits w : Nat) : State :=
  match decodeTableWord nbits w with
  | some c => { s with pending := c :: s.pending }
  | none => s

end Sys2Proof.Machine
end

