-- ==== Sys2Proof/Safety.lean ====
section
/-! DEFINITION. What a lawful state is, part by part: the laws of the spec that every step keeps. Statements about
every step use these; each part stands on its own. -/

namespace Sys2Proof.Machine

open Sys2Proof (Instr BusFrame)

/-! ## Tables -/

/-- Every table of the state is in its form: numbers rising, no entry equal to what an unlisted number reads as. -/
abbrev TablesLawful (s : State) : Prop :=
  Table.wf ClaimRecord.free s.replica.claims = true ∧ Table.wf RosterEntry.absent s.replica.roster = true ∧
    Table.wf Tag.free s.tags = true ∧ Table.wf none s.watch.watches = true ∧
    Table.wf none s.watch.silence = true ∧ Table.wf 0 s.train.carried = true

/-! ## Claim records -/

/-- The head of a waiter queue fails the grant test (R14). -/
abbrev HeadWaits (r : ClaimRecord) : Prop := ∀ w ∈ r.waiters.head?, grantTest r.holders w.mode = false

/-- A claim record as chapters 1 and 2 allow it: FREE, or one SOLE holder, or one to four SHARED ones (R2); serial 0
and no waiters where it is FREE (R4, R14); no station twice (R29); leases of 1 to 4095 (R3, R24) and serials of 0 to
255 (R4); the head of its queue waits for a reason (R14). -/
abbrev RecordLawful (r : ClaimRecord) : Prop :=
  (r.holders = [] ∨ holdersShaped r.holders = true) ∧
    (r.holders = [] → r.waiters = [] ∧ r.serial = 0) ∧
    (r.holders.map (·.station) ++ r.waiters.map (·.station)).Nodup ∧
    (∀ h ∈ r.holders, leaseOutOfRange h.lease = false ∧ h.serial < 256) ∧
    (∀ w ∈ r.waiters, leaseOutOfRange w.lease = false) ∧
    r.serial < 256 ∧
    HeadWaits r

/-- Every claim record is lawful. -/
abbrev ClaimsLawful (s : State) : Prop := ∀ c < Config.claimCount, RecordLawful (claimAt s c)

/-- If the oldest received frame is a TRAIN-CLAIM, the record it carries is lawful. A loader's tests before the veto
slot see to its shape, and R37 says that a source's copy meets R14 and R29. -/
abbrev FrontClaimLawful (s : State) : Prop :=
  ∀ e ∈ s.apply.rx.head?, e.kind = .trainClaim →
    ∀ f ∈ parseClaim e.payload, RecordLawful ⟨f.serial, f.holders.map (·.1), f.waiters⟩

/-! ## Tags and places -/

/-- The reservations that a tag holds by its phase (R172). -/
def Tag.reserved (g : Tag) : Nat :=
  if g.inUse then
    match g.phase with
    | some .held | some .yielding => 1
    | some .sending | some .waiting | some .cancelling => 2
    | none => 0
  else 0

/-- A tag holds what R172 gives its phase, and a tag in use has a phase (R166). -/
abbrev TagLawful (g : Tag) : Prop := g.reservations = g.reserved ∧ (g.inUse = true → g.phase.isSome = true)

/-- The notice queue's places: entries, reservations and the kept place together never exceed 48 (R175), over a
lawful tag table. -/
abbrev PlacesLawful (s : State) : Prop :=
  Table.wf Tag.free s.tags = true ∧ (∀ p ∈ s.tags, p.1 < Config.tagCount ∧ TagLawful p.2) ∧
    placesTaken s ≤ Config.noticePlaces

/-! ## Queues of frames -/

/-- The receive queue holds at most 4 frames and has room while an own frame is on the bus (R39, R40); at most 5
bound and 3 internal places are held (R123). -/
abbrev QueuesLawful (s : State) : Prop :=
  s.apply.rx.length ≤ Config.rxSize ∧ (s.link.sending.isSome = true → s.apply.rx.length < Config.rxSize) ∧
    boundHeld s ≤ Config.boundPlaces ∧ internalHeld s ≤ Config.internalPlaces

/-- No two internal frames of the transmit queue have the same key (R124). -/
abbrev KeysLawful (s : State) : Prop :=
  (s.tx.entries.filter (fun e => e.binding.isNone)).Pairwise (fun a b => TxFrame.sameKey a.frame b.frame = false)

/-! ## The bus -/

/-- Own frames are sent only in the states that send (R137), and no run counter stands at its limit (R152 to R154). -/
abbrev RunsLawful (s : State) : Prop :=
  (s.link.sending.isSome = true → s.station.state.sends = true) ∧ s.link.vetoRun < Config.vetoRunLimit ∧
    s.link.unheardRun < Config.unheardRunLimit ∧ s.link.clashRun < Config.clashRunLimit

/-- No tag is in use (R86). -/
abbrev NoTags (s : State) : Prop := ∀ t < Config.tagCount, (tagAt s t).inUse = false

/-- What a station in LOCAL, SIDELINED or HALTED holds nothing of: replica, received frames, train, transmit queue,
watches, silence counters, timers but the rest timer, lines, runs, tags (R42, R86, R101, R136, R137, R156). -/
abbrev OffTheBus (s : State) : Prop :=
  s.replica = ⟨[], []⟩ ∧ s.apply = ⟨[], none⟩ ∧ s.train = ⟨none, false, [], .none, false⟩ ∧ s.tx = ⟨[], false, none⟩ ∧
    s.link = ⟨.notReceiving, 0, none, false, none, false, false, 0, 0, 0⟩ ∧ s.watch.watches = [] ∧
    s.watch.silence = [] ∧ s.watch.pause = false ∧ s.watch.roll = none ∧ s.watch.listen = none ∧
    s.watch.copyWait = none ∧ s.station.disagree = 0 ∧ NoTags s

/-- In the states that do not receive, the station is off the bus. -/
abbrev QuietLawful (s : State) : Prop := s.station.state.receives = false → OffTheBus s

/-! ## Words of the statements -/

/-- RESETn is high. -/
abbrev Powered (s : State) : Prop := s.station.resetLow = false

/-- The state once the waiting command has left the assembler (R160). -/
abbrev taken (s : State) : State := { s with port.assembler := [], port.age := 0 }

/-- Every block at its hard-reset value, as R88 and the "Hard reset" rows of Tables 1-6, 2-3, 4-3, 5-4, 5-5, 6-3, 7-7,
8-5, 9-6 and 10-4 give it. -/
abbrev HardResetValues (s : State) : Prop :=
  s.station.state = .localState ∧ s.station.setup = ⟨1, 20, 250, 10, 1000⟩ ∧ s.station.lock = false ∧
    s.station.attempts = 0 ∧ s.station.lastCause = .none ∧ OffTheBus s ∧ s.watch.rest = none ∧ s.watch.tickCount = 0 ∧
    s.tags = [] ∧ s.notices = ⟨[], 0, false, false⟩ ∧ s.port.assembler = [] ∧ s.port.age = 0 ∧ s.port.reading = none ∧
    s.port.writeSpoiled = false ∧ s.port.readSpoiled = false

/-- No warn latch is set: no WARN is pending (R180). -/
abbrev NoWarnPending (s : State) : Prop := ∀ t < Config.tagCount, (tagAt s t).warnLatch = false

/-- The oldest received frame is `e`, of kind `k`, with `rest` behind it, at a station that is powered and receives,
and no incomplete run waits for its end before `e`: its application is the next thing the apply unit does. -/
abbrev FrontIs (s : State) (k : FrameKind) (e : RxEntry) (rest : List RxEntry) : Prop :=
  s.station.resetLow = false ∧ s.station.state.receives = true ∧ s.apply.rx = e :: rest ∧ e.kind = k ∧
    (e.continuation = true ∨ s.train.run ≠ .ended)

/-- The state in which the rule of the oldest received frame acts: the frame has left the queue, a record that it
does not continue has ended, and the common steps are made: the silence counter of a sender that is listed, and is not
this station, is at 0, and an own frame has restarted the roll timer (R41, R43, R111). -/
def atFront (e : RxEntry) (rest : List RxEntry) (s : State) : State := { s with
  apply.rx := rest
  apply.record := if e.continuation then s.apply.record else none
  watch.silence := if rosterAt s e.sender = .absent ∨ e.sender = s.station.number then s.watch.silence
    else Table.set none s.watch.silence e.sender (some 0)
  watch.roll := if e.own then s.watch.roll.map (fun _ => 0) else s.watch.roll }

/-- The ranges of Table 9-3. -/
abbrev Setup.allowed (v : Setup) : Prop :=
  v.bitRate ≤ 3 ∧ (1 ≤ v.tickUnits ∧ v.tickUnits ≤ 255) ∧ (16 ≤ v.r ∧ v.r ≤ 4095) ∧
    (1 ≤ v.retryLimit ∧ v.retryLimit ≤ 15) ∧ (1 ≤ v.defaultLease ∧ v.defaultLease ≤ 4095)

/-- An internal frame is due by Table 7-5, whether or not its key is present. -/
def Due (s : State) : TxFrame → Prop
  | .drop d =>
    (s.station.state = .member ∧ d < 32 ∧ rosterAt s d ≠ .absent ∧ silenceAt s d = some (4 * s.station.setup.r)) ∨
      (s.station.state = .leaving ∧ d = s.station.number)
  | .lapse c h serial =>
    s.station.state = .member ∧ c < 64 ∧ (∃ x ∈ (claimAt s c).holders, x.station = h) ∧
      ∃ w, watchAt s c h = some w ∧ w.value = 0 ∧ w.serial = serial
  | .trainHead =>
    s.station.state = .member ∧ copySource s = some s.station.number ∧ ∃ d < 32, rosterAt s d = .joining
  | .enter => s.station.state = .entering
  | .roll joining =>
    s.watch.roll = some s.station.setup.r ∧
      ((s.station.state = .member ∧ joining = false) ∨ (s.station.state = .awaitCopy ∧ joining = true))
  | .extend _ _ | .yield _ | .ask _ _ _ _ | .cancel _ => False

/-- An entry is stale by Table 7-3 and R119. -/
def Stale (e : TxEntry) (s : State) : Prop :=
  match e.frame with
  | .lapse c h serial => ∀ x, slotOf (claimAt s c) h = some x → x.serial ≠ serial
  | .drop d => e.superseded = true ∨ rosterAt s d = .absent
  | .yield c | .extend c _ => ∀ x ∈ (claimAt s c).holders, x.station ≠ s.station.number
  | .cancel c => ∀ w ∈ (claimAt s c).waiters, w.station ≠ s.station.number
  | .ask _ _ _ _ => rosterAt s s.station.number ≠ .member
  | .roll true => e.superseded = true ∨ s.station.state = .member ∨ s.station.state = .leaving
  | .roll false => e.superseded = true ∨ s.station.state ≠ .member
  | .trainHead => (∀ d < 32, rosterAt s d ≠ .joining) ∨ copySource s ≠ some s.station.number
  | .enter => s.station.state ≠ .entering

/-- The bus is IDLE for a station that sends, sends nothing now, and has nothing unapplied; no run waits for its
end. Once its gap is over it may open a frame (R139). -/
abbrev AtGap (s : State) : Prop :=
  Powered s ∧ s.link.bus = .idle ∧ s.station.state.sends = true ∧ s.link.sending = none ∧ s.apply.rx = [] ∧
    s.train.run ≠ .ended

/-- The idle time once `elapsed` more own bit times have passed on the idle bus; it is not counted beyond 20
(R138). -/
abbrev idleAfter (elapsed : Nat) (s : State) : Nat :=
  min (20 * cyclesPerBit s) (s.link.idleCycles + elapsed * cyclesPerBit s)

/-- The station takes the next frame from the bus as a receiver; no incomplete run waits for its end (R137). -/
abbrev TakesFrames (s : State) : Prop :=
  Powered s ∧ s.station.state.receives = true ∧ s.link.sending = none ∧
    (s.link.bus = .idle ∨ s.link.bus = .inFrame ∨ s.link.bus = .inRelinked) ∧ s.train.run ≠ .ended

/-! ## Composing (Table 7-1) -/

/-- `o` is what a frame `f` of the transmit queue is composed to in `s`: the fields fixed at its queuing, and those of
Table 7-1 read from the replica (R50, R94, R109). -/
def Composed (f : TxFrame) (s : State) (o : OwnFrame) : Prop :=
  match f with
  | .drop d => o = ⟨.drop, [byte d]⟩
  | .lapse c h serial => o = ⟨.lapse, [byte c, byte h, byte serial]⟩
  | .extend c lease => ∀ x, slotOf (claimAt s c) s.station.number = some x →
    o = ⟨.extend, [byte c, byte x.serial] ++ bytes16 lease⟩
  | .yield c => ∀ x, slotOf (claimAt s c) s.station.number = some x → o = ⟨.yield, [byte c, byte x.serial]⟩
  | .trainHead => ∃ h : HeadFields, o = ⟨.trainHead, headBytes h⟩ ∧
    (∀ d < 32, (h.members.getLsbD d = true ↔ rosterAt s d = .member) ∧
      (h.joining.getLsbD d = true ↔ rosterAt s d = .joining)) ∧
    h.k = ((List.range 64).filter (fun c => (claimAt s c).holders ≠ [])).length ∧
    h.occupancy = ((List.range 64).map (fun c => (claimAt s c).waiters.length)).sum
  | .ask c mode noWait lease => o = ⟨.ask, askBytes c mode noWait lease⟩
  | .cancel c => o = ⟨.cancel, [byte c]⟩
  | .enter => o = ⟨.enter, []⟩
  | .roll true => o = ⟨.roll, rollBytes true 0#16⟩
  | .roll false => o = ⟨.roll, rollBytes false (digest s.replica)⟩

/-! ## Veto reasons (Tables 6-2 and 8-1) -/

/-- The frame on the bus continues the pending train: opened by RELINK directly after its last accepted frame (R111). -/
abbrev ContinuesTrain (s : State) : Prop := s.link.bus = .inRelinked ∧ s.link.chain = true ∧ s.link.train ≠ none

/-- A TRAIN-HEAD is out of context (Table 6-2). -/
abbrev HeadFails (f : BusFrame) (s : State) : Prop :=
  (s.link.bus = .inRelinked ∧ s.link.train ≠ none) ∨ ∀ h, parseHead f.payload = some h →
    64 < h.k ∨ 128 < h.occupancy ∨ h.members.getLsbD f.sender.toNat = false ∨
      ∃ d < 32, h.members.getLsbD d = true ∧ h.joining.getLsbD d = true

/-- A TRAIN-CLAIM is out of context (Table 6-2); a payload with no such fields has another length than its counts
say. -/
abbrev ClaimFails (f : BusFrame) (s : State) : Prop :=
  ¬ ContinuesTrain s ∨ ∀ r g, s.link.train = some r → parseClaim f.payload = some g →
    f.sender.toNat ≠ r.sender ∨ r.k ≤ r.count ∨ 64 ≤ g.claim ∨ (∃ l, r.lastClaim = some l ∧ g.claim ≤ l) ∨
      g.holders = [] ∨ 4 < g.holders.length

/-- The content of a TRAIN-CLAIM fails at a station that loads the train (R37, R115). -/
abbrev ClaimContentFails (self : Nat) (r : LinkTrain) (g : ClaimFields) : Prop :=
  let named := g.holders.map (·.1.station) ++ g.waiters.map (·.station)
  g.holders = [] ∨ (1 < g.holders.length ∧ ∃ h ∈ g.holders, h.1.mode = .sole) ∨ 4 < g.holders.length ∨
    (∃ h ∈ g.holders, h.1.lease = 0 ∨ 4095 < h.1.lease ∨ h.1.lease + max 2 (h.1.lease / 8) < h.2) ∨
    (∃ w ∈ g.waiters, w.lease = 0 ∨ 4095 < w.lease) ∨
    (∃ d ∈ named, r.members.getLsbD d = false ∨ d = self) ∨ ¬ named.Nodup ∨
    r.occupancy < r.runOccupancy + g.waiters.length

/-- A TRAIN-TAIL is out of context, its count test among the tests (Table 6-2). -/
abbrev TailFails (f : BusFrame) (s : State) : Prop :=
  ¬ ContinuesTrain s ∨ ∀ r d, s.link.train = some r → parseTail f.payload = some d →
    f.sender.toNat ≠ r.sender ∨ r.count < r.k

/-- The occupancy or the digest of a TRAIN-TAIL fails at a station that loads the train (R37, R116). -/
abbrev TailContentFails (r : LinkTrain) (d : BitVec 16) : Prop := r.runOccupancy ≠ r.occupancy ∨ r.finalDigest ≠ d

/-- A reason of Table 8-1 that counts in the veto run. -/
def VetoReason (f : BusFrame) (s : State) : Prop :=
  f.check ≠ BusFrame.computedCheck f ∨ (∀ k ∈ FrameKind.ofCode f.kind.toNat, k.lengthOk f.length.toNat = false) ∨
    4 ≤ s.apply.rx.length ∨ f.sender.toNat = s.station.number ∨
    (s.link.bus = .inRelinked ∧ f.kind ≠ 7#4 ∧ f.kind ≠ 8#4) ∨
    (f.kind = 6#4 ∧ (s.apply.rx ≠ [] ∨ HeadFails f s)) ∨
    (f.kind = 7#4 ∧ (ClaimFails f s ∨ ∃ r g, s.link.train = some r ∧ r.loads = true ∧
      parseClaim f.payload = some g ∧ ClaimContentFails s.station.number r g)) ∨
    (f.kind = 8#4 ∧ (TailFails f s ∨ ∃ r d, s.link.train = some r ∧ r.loads = true ∧
      parseTail f.payload = some d ∧ TailContentFails r d))

/-- The reason of Table 8-1 that does not count: a TRAIN-HEAD, from another station than the copy source, that does not
name this station in MEMBER or LEAVING (R113). -/
def NonSourceHead (f : BusFrame) (s : State) : Prop :=
  f.kind = 6#4 ∧ (s.station.state = .member ∨ s.station.state = .leaving) ∧ copySource s ≠ some f.sender.toNat ∧
    ∃ h, parseHead f.payload = some h ∧ h.joining.getLsbD s.station.number = false

/-! ## The bits of an own try -/

/-- Bit period `i` is the first in which the sender of `own` sent 1 and sampled 0 (R142, R143). -/
abbrev BeatenAt (own sampled : List Bool) (i : Nat) : Prop :=
  own[i]? = some true ∧ sampled[i]? = some false ∧ ∀ j < i, own[j]? = some true → sampled[j]? ≠ some false

/-- The bits end before the heard slot was sampled, or after a clash, and arbitration was not lost: a try whose frame
was cut short (R145, R150; after a clash: log entry 34). -/
abbrev CutShort (own sampled : List Bool) : Prop :=
  (∃ i, 9 ≤ i ∧ BeatenAt own sampled i) ∨ ((∀ i, ¬ BeatenAt own sampled i) ∧ sampled.length ≤ own.length + 1)

/-! ## Dropped notices -/

/-- `t` is `s` after an unreserved notice found no place: only the dropped counts change, by where an OVERFLOW stands
(R179). -/
def CountedDrop (s t : State) : Prop :=
  (overflowPresent s = false → t = push (.overflow 1) s) ∧
  (∀ (older younger : List Notice) (n : Nat), readingOverflow s = false →
    s.notices.entries = older ++ .overflow n :: younger → (older ++ younger).any Notice.isOverflow = false →
    t = { s with notices.entries := older ++ .overflow (min 255 (n + 1)) :: younger }) ∧
  (readingOverflow s = true → t = { s with notices.heldDrops := min 255 (s.notices.heldDrops + 1) })

/-! ## Removal, promotion and purge -/

/-- The hold slots that waiters are granted in queue order on a claim whose serial is `n`: one serial each, 255 followed
by 0 (R4, R7, R8). -/
def grantedSlots (n : Nat) : List Waiter → List HoldSlot
  | [] => []
  | w :: ws => ⟨w.station, w.mode, w.lease, (n + 1) % 256⟩ :: grantedSlots ((n + 1) % 256) ws

/-- Promotion on claim `c` between `s` and `t`, from these holders and this queue: waiters were granted from the head in
queue order, one serial each; the claim is FREE with serial 0 where nobody holds it; the head left over waits for a
reason (R4, R12, R14). -/
def Promoted (c : Nat) (holders : List HoldSlot) (waiters : List Waiter) (s t : State) : Prop :=
  HeadWaits (claimAt t c) ∧ ∃ granted, waiters = granted ++ (claimAt t c).waiters ∧
    (claimAt t c).holders = holders ++ grantedSlots (claimAt s c).serial granted ∧
    (claimAt t c).serial =
      if (claimAt t c).holders = [] then 0
      else if granted = [] then (claimAt s c).serial else ((claimAt s c).serial + granted.length) % 256

/-- The grants of a promotion on claim `c` between `s` and `t`, where the record names no station twice: each starts the
slot's watch, at the lease for this station and with the grace for another, warned at once where it starts at its warn
point; and one to this station reaches its WAITING or CANCELLING tag as GRANTED (R7, R15, R44, R70, R74). -/
def GrantsReach (c : Nat) (s t : State) : Prop :=
  ((claimAt s c).holders.map (·.station) ++ (claimAt s c).waiters.map (·.station)).Nodup →
  ∀ x ∈ (claimAt t c).holders, (∃ w ∈ (claimAt s c).waiters, w.station = x.station) →
    (x.station ≠ s.station.number →
      watchAt t c x.station = some ⟨x.serial, x.lease + max 2 (x.lease / 8), false⟩) ∧
    (x.station = s.station.number →
      watchAt t c x.station = some ⟨x.serial, x.lease, decide (x.lease ≤ max 1 (x.lease / 4))⟩ ∧
      ∀ n < 16, (tagAt s n).inUse = true → (tagAt s n).claim = c →
        (tagAt s n).phase = some .waiting ∨ (tagAt s n).phase = some .cancelling →
        (∀ m < 16, m ≠ n → (tagAt s m).inUse = true → (tagAt s m).claim ≠ c) →
        (tagAt t n).inUse = true ∧ (tagAt t n).phase = some .held ∧ .granted n x.serial ∈ t.notices.entries)

/-- The removal of the hold of `h` from claim `c`, and the promotion after it, between `s` and `t`: the slot is gone
and its watch with it, promotion ran, its grants reached watches and tags, and no other claim changed (R10, R12). -/
abbrev RemovedAndPromoted (c h : Nat) (s t : State) : Prop :=
  (∀ b, b ≠ c → claimAt t b = claimAt s b) ∧ watchAt t c h = none ∧
    Promoted c ((claimAt s c).holders.filter (fun x => x.station != h)) (claimAt s c).waiters s t ∧ GrantsReach c s t

/-- The claim records after the purge of station `d`: a claim that does not name `d` stands as it was; where `d` waited
behind the head it has left the queue; where it was the head, or held, it is gone and promotion ran (R16, R33, R34). -/
def Purged (d : Nat) (s t : State) : Prop :=
  ∀ c < 64,
    let r := claimAt s c
    let holds := ∃ h ∈ r.holders, h.station = d
    let heads := ∃ w, r.waiters.head? = some w ∧ w.station = d
    (¬ holds → ¬ heads → claimAt t c = { r with waiters := r.waiters.filter (fun w => w.station != d) }) ∧
    (holds ∨ heads →
      Promoted c (r.holders.filter (fun h => h.station != d)) (r.waiters.filter (fun w => w.station != d)) s t)

/-- What the purge of station `d` hands on, where the records name stations 0 to 31 only: the watches of its holds and
the LAPSEs for them are gone, the grants reach watches and tags, and no other watch changed (R10, R16, R17). -/
def PurgeHandedOn (d : Nat) (s t : State) : Prop :=
  (∀ c < 64, ∀ w ∈ (claimAt s c).waiters, w.station < 32) → ∀ c < 64,
    GrantsReach c s t ∧
    ((∃ h ∈ (claimAt s c).holders, h.station = d) → watchAt t c d = none ∧
      ∀ x ∈ t.tx.entries, x.onBus = false → ∀ serial, x.frame ≠ .lapse c d serial) ∧
    ∀ b < 32, b ≠ d → (∀ w ∈ (claimAt s c).waiters, w.station ≠ b) → watchAt t c b = watchAt s c b

end Sys2Proof.Machine
end

