-- ==== Sys2Proof/Certificates/Slice0/Obligations.lean ====
section
/-! DEFINITION. The statements for the provers, by part of the block. A statement that gives the next state as `s`, or
the state with the command taken (`taken s`), or the state in which a frame's rule acts (`atFront e rest s`), with
updates is at once the effect, the frame and the completion of its steps: what is not updated is unchanged. -/

open Sys2Proof Sys2Proof.Machine

/-! ## The queue of steps, and resets -/

/-- The step takes the command at the front of the queue and runs it on the state with the queue's rest; every command,
in every state, answers a next state and leaves the queue alone. On an empty queue one cycle of REFCLK passes, which is
the model's choice (log entry 2). -/
def Obligations.StepRunsTheFrontCommand : Prop :=
  (∀ s : State,
    (∀ (c : Instr) (rest : List Instr), s.pending = c :: rest → step s = exec c { s with pending := rest }) ∧
    (s.pending = [] → step s = .next (idleCycle s))) ∧
  (∀ (c : Instr) (s : State), ∃ t, exec c s = .next t ∧ t.pending = s.pending)

/-- RESETn low, and its release, leave every block at its hard-reset value; the release latches the station number;
while RESETn is low, HRDY is low, HATNn is released and no other step changes anything (R88, R157, R185). -/
def Obligations.ResetHoldsEveryBlock : Prop :=
  ((∀ s : State, ∃ t, exec .hardReset s = .next t ∧ t.station.resetLow = true ∧ HardResetValues t) ∧
  (∀ (s : State) (straps : BitVec 5), s.station.resetLow = true →
    ∃ t, exec (.resetRelease straps) s = .next t ∧ Powered t ∧ t.station.number = straps.toNat ∧ HardResetValues t)) ∧
  (∀ s : State, s.station.resetLow = true → hrdy s = false ∧ attention s = false ∧
    ∀ c : Instr, c ≠ .hardReset → (∀ n, c ≠ .resetRelease n) → exec c s = .next s)

/-! ## Host port bytes -/

/-- A host byte is a code, a field, an unknown code, or lost; a rise of HWSn while HCSn is high or HRSn is low, or in a
cycle in which HRSn was low, has no effect, and while HRSn is low the rise of HRSn that follows has none either; a
partial command whose age has reached 255 ticks is discarded with DENIED(code, FORMAT), and before that stays (R157,
R159). That an expiry changes nothing before its time is log entry 1, and the order of the two events at 255 is log
entry 19; the record of a spoiled cycle is the model's (log entry 22). -/
def Obligations.HostBytesAreAssembled : Prop :=
  (∀ (s : State) (b : Byte), Powered s →
    (∀ selected readLow, selected = false ∨ readLow = true ∨ s.port.writeSpoiled = true →
      exec (.commandByteWrite b selected readLow) s = .next { s with
        port.writeSpoiled := false
        port.readSpoiled := s.port.readSpoiled || (selected && readLow) }) ∧
    (s.port.writeSpoiled = false →
      (s.port.assembler = [] → (Command.ofCode b.toNat).isSome = true →
        exec (.commandByteWrite b true false) s = .next { s with port.assembler := [b], port.age := 0 }) ∧
      (s.port.assembler = [] → Command.ofCode b.toNat = none → 0 < freePlaces s →
        exec (.commandByteWrite b true false) s = .next (push (.denied b .format) s)) ∧
      (s.port.assembler ≠ [] → completeCommand s.port.assembler = none → s.port.age < 255 →
        exec (.commandByteWrite b true false) s = .next { s with port.assembler := s.port.assembler ++ [b] }) ∧
      ((completeCommand s.port.assembler).isSome = true → 0 < freePlaces s →
        exec (.commandByteWrite b true false) s = .next (push .hostOverrun s)))) ∧
  (∀ (s : State) (b : Byte) (bs : List Byte), Powered s → s.port.assembler = b :: bs →
    completeCommand (b :: bs) = none →
    (255 ≤ s.port.age → 0 < freePlaces s →
      exec .assemblyAgeExpiry s = .next (push (.denied b .format) (taken s))) ∧
    (s.port.age < 255 → exec .assemblyAgeExpiry s = .next s))

/-- An unreserved notice that finds no free place changes the dropped counts and nothing else, by where an OVERFLOW
stands (R179); so at its posters, whose other effects stand: the FAULT of a lost host byte, DENIED(FORMAT), STATE,
QUEUED, EXTENDED and TOO_LATE (R49, R52, R55, R87, R157, R159). -/
def Obligations.NoticeWithoutRoomIsCounted : Prop :=
  ∀ s : State, freePlaces s = 0 → (∀ n, CountedDrop s (postUnreserved n s)) ∧ (Powered s →
    (∀ b, s.port.writeSpoiled = false →
      (completeCommand s.port.assembler).isSome = true ∨
        (s.port.assembler = [] ∧ Command.ofCode b.toNat = none) →
      ∃ t, exec (.commandByteWrite b true false) s = .next t ∧ CountedDrop s t) ∧
    (s.port.assembler ≠ [] → completeCommand s.port.assembler = none → 255 ≤ s.port.age →
      ∃ t, exec .assemblyAgeExpiry s = .next t ∧ CountedDrop (taken s) t) ∧
    (s.station.state = .sidelined → s.watch.rest = some s.station.setup.r →
      ∃ t, exec .restTimerExpiry s = .next t ∧ t.station.state = .listen ∧ t.watch.listen = some 0 ∧
        CountedDrop { t with notices := s.notices } t) ∧
    ∀ (e : RxEntry) (rest : List RxEntry) (n : Nat), s.station.state = .member → e.own = true →
      e.sender = s.station.number → e.binding = some n → n < 16 → (tagAt s n).inUse = true →
      rosterAt s e.sender = .member →
      (∀ cb fb lh ll : Byte, FrontIs s .ask e rest → e.payload = [cb, fb, lh, ll] → cb.toNat < 64 → fb.toNat < 2 →
        1 ≤ u16 lh ll → u16 lh ll ≤ 4095 → (tagAt s n).phase = some .sending → (tagAt s n).cancelPending = false →
        (claimAt s cb.toNat).waiters ≠ [] → (∀ h ∈ (claimAt s cb.toNat).holders, h.station ≠ e.sender) →
        (∀ w ∈ (claimAt s cb.toNat).waiters, w.station ≠ e.sender) → occupancy s < 128 →
        ∃ t, exec .applyAsk s = .next t ∧ (tagAt t n).phase = some .waiting ∧
          CountedDrop { t with notices := s.notices } t) ∧
      (∀ c serial lease, FrontIs s .extend e rest → parseExtend e.payload = some (c, serial, lease) → c < 64 →
        2 ≤ lease → lease ≤ 4095 → (∃ x, slotOf (claimAt s c) e.sender = some x ∧ x.serial = serial) →
        (tagAt s n).claim = c → (tagAt s n).phase = some .held →
        (∀ m < 16, m ≠ n → (tagAt s m).inUse = true → (tagAt s m).claim ≠ c) →
        ∃ t, exec .applyExtend s = .next t ∧ (tagAt t n).lease = lease ∧
          CountedDrop { t with notices := s.notices } t) ∧
      (∀ cb : Byte, FrontIs s .cancel e rest → e.payload = [cb] →
        (∀ w ∈ (claimAt s cb.toNat).waiters, w.station ≠ e.sender) → (tagAt s n).phase = some .held →
        ∃ t, exec .applyCancel s = .next t ∧ CountedDrop (atFront e rest s) t))

/-- A notice read first is the oldest of the highest class that holds any entry; its first byte is driven. Neither mask
enters into it (R182, R158). A cycle in which HWSn was low reads nothing (R157, log entry 22). -/
def Obligations.NoticeChosenIsOldestOfHighestClass : Prop :=
  ∀ s : State, Powered s → s.port.readSpoiled = false → s.port.reading = none → s.notices.entries ≠ [] →
    ∃ (n : Notice) (older younger : List Notice) (b : Byte), s.notices.entries = older ++ n :: younger ∧
      (∀ m ∈ older, n.rank < m.rank) ∧ (∀ m ∈ younger, n.rank ≤ m.rank) ∧ n.bytes.head? = some b ∧
      exec (.noticeByteRead true false) s =
        .next { s with notices.entries := older ++ younger, port.dataOut := b, port.reading := some ⟨n, 1⟩ }

/-- A read inside a notice returns its next byte; a read with no notice returns 0x00; a rise of HRSn while HCSn is high
or HWSn is low, or in a cycle in which HWSn was low, has no effect, and while HWSn is low the rise of HWSn that follows
has none either. The read of the last byte frees the place; after an OVERFLOW the held drops make a new one at once
(R157, R158, R179). The record of a spoiled cycle is the model's (log entry 22). -/
def Obligations.NoticeBytesAreRead : Prop :=
  (∀ s : State, Powered s →
    (∀ selected writeLow, selected = false ∨ writeLow = true ∨ s.port.readSpoiled = true →
      exec (.noticeByteRead selected writeLow) s = .next { s with
        port.readSpoiled := false
        port.writeSpoiled := s.port.writeSpoiled || (selected && writeLow) }) ∧
    (s.port.readSpoiled = false →
      (s.port.reading = none → s.notices.entries = [] →
        exec (.noticeByteRead true false) s = .next { s with port.dataOut := 0#8 }) ∧
      (∀ (n : Notice) (k : Nat) (b : Byte), s.port.reading = some ⟨n, k⟩ → n.bytes[k]? = some b →
        k + 1 < n.bytes.length →
        exec (.noticeByteRead true false) s =
          .next { s with port.dataOut := b, port.reading := some ⟨n, k + 1⟩ }))) ∧
  (∀ (s : State) (n : Notice) (k : Nat) (b : Byte), Powered s → s.port.readSpoiled = false → NoWarnPending s →
    s.port.reading = some ⟨n, k⟩ → n.bytes[k]? = some b → n.bytes.length = k + 1 →
    (n.isOverflow = false ∨ s.notices.heldDrops = 0 →
      exec (.noticeByteRead true false) s = .next { s with port.dataOut := b, port.reading := none }) ∧
    (n.isOverflow = true → 0 < s.notices.heldDrops →
      exec (.noticeByteRead true false) s =
        .next { s with
          port.dataOut := b
          port.reading := none
          notices.entries := s.notices.entries ++ [.overflow s.notices.heldDrops]
          notices.heldDrops := 0 }))

/-! ## Commands: room and checks -/

/-- A command waits for its room: with no free notice place none but RESTART is taken; with all 5 bound places held,
or with fewer than 2 notice places or the tag number not free of the receive queue for ACQUIRE, the commands that
queue a frame wait (R160). A step finds nothing to take and changes nothing. That such a step changes nothing is the
model's reading (log entry 1). -/
def Obligations.CommandWaitsForRoom : Prop :=
  ∀ s : State,
    (freePlaces s = 0 → ∀ i ∈ [Instr.setup, .go, .leave, .status, .mask, .query, .survey, .acquire, .release, .extend,
      .cancel], exec i s = .next s) ∧
    (5 ≤ boundHeld s → ∀ i ∈ [Instr.acquire, .release, .extend, .cancel], exec i s = .next s) ∧
    (freePlaces s < 2 → exec .acquire s = .next s) ∧
    (∀ (tg q lh ll : Byte), s.port.assembler = [0x20#8, tg, q, lh, ll] →
      (∃ e ∈ s.apply.rx, e.own = true ∧ e.binding = some tg.toNat) → exec .acquire s = .next s)

/-- ACQUIRE, RELEASE, EXTEND and CANCEL are checked for state, range and tag in use, in that order, and a denied one has
no effect but its reply; a lease above 4095 in ACQUIRE or EXTEND is out of range (R161). -/
def Obligations.TagCommandsAreChecked : Prop :=
  (∀ (s : State) (tg q lh ll : Byte), Powered s → s.port.assembler = [0x20#8, tg, q, lh, ll] →
    roomFor .acquire s = true →
    (s.station.state ≠ .member → exec .acquire s = .next (push (.denied 0x20#8 .state) (taken s))) ∧
    (s.station.state = .member → 16 ≤ tg.toNat ∨ 4095 < u16 lh ll →
      exec .acquire s = .next (push (.denied 0x20#8 .range) (taken s))) ∧
    (s.station.state = .member → tg.toNat < 16 → u16 lh ll ≤ 4095 → (tagAt s tg.toNat).inUse = true →
      exec .acquire s = .next (push (.denied 0x20#8 .tagBusy) (taken s)))) ∧
  (∀ (s : State) (c : Command) (i : Instr) (tg : Byte) (more : List Byte), Powered s →
    (c = .release ∧ i = .release ∧ more = [] ∨ c = .cancel ∧ i = .cancel ∧ more = [] ∨
      (∃ lh ll, c = .extend ∧ i = .extend ∧ more = [lh, ll])) →
    s.port.assembler = byte c.code :: tg :: more → roomFor c s = true →
    let tooLong := ∃ lh ll, more = [lh, ll] ∧ 4095 < u16 lh ll
    (s.station.state ≠ .member → s.station.state ≠ .leaving →
      exec i s = .next (push (.denied (byte c.code) .state) (taken s))) ∧
    (s.station.state = .member ∨ s.station.state = .leaving → 16 ≤ tg.toNat ∨ tooLong →
      exec i s = .next (push (.denied (byte c.code) .range) (taken s))) ∧
    (s.station.state = .member ∨ s.station.state = .leaving → tg.toNat < 16 → ¬ tooLong →
      (tagAt s tg.toNat).inUse = false →
      exec i s = .next (push (.denied (byte c.code) .idleTag) (taken s))))

/-! ## Station commands -/

/-- SETUP stores its five values, locks and restarts the tick count, or is denied with nothing stored (R161, R163). -/
def Obligations.SetupStoresOrIsDenied : Prop :=
  ∀ (s : State) (br tu rh rl rt lh ll : Byte), Powered s →
    s.port.assembler = [0x08#8, br, tu, rh, rl, rt, lh, ll] → 0 < freePlaces s →
    let v : Setup := ⟨br.toNat, tu.toNat, u16 rh rl, rt.toNat, u16 lh ll⟩
    (s.station.state ≠ .localState → exec .setup s = .next (push (.denied 0x08#8 .state) (taken s))) ∧
    (s.station.state = .localState → s.station.lock = true →
      exec .setup s = .next (push (.denied 0x08#8 .locked) (taken s))) ∧
    (s.station.state = .localState → s.station.lock = false → ¬ v.allowed →
      exec .setup s = .next (push (.denied 0x08#8 .range) (taken s))) ∧
    (s.station.state = .localState → s.station.lock = false → v.allowed →
      exec .setup s =
        .next { taken s with station.setup := v, station.lock := true, watch.tickCount := 0 })

/-- GO locks the SETUP values, clears roster, attempt count and runs, starts the listen timer and moves to LISTEN
with the bus BUSY (R88, R138); elsewhere than in LOCAL it is denied. -/
def Obligations.GoMovesToListen : Prop :=
  ∀ s : State, Powered s → s.port.assembler = [0x09#8] → 0 < freePlaces s →
    (s.station.state ≠ .localState → exec .go s = .next (push (.denied 0x09#8 .state) (taken s))) ∧
    (s.station.state = .localState →
      exec .go s = .next (push (.state .listen .go) { taken s with
        station.state := .listen
        station.lock := true
        station.attempts := 0
        station.lastCause := .go
        replica.roster := []
        watch.listen := some 0
        link.bus := .busy
        link.idleCycles := 0
        link.vetoRun := 0
        link.unheardRun := 0
        link.clashRun := 0 }))

/-- LEAVE withdraws the internal frames, queues DROP of itself and moves to LEAVING (R98); outside MEMBER, or while a
copy is loaded, it is denied. Here no internal frame is on the bus or unapplied, so that the DROP has its place. -/
def Obligations.LeaveStartsTheDeparture : Prop :=
  ∀ s : State, Powered s → s.port.assembler = [0x0A#8] → 0 < freePlaces s →
    (s.station.state ≠ .member ∨ isLoading s = true →
      exec .leave s = .next (push (.denied 0x0A#8 .state) (taken s))) ∧
    (s.station.state = .member → isLoading s = false → (∀ e ∈ s.tx.entries, e.binding = none → e.onBus = false) →
      (∀ e ∈ s.tx.entries, e.binding.isSome = true → e.frame.kind ≠ .drop) → (∀ e ∈ s.apply.rx, e.own = false) →
      exec .leave s = .next (push (.state .leaving .leave) { taken s with
        station.state := .leaving
        station.lastCause := .leave
        watch.roll := none
        tx.entries := s.tx.entries.filter (fun e => e.binding.isSome) ++
          [⟨.drop s.station.number, none, false, 0, false, false⟩] }))

/-- RESTART is taken in every state, room or no room: everything goes but the station number, the SETUP values, the
lock and the masks, and STATE(LOCAL, RESTART) is the one notice (R89). HD0 to HD7 keep their
byte (log entry 4), and a strobe cycle under way stays what it is (log entry 22). -/
def Obligations.RestartEmptiesTheStation : Prop :=
  ∀ s : State, Powered s → s.port.assembler = [0x0F#8] →
    exec .restart s = .next { State.reset with
      station := ⟨false, .localState, s.station.number, s.station.setup, s.station.lock, 0, .restart, 0⟩
      notices := ⟨[.state .localState .restart], 0, s.notices.resultMask, s.notices.reportMask⟩
      port := ⟨[], 0, none, s.port.dataOut, s.port.writeSpoiled, s.port.readSpoiled⟩
      pending := s.pending }

/-- STATUS is answered with the station's values and the tags in use, in every state. SURVEY is answered with every
roster entry, the silence counter of every other listed station, and the copy source, the lowest-numbered MEMBER; a
station that receives nothing reports an empty roster (R85, R165). -/
def Obligations.StatusAndSurveyReport : Prop :=
  (∀ s : State, Powered s → s.port.assembler = [0x01#8] → 0 < freePlaces s →
    ∃ r : StatusReply, exec .status s = .next (push (.status r) (taken s)) ∧
      r.state = s.station.state ∧ r.cause = s.station.lastCause ∧ r.number = s.station.number ∧
      r.lock = s.station.lock ∧ r.setup = s.station.setup ∧ r.attempts = s.station.attempts ∧
      r.disagree = s.station.disagree ∧ r.boundHeld = boundHeld s ∧ r.internalHeld = internalHeld s ∧
      r.vetoRun = s.link.vetoRun ∧ r.unheardRun = s.link.unheardRun ∧ r.clashRun = s.link.clashRun ∧
      (s.station.state = .member ∨ s.station.state = .leaving → r.occupancy = occupancy s) ∧
      (s.station.state ≠ .member → s.station.state ≠ .leaving → r.occupancy = 0) ∧
      ∀ t < 16, r.tagsInUse.testBit t = (tagAt s t).inUse) ∧
  (∀ s : State, Powered s → s.port.assembler = [0x02#8] → 0 < freePlaces s →
    ∃ r : RosterReply, exec .survey s = .next (push (.roster r) (taken s)) ∧ r.places.length = 32 ∧
      (s.station.state.receives = false → r.source = none ∧ ∀ d < 32, r.places[d]? = some (.absent, 0)) ∧
      (s.station.state.receives = true →
        (∀ d < 32, r.places[d]? = some (rosterAt s d,
          if d = s.station.number ∨ rosterAt s d = .absent then 0 else (silenceAt s d).getD 0)) ∧
        ∀ d, r.source = some d ↔ d < 32 ∧ rosterAt s d = .member ∧ ∀ b < d, rosterAt s b ≠ .member))

/-- QUERY is answered with the claim as it stands in MEMBER and LEAVING, FREE elsewhere, and a claim above 63 is
denied (R19, R161). -/
def Obligations.QueryReportsTheClaim : Prop :=
  ∀ (s : State) (c : Byte), Powered s → s.port.assembler = [0x03#8, c] → 0 < freePlaces s →
    (64 ≤ c.toNat → exec .query s = .next (push (.denied 0x03#8 .range) (taken s))) ∧
    (c.toNat < 64 → s.station.state = .member ∨ s.station.state = .leaving →
      exec .query s = .next (push (.record ⟨c.toNat, claimState (claimAt s c.toNat).holders, (claimAt s c.toNat).serial,
        (claimAt s c.toNat).holders.map (fun h => (h, ticksLeft s c.toNat h.station)),
        (claimAt s c.toNat).waiters⟩) (taken s))) ∧
    (c.toNat < 64 → s.station.state ≠ .member → s.station.state ≠ .leaving →
      exec .query s = .next (push (.record ⟨c.toNat, .free, 0, [], []⟩) (taken s)))

/-- MASK sets both masks from its byte, in every state, with no notice; a byte with other bits is denied. HATNn is then
asserted where an ALERT, or a RESULT or REPORT whose mask is clear, is held, the one being read included (R161, R184,
R185). -/
def Obligations.MaskSetsTheMasks : Prop :=
  ∀ (s : State) (m : Byte), Powered s → s.port.assembler = [0x04#8, m] → 0 < freePlaces s →
    (4 ≤ m.toNat → exec .mask s = .next (push (.denied 0x04#8 .range) (taken s))) ∧
    (m.toNat < 4 → exec .mask s =
      .next { taken s with notices.resultMask := m.getLsbD 0, notices.reportMask := m.getLsbD 1 }) ∧
    (m.toNat < 4 → ∀ t, exec .mask s = .next t →
      (attention t = true ↔ ∃ n, (n ∈ s.notices.entries ∨ ∃ k, s.port.reading = some ⟨n, k⟩) ∧
        (n.rank = 0 ∨ (n.rank = 1 ∧ m.getLsbD 0 = false) ∨ (n.rank = 2 ∧ m.getLsbD 1 = false))))

/-! ## Requests -/

/-- ACQUIRE takes the tag with 2 reservations and queues its ASK, bound to it; a lease of 0 takes the default (R168).
Where a tag in use names the claim, it ends REFUSED(DUPLICATE) at once, with no frame and no other tag changed. -/
def Obligations.AcquireTakesTheTag : Prop :=
  ∀ (s : State) (tg q lh ll : Byte), Powered s → s.port.assembler = [0x20#8, tg, q, lh, ll] →
    roomFor .acquire s = true → s.station.state = .member → tg.toNat < 16 → u16 lh ll ≤ 4095 →
    (tagAt s tg.toNat).inUse = false →
    let c := q.toNat % 64
    let mode := if q.getLsbD 7 then Mode.shared else Mode.sole
    let lease := if u16 lh ll = 0 then s.station.setup.defaultLease else u16 lh ll
    ((∀ u < 16, (tagAt s u).inUse = true → (tagAt s u).claim ≠ c) →
      exec .acquire s = .next (enqueue (.ask c mode (q.getLsbD 6) lease) (some tg.toNat)
        (setTag tg.toNat ⟨true, c, mode, lease, q.getLsbD 6, some .sending, false, false, false, 2⟩ (taken s)))) ∧
    ((∃ u < 16, (tagAt s u).inUse = true ∧ (tagAt s u).claim = c ∧ (tagAt s u).phase.isSome = true) →
      NoWarnPending s → (∀ e ∈ s.tx.entries, e.binding ≠ some tg.toNat) →
      (∀ n ∈ s.notices.entries, n.isWarnOf tg.toNat = false) →
      ∃ t, exec .acquire s = .next t ∧ t.tx = s.tx ∧ t.replica = s.replica ∧
        (∀ u < 16, tagAt t u = if u = tg.toNat then Tag.free else tagAt s u) ∧
        t.notices.entries = s.notices.entries ++ [.refused tg.toNat .duplicate])

/-- RELEASE queues a YIELD bound to a HELD tag, which moves to YIELDING; in any other phase it is denied (R169). -/
def Obligations.ReleaseQueuesYield : Prop :=
  ∀ (s : State) (tg : Byte), Powered s → s.port.assembler = [0x21#8, tg] → roomFor .release s = true →
    s.station.state = .member ∨ s.station.state = .leaving → tg.toNat < 16 → (tagAt s tg.toNat).inUse = true →
    ((tagAt s tg.toNat).phase = some .held →
      exec .release s = .next (enqueue (.yield (tagAt s tg.toNat).claim) (some tg.toNat)
        (setTag tg.toNat { tagAt s tg.toNat with phase := some .yielding } (taken s)))) ∧
    ((tagAt s tg.toNat).phase ≠ some .held →
      exec .release s = .next (push (.denied 0x21#8 .wrongPhase) (taken s)))

/-- EXTEND queues an EXTEND frame with the new lease bound to a HELD tag whose extension is not in flight, and sets
the flag; a lease of 0 takes the default; otherwise it is denied. Lease and warn latch wait for the application
(R170). -/
def Obligations.ExtendQueuesRenewal : Prop :=
  ∀ (s : State) (tg lh ll : Byte), Powered s → s.port.assembler = [0x22#8, tg, lh, ll] → roomFor .extend s = true →
    s.station.state = .member ∨ s.station.state = .leaving → tg.toNat < 16 → u16 lh ll ≤ 4095 →
    (tagAt s tg.toNat).inUse = true →
    let lease := if u16 lh ll = 0 then s.station.setup.defaultLease else u16 lh ll
    ((tagAt s tg.toNat).phase = some .held → (tagAt s tg.toNat).extendInFlight = false →
      exec .extend s = .next (enqueue (.extend (tagAt s tg.toNat).claim lease) (some tg.toNat)
        (setTag tg.toNat { tagAt s tg.toNat with extendInFlight := true } (taken s)))) ∧
    ((tagAt s tg.toNat).phase ≠ some .held ∨ (tagAt s tg.toNat).extendInFlight = true →
      exec .extend s = .next (push (.denied 0x22#8 .wrongPhase) (taken s)))

/-- CANCEL acts by the tag's phase and by where its ASK stands (R171). -/
def Obligations.CancelActsByPhase : Prop :=
  ∀ (s : State) (tg : Byte), Powered s → s.port.assembler = [0x23#8, tg] → roomFor .cancel s = true →
    s.station.state = .member ∨ s.station.state = .leaving → tg.toNat < 16 → (tagAt s tg.toNat).inUse = true →
    let g := tagAt s tg.toNat
    (g.phase = some .sending → g.cancelPending = false →
      (∀ e ∈ s.tx.entries, e.binding = some tg.toNat → e.frame.kind = .ask → e.onBus = true) →
      exec .cancel s = .next (setTag tg.toNat { g with cancelPending := true } (taken s))) ∧
    (g.phase = some .waiting →
      exec .cancel s = .next (enqueue (.cancel g.claim) (some tg.toNat)
        (setTag tg.toNat { g with phase := some .cancelling } (taken s)))) ∧
    (g.phase = some .cancelling ∨ g.phase = some .held ∨ g.phase = some .yielding ∨
        (g.phase = some .sending ∧ g.cancelPending = true) →
      exec .cancel s = .next (push (.denied 0x23#8 .wrongPhase) (taken s))) ∧
    (∀ (older younger : List TxEntry) (e : TxEntry), g.phase = some .sending → g.cancelPending = false →
      s.tx.entries = older ++ e :: younger → e.binding = some tg.toNat → e.frame.kind = .ask → e.onBus = false →
      (∀ x ∈ older ++ younger, x.binding ≠ some tg.toNat) → NoWarnPending s →
      (∀ n ∈ s.notices.entries, n.isWarnOf tg.toNat = false) →
      ∃ t, exec .cancel s = .next t ∧ t.tx.entries = older ++ younger ∧ tagAt t tg.toNat = Tag.free ∧
        (∀ u < 16, u ≠ tg.toNat → tagAt t u = tagAt s u) ∧ t.replica = s.replica ∧
        t.notices.entries = s.notices.entries ++ [.cancelled tg.toNat .host])

/-! ## Time -/

/-- A tick counts the roll, listen, copy-wait and rest timers up to their limits and the age of a partial command,
always; the lease watches and silence counters only outside a train pause, where a watch goes down by one and stays at
0, and a silence counter goes up to 4R (R68, R71, R95). Of the tags only a warn latch may change, and only WARNs are
posted. That a timer stops at its limit is log entry 24. -/
def Obligations.TickCounts : Prop :=
  ∀ s : State, Powered s → TablesLawful s →
    let up (limit : Nat) (n : Option Nat) : Option Nat := n.map (fun n => min limit (n + 1))
    let r := s.station.setup.r
    let u : State := { s with
      watch.tickCount := 0
      watch.roll := up r s.watch.roll
      watch.listen := up (3 * r) s.watch.listen
      watch.copyWait := up (8 * r) s.watch.copyWait
      watch.rest := up r s.watch.rest
      port.age := if s.port.assembler ≠ [] ∧ completeCommand s.port.assembler = none then min 255 (s.port.age + 1)
        else s.port.age }
    (s.watch.pause = true → exec .tick s = .next u) ∧
    (s.watch.pause = false → ∃ t, exec .tick s = .next t ∧
      (∀ c h, (watchAt t c h).map (fun w => (w.serial, w.value)) =
        (watchAt s c h).map (fun w => (w.serial, w.value - 1))) ∧
      (∀ d, silenceAt t d = up (4 * r) (silenceAt s d)) ∧
      (∀ n, ∃ latch, tagAt t n = { tagAt s n with warnLatch := latch }) ∧
      (∃ posted, t.notices.entries = s.notices.entries ++ posted ∧ ∀ m ∈ posted, ∃ n v, m = .warn n v) ∧
      t = { u with
        watch.watches := t.watch.watches
        watch.silence := t.watch.silence
        tags := t.tags
        notices.entries := t.notices.entries })

/-- The tick that lowers the watch of an own hold to its warn point, max(1, floor(L/4)), marks it warned; its WARN is
posted at once with that value, or stays pending with nothing dropped where no place is free; a watch already marked
sets no latch again (R74, R180). -/
def Obligations.WarnAtTheWarnPoint : Prop :=
  ∀ (s : State) (c n serial : Nat) (h : HoldSlot), Powered s → TablesLawful s → s.watch.pause = false → c < 64 →
    n < 16 → s.station.number < 32 → slotOf (claimAt s c) s.station.number = some h → (tagAt s n).inUse = true →
    (tagAt s n).claim = c → ((tagAt s n).phase = some .held ∨ (tagAt s n).phase = some .yielding) →
    (tagAt s n).warnLatch = false →
    (∀ m < 16, m ≠ n → (tagAt s m).inUse = true → (tagAt s m).claim ≠ c) →
    let v := max 1 (h.lease / 4)
    (watchAt s c s.station.number = some ⟨serial, v + 1, false⟩ → 16 ≤ freePlaces s →
      ∃ t, exec .tick s = .next t ∧ watchAt t c s.station.number = some ⟨serial, v, true⟩ ∧
        .warn n v ∈ t.notices.entries ∧ tagAt t n = tagAt s n) ∧
    (watchAt s c s.station.number = some ⟨serial, v + 1, false⟩ → freePlaces s = 0 →
      ∃ t, exec .tick s = .next t ∧ watchAt t c s.station.number = some ⟨serial, v, true⟩ ∧
        t.notices = s.notices ∧ tagAt t n = { tagAt s n with warnLatch := true }) ∧
    (∀ k, watchAt s c s.station.number = some ⟨serial, k + 1, true⟩ →
      ∃ t, exec .tick s = .next t ∧ watchAt t c s.station.number = some ⟨serial, k, true⟩ ∧ tagAt t n = tagAt s n)

/-- Pending WARNs are posted one per free place in tag-number order, each with the ticks left at its posting, and
their latches clear; those that find no free place stay pending, with nothing dropped (R180). -/
def Obligations.PendingWarnsArePosted : Prop :=
  ∀ s : State, Powered s →
    let posted := ((List.range 16).filter (fun n => (tagAt s n).warnLatch)).take (freePlaces s)
    ∃ t, exec .warnPost s = .next t ∧
      t.notices.entries = s.notices.entries ++
        posted.map (fun n => .warn n (ticksLeft s (tagAt s n).claim s.station.number)) ∧
      (∀ n, tagAt t n = if n ∈ posted then { tagAt s n with warnLatch := false } else tagAt s n) ∧
      (NoWarnPending s ∨ freePlaces s = 0 → t = s) ∧
      t = { s with tags := t.tags, notices.entries := t.notices.entries }

/-- The owed internal frames are queued while internal places are free: by kind code, DROPs in station order and LAPSEs
in claim and then holder-list order, so that a frame is queued only if every due frame that comes before it is present;
nothing else changes (R76, R94, R96, R124, R133). LEASE_WATCH_EXPIRY, ROLL_DUE and SILENCE_EXPIRY act so where a frame
of their kind is owed, OWED_FRAME_QUEUE always: that each of the four steps fills every free place is log entry 7, that
a step changes nothing where no such frame is owed is log entry 1. -/
def Obligations.OwedFramesAreQueued : Prop :=
  ∀ (s : State) (i : Instr) (p : TxFrame → Prop), Powered s →
    (i = .leaseWatchExpiry ∧ (∀ f, p f ↔ f.kind = .lapse) ∨ i = .rollDue ∧ (∀ f, p f ↔ f.kind = .roll) ∨
      i = .silenceExpiry ∧ (∀ f, p f ↔ f.kind = .drop) ∧ s.station.state = .member ∨
      i = .owedFrameQueue ∧ ∀ f, p f) →
    ((∀ f, Due s f → p f → keyPresent f s = true) → exec i s = .next s) ∧
    ∃ (queued : List TxFrame) (t : State), exec i s = .next t ∧
      t = { s with tx.entries := s.tx.entries ++ queued.map (fun f => newEntry f none) } ∧
      (∀ f ∈ queued, Due s f ∧ keyPresent f s = false) ∧
      queued.Pairwise (fun f g => f.kind.code ≤ g.kind.code ∧ f.sameKey g = false ∧
        (∀ a b, f = .drop a → g = .drop b → a < b) ∧
        ∀ c h n c' h' n', f = .lapse c h n → g = .lapse c' h' n' → c ≤ c') ∧
      (∀ f, Due s f → p f → keyPresent f t = true ∨ 3 ≤ internalHeld t) ∧
      (∀ f ∈ queued, ∀ g, Due s g → g.kind.code < f.kind.code → keyPresent g t = true) ∧
      (∀ a, .drop a ∈ queued → ∀ b < a, Due s (.drop b) → keyPresent (.drop b) t = true) ∧
      ∀ c h n, .lapse c h n ∈ queued → ∀ c' h' n', Due s (.lapse c' h' n') →
        (c' < c ∨ (c' = c ∧ ∃ older younger, (claimAt s c).holders.map (·.station) = older ++ h :: younger ∧
          h ∉ older ∧ h' ∈ older)) → keyPresent (.lapse c' h' n') t = true

/-- The listen timer at 3R: the first attempt begins, with an ENTER queued, in ENTERING. The rest timer at R: back to
LISTEN with an empty roster, the run counters and the listen timer at 0, the bus BUSY until it has been high for the
normal gap. Before, nothing happens (R90, R91, R102, R138). That the steps change nothing before is the model's
reading (log entry 1). -/
def Obligations.ListenAndRestTimersExpire : Prop :=
  (∀ s : State, Powered s → s.station.state = .listen →
    (s.watch.listen ≠ some (3 * s.station.setup.r) → exec .listenTimerExpiry s = .next s) ∧
    (s.watch.listen = some (3 * s.station.setup.r) → s.tx.entries = [] → (∀ e ∈ s.apply.rx, e.own = false) →
      0 < freePlaces s →
      exec .listenTimerExpiry s = .next (push (.state .entering .listened) { s with
        station.state := .entering
        station.attempts := 1
        station.lastCause := .listened
        tx.entries := [⟨.enter, none, false, 0, false, false⟩]
        watch.watches := []
        watch.roll := none
        watch.listen := none
        watch.copyWait := none }))) ∧
  (∀ s : State, Powered s → s.station.state = .sidelined →
    (s.watch.rest ≠ some s.station.setup.r → exec .restTimerExpiry s = .next s) ∧
    (s.watch.rest = some s.station.setup.r → 0 < freePlaces s →
      exec .restTimerExpiry s = .next (push (.state .listen .rested) { s with
        station.state := .listen
        station.lastCause := .rested
        replica.roster := []
        watch.rest := none
        watch.listen := some 0
        link.bus := .busy
        link.idleCycles := 0
        link.vetoRun := 0
        link.unheardRun := 0
        link.clashRun := 0 })))

/-- The copy-wait timer at 8R in AWAIT_COPY: silent entries but the station's own become ABSENT; with an attempt left
the station enters again with the count raised, without one it is halted with NO_COPY; while a copy is loaded the
expiry is held (R92, R93, R103). That the step changes nothing while it is held is the model's reading (log entry 1).
-/
def Obligations.CopyWaitEnds : Prop :=
  ∀ s : State, Powered s → s.station.state = .awaitCopy → s.watch.copyWait = some (8 * s.station.setup.r) →
    (isLoading s = true → exec .copyWaitExpiry s = .next s) ∧
    (isLoading s = false → s.station.attempts < 3 → internalHeld s < 3 → 0 < freePlaces s →
      ∃ t, exec .copyWaitExpiry s = .next t ∧
        t.station = { s.station with
          state := .entering, attempts := s.station.attempts + 1, lastCause := .copyWait } ∧
        t.notices.entries = s.notices.entries ++ [.state .entering .copyWait] ∧ keyPresent .enter t = true ∧
        t.watch.copyWait = none ∧ t.watch.roll = none ∧ t.tags = s.tags ∧ t.link = s.link ∧ t.apply = s.apply ∧
        t.replica.claims = s.replica.claims ∧
        ∀ d < 32,
          (d ≠ s.station.number ∧ silenceAt s d = some (4 * s.station.setup.r) →
            rosterAt t d = .absent ∧ silenceAt t d = none) ∧
          (d = s.station.number ∨ silenceAt s d ≠ some (4 * s.station.setup.r) →
            rosterAt t d = rosterAt s d ∧ silenceAt t d = silenceAt s d)) ∧
    (isLoading s = false → s.station.attempts = 3 → NoTags s → 0 < freePlaces s →
      ∃ t, exec .copyWaitExpiry s = .next t ∧ OffTheBus t ∧
        t.station = { s.station with state := .halted, lastCause := .noCopy, disagree := 0 } ∧
        t.watch.rest = none ∧ t.port = s.port ∧
        t.notices.entries = s.notices.entries ++ [.state .halted .noCopy])

/-! ## Opening a frame -/

/-- After its gap the station opens the first eligible entry: the lowest kind code, and the oldest of that kind. It
becomes ON_BUS, its frame is composed, and the fair-gap mark clears where it governs the kind. With a frame unapplied,
or before the gap is over, only the idle time counts. With the fair-gap mark set, a station whose first eligible entry
has kind 0x9 or higher opens nothing before 20 bit times of idle, and offers nothing in its place. A frame is composed
as Table 7-1 gives kind by kind (R50, R94, R109, R125, R127, R135, R138, R139). How the idle time is counted is the
model's choice (log entry 10). -/
def Obligations.FirstEligibleEntryOpensAfterItsGap : Prop :=
  (∀ (s : State) (elapsed : Nat) (older younger : List TxEntry) (e : TxEntry), s.tx.offered = none →
    (AtGap s → s.tx.entries = older ++ e :: younger → e.onBus = false → e ∉ younger →
      (∀ x ∈ s.tx.entries, ¬ Stale x s) →
      eligible s.station.number s.station.state e.frame = true →
      (∀ x ∈ older, x.onBus = false → eligible s.station.number s.station.state x.frame = true →
        e.frame.kind.code < x.frame.kind.code) →
      (∀ x ∈ younger, x.onBus = false → eligible s.station.number s.station.state x.frame = true →
        e.frame.kind.code ≤ x.frame.kind.code) →
      10 * cyclesPerBit s ≤ idleAfter elapsed s →
      (e.frame.kind.code < 9 ∨ s.tx.fairGap = false ∨ 20 * cyclesPerBit s ≤ idleAfter elapsed s) →
      exec (.frameOpen elapsed true) s = .next { s with
        tx.entries := older ++ { e with onBus := true } :: younger
        tx.fairGap := if 9 ≤ e.frame.kind.code then false else s.tx.fairGap
        train.composer := if e.frame = .trainHead then some ⟨(headFields s).k, 0, none⟩ else s.train.composer
        link.sending := some (compose e.frame s)
        link.bus := .inFrame
        link.chain := false
        link.idleCycles := 0 }) ∧
    (Powered s → s.train.run ≠ .ended → s.link.bus = .idle →
      s.apply.rx ≠ [] ∨ idleAfter elapsed s < 10 * cyclesPerBit s → ∀ pull,
      exec (.frameOpen elapsed pull) s = .next { s with link.idleCycles := idleAfter elapsed s })) ∧
  (∀ (s : State) (elapsed : Nat) (pull : Bool), AtGap s → s.tx.offered = none → s.tx.fairGap = true →
    (∀ x ∈ s.tx.entries, ¬ Stale x s) →
    (∀ x ∈ s.tx.entries, eligible s.station.number s.station.state x.frame = true → 9 ≤ x.frame.kind.code) →
    idleAfter elapsed s < 20 * cyclesPerBit s →
    exec (.frameOpen elapsed pull) s = .next { s with link.idleCycles := idleAfter elapsed s }) ∧
  ∀ (f : TxFrame) (s : State), Composed f s (compose f s)

/-- Revalidation removes every stale READY entry and keeps every other one; the removal of a stale ASK ends its tag
REFUSED(NOT_MEMBER), that of a stale CANCEL gives TOO_LATE where its tag is HELD, and that of a stale EXTEND clears
the extend-in-flight flag; no retry is counted and no FAULT posted (R127, R128). The offer without an opening is the
model's choice (log entry 18). -/
def Obligations.StaleEntriesAreRemoved : Prop :=
  ∀ (s : State) (elapsed : Nat), AtGap s → 10 * cyclesPerBit s ≤ idleAfter elapsed s →
    ((∃ e ∈ s.tx.entries, e.onBus = false) →
      (∀ e ∈ s.tx.entries, e.onBus = false → Stale e s → e.binding = none ∨ e.frame.kind = .yield) →
      ∃ (left : List TxEntry) (t : State), exec (.frameOpen elapsed false) s = .next t ∧ left.Sublist s.tx.entries ∧
        (∀ e ∈ s.tx.entries, e ∈ left ↔ e.onBus = true ∨ ¬ Stale e s) ∧
        t = { s with
          tx.entries := left
          tx.offered := t.tx.offered
          link.idleCycles := idleAfter elapsed s }) ∧
    ∀ (e : TxEntry) (n : Nat), s.tx.entries = [e] → e.onBus = false → e.binding = some n → Stale e s →
      (tagAt s n).inUse = true → ∃ t, exec (.frameOpen elapsed false) s = .next t ∧ t.tx.entries = [] ∧
        t.replica = s.replica ∧
        (e.frame.kind = .ask → n < 16 → NoWarnPending s → (∀ m ∈ s.notices.entries, m.isWarnOf n = false) →
          t.notices.entries = s.notices.entries ++ [.refused n .notMember] ∧ tagAt t n = Tag.free) ∧
        (e.frame.kind = .cancel → (tagAt s n).phase = some .held → 0 < freePlaces s →
          t.notices.entries = s.notices.entries ++ [.tooLate n] ∧ tagAt t n = tagAt s n) ∧
        (e.frame.kind = .extend →
          t.notices = s.notices ∧ tagAt t n = { tagAt s n with extendInFlight := false })

/-! ## Receiving a frame -/

/-- A frame of another station that is no train frame and gives no reason for a veto is accepted, as its bits carry it
(R141): it enters the receive queue, the heard slot is driven, veto run and fair-gap mark clear, and the frame's end
leaves the bus as R145 gives (R39, R135, R144, R148, R152). It ends the pending train (R111). That an open run is marked
as ended by a CLOSE is the model's record (log entry 13), and so is the drive of the slots (log entry 28). A station
whose own train has failed on this run is left to IncompleteTrainReturns. -/
def Obligations.FrameIsAccepted : Prop :=
  ∀ (s : State) (sampled : List Bool) (f : BusFrame) (k : FrameKind), TakesFrames s → readFrame sampled = some f →
    FrameKind.ofCode f.kind.toNat = some k → k.isTrain = false → k.lengthOk f.length.toNat = true →
    f.check = BusFrame.computedCheck f → s.apply.rx.length < 4 → f.sender.toNat ≠ s.station.number →
    s.link.bus ≠ .inRelinked →
    let u : State := { s with
      apply.rx := s.apply.rx ++ [⟨k, f.sender.toNat, f.payload, false, none, false, false⟩]
      tx.offered := none
      tx.fairGap := false
      link.train := none
      link.chain := false
      link.vetoRun := 0
      link.droveVeto := false
      link.droveHeard := true }
    (s.train.failed = false → exec (.frameReceive sampled false .close) s = .next { u with
      link.bus := .idle
      link.idleCycles := 0
      watch.pause := false
      train.run := if s.train.run = .running then .ended else s.train.run }) ∧
    exec (.frameReceive sampled false .noEnd) s = .next { u with link.bus := .busy } ∧
    exec (.frameReceive sampled false .relink) s = .next { u with link.bus := .inRelinked }

/-- A TRAIN-HEAD that meets Table 6-2, from the copy source or naming this station, is accepted by a station with
nothing unapplied: it begins the pending train, sets the train pause and is marked where this station loads the train:
in AWAIT_COPY or MEMBER, named in the joining mask. A TRAIN-CLAIM and a TRAIN-TAIL that continue the train and fail no
test are accepted with the continuation mark: the claim is counted, and the running occupancy and digest go on from it;
the tail ends the pending train and its run (R37, R68, R111 to R116, R147, R148). The link controller's own reading of
the record is the model's (log entries 12 and 27). -/
def Obligations.TrainFramesAreAccepted : Prop :=
  ∀ (s : State) (sampled : List Bool) (f : BusFrame), TakesFrames s → readFrame sampled = some f →
    f.check = BusFrame.computedCheck f → f.sender.toNat ≠ s.station.number →
    (∀ h : HeadFields, f.kind = 6#4 → parseHead f.payload = some h → f.length = 10#7 → s.apply.rx = [] →
      s.link.bus ≠ .inRelinked → h.k ≤ 64 → h.occupancy ≤ 128 → h.members.getLsbD f.sender.toNat = true →
      h.members &&& h.joining = 0#32 →
      (h.joining.getLsbD s.station.number = true ∨ copySource s = some f.sender.toNat ∨
        (s.station.state ≠ .member ∧ s.station.state ≠ .leaving)) →
      let loads := h.joining.getLsbD s.station.number && (s.station.state == .awaitCopy || s.station.state == .member)
      exec (.frameReceive sampled false .relink) s = .next { s with
        apply.rx := [⟨.trainHead, f.sender.toNat, f.payload, false, none, false, loads⟩]
        tx.offered := none
        tx.fairGap := false
        watch.pause := true
        train.run := .running
        link.bus := .inRelinked
        link.train := some ⟨f.sender.toNat, h.members, h.joining, h.k, h.occupancy, 0, none, loads, 0,
          crc (maskBytes h.members)⟩
        link.chain := true
        link.vetoRun := 0
        link.droveVeto := false
        link.droveHeard := true }) ∧
    ∀ r : LinkTrain, s.link.bus = .inRelinked → s.link.chain = true → s.link.train = some r →
      f.sender.toNat = r.sender → s.apply.rx.length < 4 →
      let u (k : FrameKind) : State := { s with
        apply.rx := s.apply.rx ++ [⟨k, f.sender.toNat, f.payload, false, none, true, false⟩]
        tx.offered := none
        tx.fairGap := false
        link.vetoRun := 0
        link.droveVeto := false
        link.droveHeard := true }
      (∀ g : ClaimFields, f.kind = 7#4 → parseClaim f.payload = some g → f.length.toNat ≤ 111 → r.count < r.k →
        g.claim < 64 → (∀ l, r.lastClaim = some l → l < g.claim) → g.holders ≠ [] → g.holders.length ≤ 4 →
        (r.loads = true → ¬ ClaimContentFails s.station.number r g) →
        let between := match r.lastClaim with
          | some l => g.claim - (l + 1)
          | none => g.claim
        exec (.frameReceive sampled false .relink) s = .next { u .trainClaim with
          link.train := some { r with
            count := r.count + 1
            lastClaim := some g.claim
            runOccupancy := r.runOccupancy + g.waiters.length
            runDigest := crcFrom r.runDigest (List.replicate (3 * between) 0#8 ++
              canonicalClaim ⟨g.serial, g.holders.map (·.1), g.waiters⟩) } }) ∧
      ∀ d, f.kind = 8#4 → parseTail f.payload = some d → r.k ≤ r.count →
        (r.loads = true → ¬ TailContentFails r d) → s.train.failed = false →
        exec (.frameReceive sampled false .close) s = .next { u .trainTail with
          watch.pause := false
          train.run := .none
          link.bus := .idle
          link.idleCycles := 0
          link.train := none
          link.chain := false }

/-- A frame that this station vetoes for a counting reason of Table 8-1, the tests of Table 6-2 and a loader's tests of
content among them, is discarded and raises the veto run by one; at 8 the station is sidelined. A veto of another
receiver, and the veto of a TRAIN-HEAD from a station that is not the copy source and does not name this station, leave
the run as it was, as own tries do, clashed ones included, and stalled frames; an accepted frame sets it to 0 (R37,
R112, R113, R115, R116, R146, R148, R152). The record of the slots' drive is the model's (log entry 28). -/
def Obligations.VetoRunCountsVetoes : Prop :=
  (∀ (s : State) (sampled : List Bool) (f : BusFrame) (otherVeto : Bool) (e : FrameEnd), TakesFrames s →
    readFrame sampled = some f →
    (countingVeto f s = true ↔ VetoReason f s) ∧ (nonSourceHead f s = true ↔ NonSourceHead f s) ∧
    (VetoReason f s → s.link.vetoRun < 7 →
      exec (.frameReceive sampled otherVeto e) s = .next (endFrame e { s with
        tx.offered := none
        link.chain := false
        link.vetoRun := s.link.vetoRun + 1
        link.droveVeto := true
        link.droveHeard := false })) ∧
    (VetoReason f s → s.link.vetoRun = 7 → ∃ t, exec (.frameReceive sampled otherVeto e) s = .next t ∧
      t.station.state = .sidelined ∧ t.station.lastCause = .vetoRun ∧ OffTheBus t ∧ t.watch.rest = some 0) ∧
    (¬ VetoReason f s → ¬ NonSourceHead f s → otherVeto = true →
      exec (.frameReceive sampled otherVeto e) s = .next (endFrame e { s with
        tx.offered := none
        link.chain := false
        link.droveVeto := false
        link.droveHeard := true })) ∧
    (¬ VetoReason f s → NonSourceHead f s →
      exec (.frameReceive sampled otherVeto e) s = .next (endFrame e { s with
        tx.offered := none
        link.chain := false
        link.droveVeto := true
        link.droveHeard := false })) ∧
    (¬ VetoReason f s → ¬ NonSourceHead f s → otherVeto = false →
      ∃ t, exec (.frameReceive sampled otherVeto e) s = .next t ∧ t.link.vetoRun = 0)) ∧
  ∀ s : State, Powered s →
    (∀ sampled ending, ∃ t, exec (.tryOutcome ⟨sampled, ending⟩) s = .next t ∧
      (t.station.state.receives = true → t.link.vetoRun = s.link.vetoRun)) ∧
    ∀ sampled linesHigh, s.link.sending = none →
      ∃ t, exec (.stall ⟨sampled, linesHigh⟩) s = .next t ∧
        (t.station.state.receives = true → t.link.vetoRun = s.link.vetoRun)

/-! ## The end of an own try -/

/-- An own frame that is no train frame is accepted on its veto slot high with its heard slot low, or with no other
station listed: its entry leaves and the frame enters the receive queue with its binding; a ROLL still queued is
superseded, the roll timer restarts, the fair-gap mark is set where the fair gap governs the kind, and the bus is IDLE
after its CLOSE, or BUSY where a line held low stalls the end phase (R43, R94, R129, R135, R138, R144, R145, R149). The
mark of an ended run is the model's record (log entry 13), the roll timer's restart at the acceptance its reading (log
entry 14). -/
def Obligations.AcceptedFrameIsQueuedForApplication : Prop :=
  ∀ (s : State) (o : OwnFrame) (e : TxEntry) (older younger : List TxEntry) (heardLow : Bool), Powered s →
    s.link.sending = some o → o.kind.isTrain = false → s.tx.entries = older ++ e :: younger → e.onBus = true →
    (∀ x ∈ older ++ younger, x.onBus = false) → e.dead = false →
    (heardLow = true ∨ ∀ d < 32, d ≠ s.station.number → rosterAt s d = .absent) →
    let u : State := { s with
      apply.rx := s.apply.rx ++ [⟨o.kind, s.station.number, o.payload, true, e.binding, false, false⟩]
      tx.entries := (older ++ younger).map
        (fun x => if x.frame.kind = .roll then { x with superseded := true } else x)
      tx.fairGap := s.tx.fairGap || decide (9 ≤ o.kind.code)
      watch.roll := s.watch.roll.map (fun _ => 0)
      link.sending := none
      link.train := none
      link.chain := false
      link.unheardRun := 0
      link.clashRun := 0 }
    exec (.tryOutcome ⟨sentBits s ++ [true, !heardLow], .frameEnd .close⟩) s = .next { u with
      watch.pause := false
      train.run := if s.train.run = .running then .ended else s.train.run
      link.bus := .idle
      link.idleCycles := 0 } ∧
    exec (.tryOutcome ⟨sentBits s ++ [true, !heardLow], .stalled false⟩) s = .next { u with link.bus := .busy }

/-- A try that is not accepted, of a frame that is no TRAIN-HEAD, below the retry limit and with no cancel pending: the
entry is READY again, uncounted after lost arbitration (1 sent and 0 sampled in the 9 bits of the arbitration field),
else with one retry counted: vetoed, unheard, clashed (1 sent and 0 sampled after those bits), stalled (R129, R142,
R143, R149, R150). A cancel-pending ASK is removed instead, and its tag ends CANCELLED(HOST), whatever the count (R130).
The mark of an ended run is the model's record (log entry 13); that a clashed try that stalls ends stalled is log entry
34. -/
def Obligations.UnacceptedFrameReturnsToReady : Prop :=
  ∀ (s : State) (o : OwnFrame) (e : TxEntry) (older younger : List TxEntry), Powered s → s.link.sending = some o →
    s.tx.entries = older ++ e :: younger → e.onBus = true → (∀ x ∈ older ++ younger, x.onBus = false) →
    e.dead = false → o.kind.isTrain = false → e.frame ≠ .trainHead → s.station.state = .member →
    let own := sentBits s
    let back (n : Nat) : List TxEntry := older ++ { e with onBus := false, retries := n } :: younger
    let closed : State := { s with
      tx.entries := back (e.retries + 1)
      watch.pause := false
      train.run := if s.train.run = .running then .ended else s.train.run
      link.sending := none
      link.bus := .idle
      link.idleCycles := 0
      link.chain := false }
    (cancelPendingOf e s = none → ∀ sampled i ending, BeatenAt own sampled i → i < 9 →
      exec (.tryOutcome ⟨sampled, .frameEnd ending⟩) s = .next { s with
        tx.entries := back e.retries
        link.sending := none
        link.chain := false }) ∧
    (cancelPendingOf e s = none → e.retries + 1 < s.station.setup.retryLimit →
      (∀ heardLow, exec (.tryOutcome ⟨own ++ [false, !heardLow], .frameEnd .close⟩) s =
        .next { closed with link.unheardRun := 0, link.clashRun := 0 }) ∧
      (listsAnother s = true → s.link.unheardRun < 3 →
        exec (.tryOutcome ⟨own ++ [true, true], .frameEnd .close⟩) s =
          .next { closed with link.unheardRun := s.link.unheardRun + 1, link.clashRun := 0 }) ∧
      (∀ sampled i, BeatenAt own sampled i → 9 ≤ i → s.link.clashRun < 3 →
        exec (.tryOutcome ⟨sampled, .frameEnd .close⟩) s =
          .next { closed with
            link.droveVeto := true
            link.droveHeard := false
            link.clashRun := s.link.clashRun + 1 }) ∧
      ∀ sampled, CutShort own sampled →
        exec (.tryOutcome ⟨sampled, .stalled true⟩) s = .next closed ∧
        exec (.tryOutcome ⟨sampled, .stalled false⟩) s = .next { s with
          tx.entries := back (e.retries + 1)
          link.sending := none
          link.bus := .busy
          link.chain := false }) ∧
    (∀ n, cancelPendingOf e s = some n → n < 16 → NoWarnPending s →
      (∀ x ∈ older ++ younger, x.binding ≠ some n) → (∀ m ∈ s.notices.entries, m.isWarnOf n = false) →
      ∀ sampled ending,
        (∃ i < 9, BeatenAt own sampled i) ∨ (CutShort own sampled ∧ ∃ linesHigh, ending = .stalled linesHigh) ∨
          (∃ heard, sampled = own ++ [false, heard] ∧ ending = .frameEnd .close) →
        ∃ t, exec (.tryOutcome ⟨sampled, ending⟩) s = .next t ∧ t.tx.entries = older ++ younger ∧ tagAt t n = Tag.free ∧
          t.replica = s.replica ∧ t.notices.entries = s.notices.entries ++ [.cancelled n .host])

/-- At the retry limit a bound entry leaves with FAULT(SEND_FAILED, kind, claim) before its tag's notice, and the tag
moves by the frame's kind: ASK ends REFUSED(LINK), YIELD returns to HELD, CANCEL to WAITING or gives TOO_LATE, EXTEND's
flag clears (R131, R171). An internal entry leaves with FAULT(SEND_FAILED, kind, detail); an ENTER in ENTERING, and the
DROP of itself in LEAVING, are queued again at once with no retry (R132). -/
def Obligations.RetryLimitRemovesTheFrame : Prop :=
  (∀ (s : State) (o : OwnFrame) (e : TxEntry) (older younger : List TxEntry) (n : Nat), Powered s →
    s.link.sending = some o → o.kind.isTrain = false → s.tx.entries = older ++ e :: younger → e.onBus = true →
    (∀ x ∈ older ++ younger, x.onBus = false) → e.dead = false → e.frame ≠ .trainHead → e.binding = some n → n < 16 →
    (tagAt s n).inUse = true → s.station.setup.retryLimit ≤ e.retries + 1 → 0 < freePlaces s →
    ∃ t, exec (.tryOutcome ⟨sentBits s ++ [false, false], .frameEnd .close⟩) s = .next t ∧
      t.replica = s.replica ∧ t.apply = s.apply ∧
      (∀ c mode noWait lease, e.frame = .ask c mode noWait lease → (tagAt s n).cancelPending = false →
        NoWarnPending s → (∀ x ∈ older ++ younger, x.binding ≠ some n) →
        (∀ m ∈ s.notices.entries, m.isWarnOf n = false) →
        t.tx.entries = older ++ younger ∧ tagAt t n = Tag.free ∧
          t.notices.entries = s.notices.entries ++ [.sendFailed .ask c, .refused n .link]) ∧
      (∀ c, e.frame = .yield c → (tagAt s n).phase = some .yielding →
        t.tx.entries = older ++ younger ∧ tagAt t n = { tagAt s n with phase := some .held } ∧
          t.notices.entries = s.notices.entries ++ [.sendFailed .yield c]) ∧
      (∀ c, e.frame = .cancel c → (tagAt s n).phase = some .cancelling →
        t.tx.entries = older ++ younger ∧ tagAt t n = { tagAt s n with phase := some .waiting } ∧
          t.notices.entries = s.notices.entries ++ [.sendFailed .cancel c]) ∧
      (∀ c, e.frame = .cancel c → (tagAt s n).phase = some .held → 1 < freePlaces s →
        t.tx.entries = older ++ younger ∧ tagAt t n = tagAt s n ∧
          t.notices.entries = s.notices.entries ++ [.sendFailed .cancel c, .tooLate n]) ∧
      (∀ c lease, e.frame = .extend c lease →
        t.tx.entries = older ++ younger ∧ tagAt t n = { tagAt s n with extendInFlight := false } ∧
          t.notices.entries = s.notices.entries ++ [.sendFailed .extend c])) ∧
  (∀ (s : State) (o : OwnFrame) (e : TxEntry) (older younger : List TxEntry), Powered s →
    s.link.sending = some o → o.kind.isTrain = false → s.tx.entries = older ++ e :: younger → e.onBus = true →
    (∀ x ∈ older ++ younger, x.onBus = false) → e.dead = false → e.frame ≠ .trainHead → e.binding = none →
    s.station.setup.retryLimit ≤ e.retries + 1 → 0 < freePlaces s →
    ∃ t, exec (.tryOutcome ⟨sentBits s ++ [false, false], .frameEnd .close⟩) s = .next t ∧
      t.replica = s.replica ∧ t.apply = s.apply ∧
      t.tags = s.tags ∧
      (∀ c h serial, e.frame = .lapse c h serial → s.station.state = .member →
        t.tx.entries = older ++ younger ∧ t.notices.entries = s.notices.entries ++ [.sendFailed .lapse c]) ∧
      (∀ d, e.frame = .drop d → s.station.state = .member →
        t.tx.entries = older ++ younger ∧ t.notices.entries = s.notices.entries ++ [.sendFailed .drop d]) ∧
      (∀ joining, e.frame = .roll joining → s.station.state = .member →
        t.tx.entries = older ++ younger ∧ t.notices.entries = s.notices.entries ++ [.sendFailed .roll 0]) ∧
      (e.frame = .enter → s.station.state = .entering → s.apply.rx = [] → internalHeld s ≤ 3 →
        (∀ x ∈ older ++ younger, x.frame ≠ .enter) →
        t.tx.entries = older ++ younger ++ [⟨.enter, none, false, 0, false, false⟩] ∧
          t.notices.entries = s.notices.entries ++ [.sendFailed .enter 0]) ∧
      (e.frame = .drop s.station.number → s.station.state = .leaving → s.apply.rx = [] → internalHeld s ≤ 3 →
        (∀ x ∈ older ++ younger, x.frame.kind ≠ .drop) →
        t.tx.entries = older ++ younger ++ [⟨.drop s.station.number, none, false, 0, false, false⟩] ∧
          t.notices.entries = s.notices.entries ++ [.sendFailed .drop s.station.number]))

/-- The clash run: up by one at a clashed try, 0 at a try that reaches its slots, and at a TRAIN-TAIL that its source
accepts on its veto slot and that then stalls; unchanged by lost arbitration and other stalls (one that follows a veto
slot sampled low, or an own frame not accepted, is log entry 33); at 4 the station is halted, in the states that send
(R103, R143, R149, R154). A TRAIN-HEAD at its retry limit is left out: SEND_JAM sidelines the station first (R120). That
order is the model's choice (log entry 11); that a clashed try that stalls ends stalled is log entry 34. -/
def Obligations.ClashRunHalts : Prop :=
  ∀ (s : State) (o : OwnFrame) (e : TxEntry), Powered s → s.link.sending = some o → onBusEntry s = some e →
    (e.frame ≠ .trainHead ∨ e.retries + 1 < s.station.setup.retryLimit) →
    let own := sentBits s
    (∀ sampled i ending, BeatenAt own sampled i → 9 ≤ i → s.link.clashRun < 3 →
      ∃ t, exec (.tryOutcome ⟨sampled, .frameEnd ending⟩) s = .next t ∧ t.link.clashRun = s.link.clashRun + 1) ∧
    (∀ vetoHigh heardHigh ending, ∃ t, exec (.tryOutcome ⟨own ++ [vetoHigh, heardHigh], ending⟩) s = .next t ∧
      t.link.clashRun = 0) ∧
    (∀ sampled i ending, BeatenAt own sampled i → i < 9 →
      ∃ t, exec (.tryOutcome ⟨sampled, ending⟩) s = .next t ∧ t.link.clashRun = s.link.clashRun) ∧
    (∀ sampled linesHigh, CutShort own sampled → (o.kind = .trainTail → sampled.drop own.length ≠ [true]) →
      ∃ t, exec (.tryOutcome ⟨sampled, .stalled linesHigh⟩) s = .next t ∧ t.link.clashRun = s.link.clashRun) ∧
    (∀ linesHigh, o.kind = .trainTail →
      ∃ t, exec (.tryOutcome ⟨own ++ [true], .stalled linesHigh⟩) s = .next t ∧ t.link.clashRun = 0) ∧
    (∀ sampled i ending, BeatenAt own sampled i → 9 ≤ i → s.link.clashRun = 3 → s.station.state.sends = true →
      ∃ t, exec (.tryOutcome ⟨sampled, .frameEnd ending⟩) s = .next t ∧ OffTheBus t ∧ t.watch.rest = none ∧
        t.station = { s.station with state := .halted, lastCause := .clashRun, disagree := 0 })

/-- The unheard run: up by one at an own frame vetoed and heard by nobody while another station is listed, the
accepted TRAIN-TAIL among them; 0 where either slot was low or no other station is listed, also at a TRAIN-TAIL that its
source accepts on its veto slot and that then stalls; unchanged by the other outcomes (a stall that follows a veto slot
sampled low is log entry 33, one that follows a clash log entry 34); at 4 the station is sidelined, in the states that
send (R101, R143, R149, R153). A TRAIN-HEAD at its retry limit is left out (R120). That order is the model's choice (log
entry 11). -/
def Obligations.UnheardRunSidelines : Prop :=
  ∀ (s : State) (o : OwnFrame) (e : TxEntry), Powered s → s.link.sending = some o → onBusEntry s = some e →
    (e.frame ≠ .trainHead ∨ e.retries + 1 < s.station.setup.retryLimit) →
    let own := sentBits s
    (listsAnother s = true → s.link.unheardRun < 3 →
      ∃ t, exec (.tryOutcome ⟨own ++ [true, true], .frameEnd .close⟩) s = .next t ∧
        t.link.unheardRun = s.link.unheardRun + 1) ∧
    (∀ vetoLow heardLow, vetoLow = true ∨ heardLow = true ∨ listsAnother s = false →
      ∃ t, exec (.tryOutcome ⟨own ++ [!vetoLow, !heardLow], .frameEnd .close⟩) s = .next t ∧ t.link.unheardRun = 0) ∧
    (∀ sampled i ending, BeatenAt own sampled i → i < 9 →
      ∃ t, exec (.tryOutcome ⟨sampled, ending⟩) s = .next t ∧ t.link.unheardRun = s.link.unheardRun) ∧
    (∀ sampled linesHigh, CutShort own sampled → (o.kind = .trainTail → sampled.drop own.length ≠ [true]) →
      ∃ t, exec (.tryOutcome ⟨sampled, .stalled linesHigh⟩) s = .next t ∧ t.link.unheardRun = s.link.unheardRun) ∧
    (∀ linesHigh, o.kind = .trainTail → ∃ t, exec (.tryOutcome ⟨own ++ [true], .stalled linesHigh⟩) s = .next t ∧
      t.link.unheardRun = if listsAnother s then s.link.unheardRun else 0) ∧
    (∀ sampled i ending, BeatenAt own sampled i → 9 ≤ i → s.link.clashRun < 3 →
      ∃ t, exec (.tryOutcome ⟨sampled, .frameEnd ending⟩) s = .next t ∧ t.link.unheardRun = s.link.unheardRun) ∧
    (listsAnother s = true → s.link.unheardRun = 3 → s.station.state.sends = true →
      ∃ t, exec (.tryOutcome ⟨own ++ [true, true], .frameEnd .close⟩) s = .next t ∧ OffTheBus t ∧
        t.watch.rest = some 0 ∧
        t.station = { s.station with state := .sidelined, lastCause := .unheardRun, attempts := 0, disagree := 0 })

/-! ## Trains at their source -/

/-- An accepted TRAIN-HEAD or TRAIN-CLAIM is followed by RELINK while a receive-queue entry is free: by the
TRAIN-CLAIM of the next claim with holders, in claim order, carrying the claim as it stands with the ticks left on
this station's watches, and after k of them by the TRAIN-TAIL with the digest; the TRAIN-HEAD's entry stays ON_BUS. An
accepted TRAIN-TAIL CLOSEs, and its entry waits for the application; it is accepted on its veto slot high whatever the
heard slot shows, also where the frame stalls after it (R108, R109, R145, R149, R150). The roll timer's restart at the
acceptance is the model's reading (log entry 14). -/
def Obligations.TrainSourceRelinks : Prop :=
  ∀ (s : State) (o : OwnFrame) (e : TxEntry) (c : Composer), Powered s → s.link.sending = some o →
    onBusEntry s = some e → e.frame = .trainHead → s.train.composer = some c → s.train.failed = false →
    let own := sentBits s
    (∀ heardLow ending, heardLow = true ∨ (∀ d < 32, d ≠ s.station.number → rosterAt s d = .absent) →
      ending = .close ∨ ending = .relink → o.kind = .trainHead ∨ o.kind = .trainClaim → s.apply.rx.length < 3 →
      ∃ t, exec (.tryOutcome ⟨own ++ [true, !heardLow], .frameEnd ending⟩) s = .next t ∧ t.link.bus = .inRelinked ∧
        t.replica = s.replica ∧ t.watch.pause = (o.kind == .trainHead || s.watch.pause) ∧
        t.watch.roll = s.watch.roll.map (fun _ => 0) ∧ onBusEntry t = some e ∧ t.train.failed = false ∧
        (∃ r, t.apply.rx = s.apply.rx ++ [r] ∧ r.kind = o.kind ∧ r.sender = s.station.number ∧ r.payload = o.payload ∧
          r.own = true ∧ r.binding = none) ∧
        let n := if o.kind = .trainClaim then c.accepted + 1 else c.accepted
        (n = c.k → t.link.sending = some ⟨.trainTail, digestBytes (digest s.replica)⟩ ∧
          t.train.composer = some ⟨c.k, n, c.lastClaim⟩) ∧
        ∀ b < 64, n ≠ c.k → (claimAt s b).holders ≠ [] → (∀ l ∈ c.lastClaim, l < b) →
          (∀ a < b, (∀ l ∈ c.lastClaim, l < a) → (claimAt s a).holders = []) →
          t.train.composer = some ⟨c.k, n, some b⟩ ∧
          t.link.sending = some ⟨.trainClaim, claimBytes ⟨b, (claimAt s b).serial,
            (claimAt s b).holders.map (fun h => (h, ticksLeft s b h.station)), (claimAt s b).waiters⟩⟩) ∧
    (o.kind = .trainTail →
      let accepted (t : State) := t.link.sending = none ∧ t.train.composer = none ∧ t.train.failed = false ∧
        t.replica = s.replica ∧ onBusEntry t = some e ∧
        ∃ r, t.apply.rx = s.apply.rx ++ [r] ∧ r.kind = .trainTail ∧ r.payload = o.payload ∧ r.own = true
      (∀ heardHigh, heardHigh = false ∨ s.link.unheardRun < 3 →
        ∃ t, exec (.tryOutcome ⟨own ++ [true, heardHigh], .frameEnd .close⟩) s = .next t ∧ accepted t ∧
          t.link.bus = .idle ∧ t.watch.pause = false) ∧
      ∀ linesHigh, (∃ t, exec (.tryOutcome ⟨own ++ [true], .stalled linesHigh⟩) s = .next t ∧ accepted t ∧
          t.link.bus = if linesHigh then .idle else .busy) ∧
        (s.station.state.receives = true → s.link.bus = .inFrame ∨ s.link.bus = .inRelinked →
          ∃ t, exec (.stall ⟨own ++ [true], linesHigh⟩) s = .next t ∧ accepted t ∧
            t.link.bus = if linesHigh then .idle else .busy))

/-- A train that is not accepted to its end counts one retry for the whole train and stands READY; at the retry limit
the station is sidelined with SEND_JAM; in LEAVING the TRAIN-HEAD is withdrawn. This happens when the bus is IDLE: at
the CLOSE after a frame vetoed or clashed, at a stall with both lines high, where no receive-queue entry is free at a
RELINK; after a stall with a line low, or a fall of CBD, the TRAIN-HEAD stays ON_BUS until the bus is IDLE by whichever
step. A TRAIN-HEAD that loses arbitration returns at once, uncounted (R108, R120, R129, R138, R142). The field that
marks the failed train is the model's record (log entry 13). -/
def Obligations.IncompleteTrainReturns : Prop :=
  ∀ (s : State) (e : TxEntry) (older younger : List TxEntry), Powered s → s.tx.entries = older ++ e :: younger →
    e.onBus = true → (∀ x ∈ older ++ younger, x.onBus = false) → e.frame = .trainHead → e.binding = none →
    let own := sentBits s
    let back (n : Nat) := older ++ { e with onBus := false, retries := n } :: younger
    let returned (t : State) :=
      (s.station.state = .member → e.retries + 1 < s.station.setup.retryLimit →
        t.replica = s.replica ∧ t.link.sending = none ∧ t.link.bus = .idle ∧ t.train.composer = none ∧
          t.train.failed = false ∧ t.watch.pause = false ∧ t.station = s.station ∧
          t.tx.entries = back (e.retries + 1)) ∧
      (s.station.state = .member → s.station.setup.retryLimit ≤ e.retries + 1 →
        OffTheBus t ∧ t.watch.rest = some 0 ∧
          t.station = { s.station with state := .sidelined, lastCause := .sendJam, attempts := 0, disagree := 0 }) ∧
      (s.station.state = .leaving →
        t.replica = s.replica ∧ t.link.bus = .idle ∧ t.train.composer = none ∧ t.train.failed = false ∧
          t.station = s.station ∧ t.tx.entries = older ++ younger)
    (∀ o : OwnFrame, s.link.sending = some o →
      (∀ heardHigh, ∃ t, exec (.tryOutcome ⟨own ++ [false, heardHigh], .frameEnd .close⟩) s = .next t ∧
        (t.station.state ≠ .sidelined → t.apply = s.apply) ∧ returned t) ∧
      (∀ sampled i, BeatenAt own sampled i → 9 ≤ i → s.link.clashRun < 3 →
        ∃ t, exec (.tryOutcome ⟨sampled, .frameEnd .close⟩) s = .next t ∧ returned t) ∧
      (∀ sampled, CutShort own sampled → (o.kind = .trainTail → sampled.drop own.length ≠ [true]) →
        (∃ t, exec (.tryOutcome ⟨sampled, .stalled true⟩) s = .next t ∧ returned t) ∧
        exec (.tryOutcome ⟨sampled, .stalled false⟩) s = .next { s with
          train.failed := true
          link.sending := none
          link.bus := .busy
          link.chain := false } ∧
        exec (.tryOutcome ⟨sampled, .broken false⟩) s = .next { s with
          train.failed := true
          link.sending := none
          link.bus := .inFrame
          link.chain := false }) ∧
      (o.kind = .trainHead ∨ o.kind = .trainClaim → s.apply.rx.length = 3 → s.station.state = .member →
        e.retries + 1 < s.station.setup.retryLimit →
        ∃ t, exec (.tryOutcome ⟨own ++ [true, false], .frameEnd .close⟩) s = .next t ∧ t.link.bus = .idle ∧
          t.link.sending = none ∧ t.train.composer = none ∧ t.apply.rx.length = 4 ∧
          t.tx.entries = (back (e.retries + 1)).map
            (fun x => if x.frame.kind = .roll then { x with superseded := true } else x)) ∧
      (∀ sampled i ending, o.kind = .trainHead → s.station.state = .member → BeatenAt own sampled i → i < 9 →
        exec (.tryOutcome ⟨sampled, .frameEnd ending⟩) s = .next { s with
          tx.entries := back e.retries
          train.composer := none
          train.failed := false
          link.sending := none
          link.chain := false })) ∧
    (s.train.failed = true → s.link.sending = none → s.station.state.receives = true →
      (s.link.bus = .busy → ∃ t, exec .busIdleReturn s = .next t ∧ returned t) ∧
      (s.link.bus = .inFrame → ∀ sampled,
        (∃ t, exec (.stall ⟨sampled, true⟩) s = .next t ∧ returned t) ∧
        (∃ t, exec (.frameBreak ⟨sampled, true⟩) s = .next t ∧ returned t) ∧
        (s.train.run ≠ .ended → s.link.vetoRun < 7 → ∀ f otherVeto, readFrame sampled = some f →
          ∃ t, exec (.frameReceive sampled otherVeto .close) s = .next t ∧ returned t)))

/-! ## Line events -/

/-- A stall inside a frame: a sender's lines are released and its try ends with a retry counted; the partial frame of
a receiver is gone; the bus is IDLE if both lines are high, which ends a train's run and its pause, else BUSY (R68,
R138, R150). A rise of CBD inside a frame acts as a CLOSE; a fall acts as an OPEN: the bus stays BUSY, and so a train's
run and its pause stay (R68, R145). A receiver's break may come at IDLE (log entry 21); the mark of an ended run is the
model's record (log entry 13); that a clashed try that stalls ends stalled is log entry 34. A station whose own train
has failed on this run is left to IncompleteTrainReturns. -/
def Obligations.StallAndBreakEndTheFrame : Prop :=
  ∀ (s : State) (sampled : List Bool), Powered s → s.station.state.receives = true →
    (s.link.bus = .idle ∨ s.link.bus = .inFrame ∨ s.link.bus = .inRelinked) →
    let closed : State := { s with
      tx.offered := none
      watch.pause := false
      train.run := if s.train.run = .running then .ended else s.train.run
      link.bus := .idle
      link.idleCycles := 0
      link.chain := false }
    (s.link.sending = none →
      (s.train.failed = false →
        exec (.stall ⟨sampled, true⟩) s = .next closed ∧ exec (.frameBreak ⟨sampled, true⟩) s = .next closed) ∧
      exec (.stall ⟨sampled, false⟩) s = .next { s with tx.offered := none, link.bus := .busy, link.chain := false } ∧
      exec (.frameBreak ⟨sampled, false⟩) s =
        .next { s with tx.offered := none, link.bus := .inFrame, link.chain := false }) ∧
    (∀ (o : OwnFrame) (e : TxEntry) (older younger : List TxEntry), s.link.sending = some o →
      o.kind.isTrain = false → CutShort (sentBits s) sampled →
      s.tx.entries = older ++ e :: younger → e.onBus = true → (∀ x ∈ older ++ younger, x.onBus = false) →
      e.dead = false → e.frame ≠ .trainHead → cancelPendingOf e s = none → s.station.state = .member →
      e.retries + 1 < s.station.setup.retryLimit →
      let back := older ++ { e with onBus := false, retries := e.retries + 1 } :: younger
      exec (.stall ⟨sampled, true⟩) s = .next { closed with tx.entries := back, link.sending := none } ∧
      exec (.stall ⟨sampled, false⟩) s = .next { s with
        tx.offered := none
        tx.entries := back
        link.sending := none
        link.bus := .busy
        link.chain := false } ∧
      exec (.frameBreak ⟨sampled, true⟩) s = .next { closed with tx.entries := back, link.sending := none } ∧
      exec (.frameBreak ⟨sampled, false⟩) s = .next { s with
        tx.offered := none
        tx.entries := back
        link.sending := none
        link.bus := .inFrame
        link.chain := false })

/-- A stuck line sidelines a station that receives: off the bus with every tag ended SIDELINED, LOST where it was
granted and CANCELLED where it was not, the rest timer at 0, number, SETUP values and lock kept (R101, R151, R173). A
BUSY bus with no frame becomes IDLE, which ends a train's run and its pause; a line that falls on the idle bus makes
it BUSY with no frame received (R68, R138). The mark of an ended run is the model's record (log entry 13); that the
steps change nothing in other bus states is log entry 1. A station whose own train has failed on this run is left to
IncompleteTrainReturns. -/
def Obligations.LineEventsMoveTheBus : Prop :=
  (∀ s : State, Powered s →
    (s.station.state.receives = false → exec .lineStuck s = .next s) ∧
    (s.station.state.receives = true → ∃ t, exec .lineStuck s = .next t ∧ OffTheBus t ∧
      t.station = { s.station with state := .sidelined, lastCause := .lineStuck, attempts := 0, disagree := 0 } ∧
      t.watch.rest = some 0 ∧ t.watch.tickCount = s.watch.tickCount ∧ t.port = s.port ∧
      (∀ n < 16, (tagAt s n).inUse = true →
        ((tagAt s n).phase = some .held ∨ (tagAt s n).phase = some .yielding →
          .lost n .sidelined ∈ t.notices.entries) ∧
        ((tagAt s n).phase = some .sending ∨ (tagAt s n).phase = some .waiting ∨
            (tagAt s n).phase = some .cancelling →
          .cancelled n .sidelined ∈ t.notices.entries)) ∧
      (NoTags s → 0 < freePlaces s →
        t.notices.entries = s.notices.entries ++ [.state .sidelined .lineStuck]))) ∧
  (∀ s : State, Powered s →
    (s.station.state.receives = true → s.link.bus = .busy → s.train.failed = false →
      exec .busIdleReturn s = .next { s with
      watch.pause := false
      train.run := if s.train.run = .running then .ended else s.train.run
      link.bus := .idle
      link.idleCycles := 0
      link.chain := false }) ∧
    (s.link.bus = .idle → exec .lineFallWithoutOpen s = .next { s with
      tx.offered := none
      link.bus := .busy
      link.idleCycles := 0 }) ∧
    (s.link.bus ≠ .busy → exec .busIdleReturn s = .next s) ∧
    (s.link.bus ≠ .idle → exec .lineFallWithoutOpen s = .next s))

/-- The end of an incomplete run, once the train frames accepted before are applied: a station that holds no partial
copy loses nothing; a loader in AWAIT_COPY discards its partial copy and keeps its roster; a mistaken founder ends
every tag COPY and enters again (R121, R97). The wait for the train frames accepted before is the model's choice (log
entry 13). -/
def Obligations.IncompleteRunEnds : Prop :=
  ∀ s : State, Powered s → s.train.run = .ended → (∀ e ∈ s.apply.rx, e.kind.isTrain = false ∧ e.loads = false) →
    (s.train.partialCopy = false → exec .trainRunEnd s = .next { s with train.run := .none }) ∧
    (s.train.partialCopy = true → s.station.state = .awaitCopy → s.watch.copyWait ≠ some (8 * s.station.setup.r) →
      ∃ t, exec .trainRunEnd s = .next t ∧ t.replica = ⟨[], s.replica.roster⟩ ∧ t.watch.watches = [] ∧
        t.train = { s.train with carried := [], run := .none, partialCopy := false } ∧ t.station = s.station ∧
        t.watch.silence = s.watch.silence ∧ isLoading t = false ∧ ∀ r ∈ t.apply.record, r.loading = false) ∧
    (s.train.partialCopy = true → s.station.state = .member →
      ∃ t, exec .trainRunEnd s = .next t ∧ t.replica = ⟨[], s.replica.roster⟩ ∧ t.watch.watches = [] ∧
        t.watch.roll = none ∧ NoTags t ∧ isLoading t = false ∧
        t.station = { s.station with state := .entering, attempts := 1, lastCause := .copy } ∧
        (internalHeld s < 3 → keyPresent .enter t = true) ∧
        ∀ n < 16, (tagAt s n).inUse = true →
          ((tagAt s n).phase = some .held ∨ (tagAt s n).phase = some .yielding →
            .lost n .copy ∈ t.notices.entries) ∧
          ((tagAt s n).phase = some .sending ∨ (tagAt s n).phase = some .waiting ∨
              (tagAt s n).phase = some .cancelling →
            .cancelled n .copy ∈ t.notices.entries))

/-! ## Applying frames -/

/-- An ASK of another station is decided in the order of R48: out of turn, DUPLICATE, grant, BUSY, POOL_FULL, QUEUED. A
grant appends a slot with the next serial and starts its watch with grace; QUEUED appends a waiter at the tail;
everything else, values out of range included, changes nothing beyond the common steps (R6, R7, R30, R43, R47, R48,
R56, R70). -/
def Obligations.AskOfAnotherStationIsDecided : Prop :=
  ∀ (s : State) (e : RxEntry) (rest : List RxEntry) (cb fb lh ll : Byte), FrontIs s .ask e rest →
    s.station.state = .member ∨ s.station.state = .leaving → e.own = false → e.sender ≠ s.station.number →
    e.payload = [cb, fb, lh, ll] →
    let a := atFront e rest s
    let c := cb.toNat
    let lease := u16 lh ll
    let mode := if fb.getLsbD 0 then Mode.shared else Mode.sole
    let r := claimAt s c
    let named := (∃ h ∈ r.holders, h.station = e.sender) ∨ ∃ w ∈ r.waiters, w.station = e.sender
    let passes := r.holders = [] ∨ (mode = .shared ∧ (∀ h ∈ r.holders, h.mode = .shared) ∧ r.holders.length < 4)
    (64 ≤ c ∨ 4 ≤ fb.toNat ∨ lease = 0 ∨ 4095 < lease → exec .applyAsk s = .next a) ∧
    (rosterAt s e.sender ≠ .member ∨ named → exec .applyAsk s = .next a) ∧
    (¬(r.waiters = [] ∧ passes) → fb.getLsbD 1 = true ∨ 128 ≤ occupancy s → exec .applyAsk s = .next a) ∧
    (c < 64 → fb.toNat < 4 → 1 ≤ lease → lease ≤ 4095 → rosterAt s e.sender = .member → ¬ named →
      (r.waiters = [] → passes →
        exec .applyAsk s = .next (setWatch c e.sender (some ⟨(r.serial + 1) % 256, lease + max 2 (lease / 8), false⟩)
          (setClaim c ⟨(r.serial + 1) % 256, r.holders ++ [⟨e.sender, mode, lease, (r.serial + 1) % 256⟩], []⟩ a))) ∧
      (¬(r.waiters = [] ∧ passes) → fb.getLsbD 1 = false → occupancy s < 128 →
        exec .applyAsk s = .next
          (setClaim c ⟨r.serial, r.holders, r.waiters ++ [⟨e.sender, mode, lease⟩]⟩ a)))

/-- The outcome of an own ASK reaches its SENDING tag: GRANTED moves it to HELD, with TOO_LATE where a cancel was
pending; QUEUED with the position counted from 1 moves it to WAITING, and on to CANCELLING with a CANCEL queued where a
cancel was pending; a refusal ends it with its reason (R48, R49). -/
def Obligations.OwnAskReachesItsTag : Prop :=
  ∀ (s : State) (e : RxEntry) (rest : List RxEntry) (n : Nat) (cb fb lh ll : Byte), FrontIs s .ask e rest →
    s.station.state = .member → e.own = true → e.sender = s.station.number → e.binding = some n → n < 16 →
    (tagAt s n).inUse = true → (tagAt s n).phase = some .sending → e.payload = [cb, fb, lh, ll] → cb.toNat < 64 →
    fb.toNat < 4 → 2 ≤ u16 lh ll → u16 lh ll ≤ 4095 →
    let a := atFront e rest s
    let g := tagAt s n
    let c := cb.toNat
    let lease := u16 lh ll
    let mode := if fb.getLsbD 0 then Mode.shared else Mode.sole
    let r := claimAt s c
    let serial := (r.serial + 1) % 256
    let named := (∃ h ∈ r.holders, h.station = e.sender) ∨ ∃ w ∈ r.waiters, w.station = e.sender
    let passes := r.holders = [] ∨ (mode = .shared ∧ (∀ h ∈ r.holders, h.mode = .shared) ∧ r.holders.length < 4)
    let granted := setWatch c e.sender (some ⟨serial, lease, false⟩)
      (setClaim c ⟨serial, r.holders ++ [⟨e.sender, mode, lease, serial⟩], []⟩ a)
    let queued := setClaim c ⟨r.serial, r.holders, r.waiters ++ [⟨e.sender, mode, lease⟩]⟩ a
    let refusedWith (reason : RefuseReason) := NoWarnPending s → (∀ m ∈ s.notices.entries, m.isWarnOf n = false) →
      ∃ t, exec .applyAsk s = .next t ∧ t.replica = s.replica ∧ tagAt t n = Tag.free ∧
        t.notices.entries = s.notices.entries ++ [.refused n reason]
    (rosterAt s e.sender = .member → ¬ named →
      (r.waiters = [] → passes → g.cancelPending = false →
        exec .applyAsk s = .next (push (.granted n serial)
          (setTag n { g with phase := some .held, reservations := 1 } granted))) ∧
      (r.waiters = [] → passes → g.cancelPending = true → 1 < freePlaces s → g.reservations = 2 →
        exec .applyAsk s = .next (push (.tooLate n) (push (.granted n serial)
          (setTag n { g with phase := some .held, reservations := 1, cancelPending := false } granted)))) ∧
      (¬(r.waiters = [] ∧ passes) → fb.getLsbD 1 = false → occupancy s < 128 → 0 < freePlaces s →
        (g.cancelPending = false →
          exec .applyAsk s = .next (push (.queued n (r.waiters.length + 1))
            (setTag n { g with phase := some .waiting } queued))) ∧
        (g.cancelPending = true →
          exec .applyAsk s = .next (enqueue (.cancel c) (some n) (push (.queued n (r.waiters.length + 1))
            (setTag n { g with phase := some .cancelling, cancelPending := false } queued))))) ∧
      (¬(r.waiters = [] ∧ passes) → fb.getLsbD 1 = true → refusedWith .busy) ∧
      (¬(r.waiters = [] ∧ passes) → fb.getLsbD 1 = false → 128 ≤ occupancy s → refusedWith .poolFull)) ∧
    (rosterAt s e.sender = .member → named → refusedWith .duplicate) ∧
    (rosterAt s e.sender ≠ .member → refusedWith .notMember)

/-- A YIELD of a MEMBER, or a LAPSE from any sender, whose reference matches removes the hold, its watch and its LAPSE,
and promotion follows: its grants take one serial each and start watches, and one to this station makes its waiting tag
GRANTED; this station's own tag ends RELEASED or LOST(LAPSED). One that does not match, an out-of-turn
YIELD, or values out of range change nothing beyond the common steps (R4, R5, R7, R10, R12, R15, R43, R47, R51,
R53, R56). -/
def Obligations.MatchingYieldOrLapseRemovesTheHold : Prop :=
  ∀ (s : State) (e : RxEntry) (rest : List RxEntry) (c h serial : Nat) (i : Instr) (phases : List Phase)
      (ended : Nat → Notice),
    s.station.state = .member ∨ s.station.state = .leaving →
    (i = .applyYield ∧ FrontIs s .yield e rest ∧ parseYield e.payload = some (c, serial) ∧ h = e.sender ∧
        phases = [.yielding] ∧ ended = .released ∨
      i = .applyLapse ∧ FrontIs s .lapse e rest ∧ parseLapse e.payload = some (c, h, serial) ∧
        phases = [.held, .yielding] ∧ ended = fun n => .lost n .lapsed) →
    let a := atFront e rest s
    (64 ≤ c ∨ (i = .applyLapse ∧ 32 ≤ h) ∨ (i = .applyYield ∧ rosterAt s e.sender ≠ .member) ∨
        (∀ x ∈ (claimAt s c).holders, x.station = h → x.serial ≠ serial) →
      exec i s = .next a) ∧
    (c < 64 → h < 32 → (i = .applyYield → rosterAt s e.sender = .member) →
      (∃ x, slotOf (claimAt s c) h = some x ∧ x.serial = serial) → (∀ w ∈ (claimAt s c).waiters, w.station ≠ h) →
      ∃ t, exec i s = .next t ∧ RemovedAndPromoted c h s t ∧ t.replica.roster = s.replica.roster ∧
        t.station = s.station ∧ (∀ x ∈ t.tx.entries, x.onBus = false → ∀ k, x.frame ≠ .lapse c h k) ∧
        (h = s.station.number → ∀ n < 16, (tagAt s n).inUse = true → (tagAt s n).claim = c →
          (tagAt s n).phase ∈ phases.map some → (∀ m < 16, m ≠ n → (tagAt s m).inUse = true → (tagAt s m).claim ≠ c) →
          (tagAt t n).inUse = false ∧ ended n ∈ t.notices.entries ∧
            ∀ x ∈ t.tx.entries, x.onBus = false → x.binding ≠ some n))

/-- An EXTEND of a MEMBER whose reference matches gives the slot the next serial and the lease in its place, restarts
its watch and withdraws the LAPSE of the old serial; this station's own tag takes the lease and gets EXTENDED, its
extend-in-flight flag and warn latch clear. A stale one clears the flag of a bound tag in use at its sender and
changes nothing else (R9, R43, R47, R52, R56, R72, R75). -/
def Obligations.MatchingExtendRenewsTheHold : Prop :=
  ∀ (s : State) (e : RxEntry) (rest : List RxEntry) (c serial lease : Nat), FrontIs s .extend e rest →
    s.station.state = .member ∨ s.station.state = .leaving → parseExtend e.payload = some (c, serial, lease) →
    let a := atFront e rest s
    let r := claimAt s c
    let next := (r.serial + 1) % 256
    let extended := setClaim c { r with
      serial := next
      holders := r.holders.map
        (fun x => if x.station = e.sender then { x with lease := lease, serial := next } else x) } a
    let stale := 64 ≤ c ∨ lease = 0 ∨ 4095 < lease ∨ ∀ x ∈ r.holders, x.station = e.sender → x.serial ≠ serial
    (rosterAt s e.sender ≠ .member → exec .applyExtend s = .next a) ∧
    (stale → e.own = false → exec .applyExtend s = .next a) ∧
    (stale → rosterAt s e.sender = .member → e.own = true → ∀ n, e.binding = some n → (tagAt s n).inUse = true →
      exec .applyExtend s = .next (setTag n { tagAt s n with extendInFlight := false } a)) ∧
    (c < 64 → 1 ≤ lease → lease ≤ 4095 → rosterAt s e.sender = .member →
      (∃ x, slotOf r e.sender = some x ∧ x.serial = serial) →
      (e.sender ≠ s.station.number →
        exec .applyExtend s = .next
          (setWatch c e.sender (some ⟨next, lease + max 2 (lease / 8), false⟩) { extended with
            tx.entries := a.tx.entries.filter (fun x => x.onBus || match x.frame with
              | .lapse b h _ => !(b == c && h == e.sender)
              | _ => true) })) ∧
      (e.sender = s.station.number → 2 ≤ lease → 0 < freePlaces s → ∀ n < 16, (tagAt s n).inUse = true →
        (tagAt s n).claim = c → (tagAt s n).phase = some .held ∨ (tagAt s n).phase = some .yielding →
        (∀ m < 16, m ≠ n → (tagAt s m).inUse = true → (tagAt s m).claim ≠ c) →
        ∃ t, exec .applyExtend s = .next t ∧ t.replica = extended.replica ∧
          watchAt t c e.sender = some ⟨next, lease, false⟩ ∧
          tagAt t n = { tagAt s n with lease := lease, extendInFlight := false, warnLatch := false } ∧
          t.notices.entries = s.notices.entries ++ [.extended n next]))

/-- A CANCEL of a MEMBER that waits on the claim removes its waiter, with promotion where it was the head,
whose grants reach watches and tags, and this station's own tag ends CANCELLED(HOST). A stale one gives TOO_LATE to a
bound tag that is HELD at its sender and changes nothing else (R7, R15, R33, R34, R43, R47, R54 to R56); that a tag in
YIELDING or CANCELLING gets nothing is log entry 26. -/
def Obligations.CancelRemovesTheWaiter : Prop :=
  ∀ (s : State) (e : RxEntry) (rest : List RxEntry) (cb : Byte), FrontIs s .cancel e rest →
    s.station.state = .member ∨ s.station.state = .leaving → e.payload = [cb] →
    let a := atFront e rest s
    let c := cb.toNat
    let r := claimAt s c
    let waits := ∃ w ∈ r.waiters, w.station = e.sender
    (rosterAt s e.sender ≠ .member → exec .applyCancel s = .next a) ∧
    (64 ≤ c ∨ ¬ waits → e.own = false → exec .applyCancel s = .next a) ∧
    (64 ≤ c ∨ ¬ waits → rosterAt s e.sender = .member → e.own = true → ∀ n, e.binding = some n →
      (tagAt s n).inUse = true →
      ((tagAt s n).phase = some .held → 0 < freePlaces s → exec .applyCancel s = .next (push (.tooLate n) a)) ∧
      ((tagAt s n).phase ≠ some .held → exec .applyCancel s = .next a)) ∧
    (c < 64 → rosterAt s e.sender = .member → waits →
      (∀ w ∈ r.waiters.head?, w.station ≠ e.sender) → e.sender ≠ s.station.number →
      exec .applyCancel s = .next
        (setClaim c { r with waiters := r.waiters.filter (fun w => w.station != e.sender) } a)) ∧
    (c < 64 → rosterAt s e.sender = .member → waits → r.holders ≠ [] →
      let left := r.waiters.filter (fun w => w.station != e.sender)
      ∃ t, exec .applyCancel s = .next t ∧ t.replica.roster = s.replica.roster ∧
        (∀ b, b ≠ c → claimAt t b = claimAt s b) ∧
        ((∀ w ∈ r.waiters.head?, w.station ≠ e.sender) → claimAt t c = { r with waiters := left }) ∧
        ((∃ w, r.waiters.head? = some w ∧ w.station = e.sender) →
          Promoted c r.holders left s t ∧ GrantsReach c s t) ∧
        (e.sender = s.station.number → ∀ n < 16, (tagAt s n).inUse = true → (tagAt s n).claim = c →
          (tagAt s n).phase = some .cancelling → (∀ m < 16, m ≠ n → (tagAt s m).inUse = true → (tagAt s m).claim ≠ c) →
          (tagAt t n).inUse = false ∧ .cancelled n .host ∈ t.notices.entries))

/-- A DROP at a station that shares the claim table. Of a listed station other than this one: its holds and waits leave
every claim with promotion behind them, whose grants reach watches and tags, other claims stand as they were, its entry
is ABSENT and its silence counter gone. Of this station: in LEAVING, or sent by itself, the departure ends in LOCAL,
every tag ended LEFT; else it is purged alike and evicted to ENTERING with an ENTER queued, every tag ended DROPPED. Of
an ABSENT station or a number above 31: nothing beyond the common steps (R4, R7, R10, R14 to R17, R44, R47, R57 to R59,
R97, R173). -/
def Obligations.DropPurgesTheStation : Prop :=
  ∀ (s : State) (e : RxEntry) (rest : List RxEntry) (db : Byte), FrontIs s .drop e rest →
    s.station.state = .member ∨ s.station.state = .leaving → e.payload = [db] →
    let d := db.toNat
    let own := s.station.number
    let ended (cause : TagCause) (t : State) := NoTags t ∧ ∀ n < 16, (tagAt s n).inUse = true →
      ((tagAt s n).phase = some .held ∨ (tagAt s n).phase = some .yielding → .lost n cause ∈ t.notices.entries) ∧
      ((tagAt s n).phase = some .sending ∨ (tagAt s n).phase = some .waiting ∨
          (tagAt s n).phase = some .cancelling →
        .cancelled n cause ∈ t.notices.entries)
    (32 ≤ d ∨ rosterAt s d = .absent → exec .applyDrop s = .next (atFront e rest s)) ∧
    (d < 32 → d ≠ own → rosterAt s d ≠ .absent → ∃ t, exec .applyDrop s = .next t ∧ Purged d s t ∧
      PurgeHandedOn d s t ∧ silenceAt t d = none ∧
      (∀ b, rosterAt t b = if b = d then .absent else rosterAt s b) ∧ t.station = s.station ∧ t.link = s.link) ∧
    (d < 32 → d = own → rosterAt s d ≠ .absent → s.station.state = .leaving ∨ e.sender = own →
      ∃ t, exec .applyDrop s = .next t ∧ OffTheBus t ∧ ended .left t ∧
        t.station = { s.station with state := .localState, lastCause := .left, attempts := 0, disagree := 0 } ∧
        (NoTags s → 0 < freePlaces s →
          t.notices.entries = s.notices.entries ++ [.state .localState .left])) ∧
    (d < 32 → d = own → rosterAt s d ≠ .absent → s.station.state = .member → e.sender ≠ own →
      ∃ t, exec .applyDrop s = .next t ∧ Purged d s t ∧ ended .dropped t ∧
        (∀ b, rosterAt t b = if b = d then .absent else rosterAt s b) ∧
        t.station = { s.station with state := .entering, attempts := 1, lastCause := .evicted } ∧
        (internalHeld (atFront e rest s) < 3 → keyPresent .enter t = true) ∧ t.watch.watches = [] ∧
        t.watch.roll = none)

/-- An ENTER: a station that shares the claim table purges a listed sender as a DROP would, with promotion, claims that
do not name it standing as they were, and lists it JOINING, its silence counter at 0; on a learned roster the sender
becomes MEMBER where no other MEMBER is listed, else JOINING. The station's own ENTER in ENTERING founds, with a clear
table, or moves it to AWAIT_COPY with its timers started (R7, R16, R17, R60, R61, R91, R93). -/
def Obligations.EnterJoinsOrFounds : Prop :=
  ∀ (s : State) (e : RxEntry) (rest : List RxEntry), FrontIs s .enter e rest → e.sender < 32 →
    let a := atFront e rest s
    let d := e.sender
    let own := s.station.number
    let others := ∃ b < 32, b ≠ d ∧ rosterAt s b = .member
    (s.station.state = .member ∨ s.station.state = .leaving → rosterAt s d = .absent → d ≠ own →
      exec .applyEnter s = .next (setSilence d (some 0) (setRoster d .joining a))) ∧
    (s.station.state = .member ∨ s.station.state = .leaving → rosterAt s d ≠ .absent → d ≠ own →
      ∃ t, exec .applyEnter s = .next t ∧ Purged d s t ∧ PurgeHandedOn d s t ∧ silenceAt t d = some 0 ∧
        (∀ b, rosterAt t b = if b = d then .joining else rosterAt s b) ∧ t.station = s.station ∧ t.link = s.link) ∧
    (s.station.state = .listen ∨ s.station.state = .entering ∨ s.station.state = .awaitCopy → d ≠ own →
      ∃ t, exec .applyEnter s = .next t ∧ silenceAt t d = some 0 ∧ t.replica.claims = s.replica.claims ∧
        t.station = s.station ∧ (others → rosterAt t d = .joining) ∧ (¬ others → rosterAt t d = .member) ∧
        ∀ b, b ≠ d → rosterAt t b = rosterAt s b) ∧
    (s.station.state = .entering → d = own → ¬ others → 0 < freePlaces s →
      ∃ t, exec .applyEnter s = .next t ∧ rosterAt t own = .member ∧ t.replica.claims = [] ∧ t.watch.roll = some 0 ∧
        (∀ b, b ≠ d → rosterAt t b = rosterAt s b) ∧
        t.station = { s.station with state := .member, attempts := 0, disagree := 0, lastCause := .founded } ∧
        t.notices.entries = s.notices.entries ++ [.state .member .founded]) ∧
    (s.station.state = .entering → d = own → others → 0 < freePlaces s →
      ∃ t, exec .applyEnter s = .next t ∧ rosterAt t own = .joining ∧ t.replica.claims = s.replica.claims ∧
        (∀ b, b ≠ d → rosterAt t b = rosterAt s b) ∧ t.watch.copyWait = some 0 ∧ t.watch.roll = some 0 ∧
        t.station = { s.station with state := .awaitCopy, lastCause := .entered } ∧
        t.notices.entries = s.notices.entries ++ [.state .awaitCopy .entered])

/-- A ROLL with the joining flag clear from another station, applied in MEMBER: a digest unlike its own from its copy
source, or any from an ABSENT lower-numbered station, makes this station diverged: replica cleared but for the
sender, tags ended DIVERGED, ENTERING; a digest unlike its own from another station raises the disagree count up to
255; else, and with the joining flag set or undefined flags, only the common steps act (R47, R62 to R65, R97). -/
def Obligations.RollIsCompared : Prop :=
  ∀ (s : State) (e : RxEntry) (rest : List RxEntry) (flags : Nat) (dig : BitVec 16), FrontIs s .roll e rest →
    s.station.state = .member → parseRoll e.payload = some (flags, dig) → e.sender < 32 →
    let a := atFront e rest s
    let d := e.sender
    let diverged := (copySource s = some d ∧ dig ≠ digest s.replica) ∨
      (rosterAt s d = .absent ∧ d < s.station.number)
    (flags ≠ 0 ∨ d = s.station.number → exec .applyRoll s = .next a) ∧
    (flags = 0 → d ≠ s.station.number → ¬ diverged →
      (copySource s ≠ some d ∧ dig ≠ digest s.replica →
        exec .applyRoll s = .next { a with station.disagree := min 255 (s.station.disagree + 1) }) ∧
      (dig = digest s.replica → exec .applyRoll s = .next a)) ∧
    (flags = 0 → d ≠ s.station.number → diverged →
      ∃ t, exec .applyRoll s = .next t ∧ t.replica.claims = [] ∧ NoTags t ∧ t.watch.watches = [] ∧
        (∀ b, rosterAt t b = if b = d then .member else .absent) ∧
        t.station = { s.station with state := .entering, attempts := 1, lastCause := .diverged, disagree := 0 } ∧
        (internalHeld a < 3 → keyPresent .enter t = true) ∧
        ∀ n < 16, (tagAt s n).inUse = true →
          ((tagAt s n).phase = some .held ∨ (tagAt s n).phase = some .yielding →
            .lost n .diverged ∈ t.notices.entries) ∧
          ((tagAt s n).phase = some .sending ∨ (tagAt s n).phase = some .waiting ∨
              (tagAt s n).phase = some .cancelling →
            .cancelled n .diverged ∈ t.notices.entries))

/-- A learned roster: a ROLL lists its sender JOINING or makes it MEMBER by its joining flag, never lowering an entry; a
DROP makes its subject ABSENT; claim frames do nothing beyond the common steps: the frame leaves the receive queue, a
record that it does not continue ends, a listed sender's silence counter is at 0, an own frame restarts the roll timer
(R41, R43, R45, R46, R111). A DROP of this station in AWAIT_COPY begins the next attempt with cause DROPPED (R59, R93).
That it does so where this station's own entry is ABSENT too is log entry 30. -/
def Obligations.RosterIsLearned : Prop :=
  ∀ (s : State) (e : RxEntry) (rest : List RxEntry), e.sender < 32 →
    s.station.state = .listen ∨ s.station.state = .entering ∨ s.station.state = .awaitCopy →
    let a := atFront e rest s
    (∀ dig, FrontIs s .roll e rest → parseRoll e.payload = some (0, dig) → e.sender ≠ s.station.number →
      ∃ t, exec .applyRoll s = .next t ∧ rosterAt t e.sender = .member ∧ silenceAt t e.sender = some 0 ∧
        (∀ b, b ≠ e.sender → rosterAt t b = rosterAt s b) ∧ t.replica.claims = s.replica.claims ∧
        t.station = s.station) ∧
    (∀ dig, FrontIs s .roll e rest → parseRoll e.payload = some (1, dig) → rosterAt s e.sender ≠ .absent →
      exec .applyRoll s = .next a) ∧
    (∀ dig, FrontIs s .roll e rest → parseRoll e.payload = some (1, dig) → rosterAt s e.sender = .absent →
      exec .applyRoll s = .next (setSilence e.sender (some 0) (setRoster e.sender .joining a))) ∧
    (∀ d : Byte, FrontIs s .drop e rest → e.payload = [d] → d.toNat < 32 →
      d.toNat ≠ s.station.number ∨ s.station.state ≠ .awaitCopy →
      (rosterAt s d.toNat = .absent → exec .applyDrop s = .next a) ∧
      (rosterAt s d.toNat ≠ .absent →
        exec .applyDrop s = .next (setSilence d.toNat none (setRoster d.toNat .absent a)))) ∧
    (∀ d : Byte, FrontIs s .drop e rest → e.payload = [d] → d.toNat < 32 → d.toNat = s.station.number →
      s.station.state = .awaitCopy → s.station.attempts < 3 → 0 < freePlaces s →
      ∃ t, exec .applyDrop s = .next t ∧ t.notices.entries = s.notices.entries ++ [.state .entering .dropped] ∧
        t.station = { s.station with
          state := .entering, attempts := s.station.attempts + 1, lastCause := .dropped } ∧
        ∀ b, rosterAt t b = if b = d.toNat then .absent else rosterAt s b) ∧
    ∀ p ∈ [(Instr.applyAsk, FrameKind.ask), (.applyYield, .yield), (.applyExtend, .extend), (.applyLapse, .lapse),
      (.applyCancel, .cancel)], FrontIs s p.2 e rest → ∃ t, exec p.1 s = .next t ∧
        t.apply.rx = rest ∧ t.apply.record = (if e.continuation then s.apply.record else none) ∧
        (∀ b, silenceAt t b =
          if b = e.sender ∧ rosterAt s b ≠ .absent ∧ b ≠ s.station.number then some 0 else silenceAt s b) ∧
        t.watch.roll = (if e.own then s.watch.roll.map (fun _ => 0) else s.watch.roll) ∧
        t = { s with apply := t.apply, watch.silence := t.watch.silence, watch.roll := t.watch.roll }

/-! ## Applying train frames -/

/-- A TRAIN-HEAD begins the pending-train record; a station that loads clears its table and takes its roster from the
masks, with the silence counter of every listed other station at 0. A TRAIN-CLAIM is counted, and a loader writes the
claim as carried and keeps the ticks left; a mistaken founder, which loads in MEMBER, starts the holds' watches too, at
those ticks plus the grace; a station that does not load writes nothing (R22, R70, R81, R111, R114, R115). That the
apply unit's record counts at the application is the model's reading (log entry 12); that a copy which an earlier train
left in part is kept until the bus is idle or the next head is log entry 13. -/
def Obligations.TrainIsLoaded : Prop :=
  ∀ (s : State) (e : RxEntry) (rest : List RxEntry),
    (∀ h : HeadFields, FrontIs s .trainHead e rest → parseHead e.payload = some h → e.continuation = false →
      let record (loading : Bool) : TrainRecord :=
        ⟨e.sender, h.members, h.joining, h.k, h.occupancy, 0, none, loading⟩
      let a := atFront e rest s
      (e.loads = false → s.train.partialCopy = false →
        exec .applyTrainHead s = .next { a with apply.record := some (record false) }) ∧
      (e.loads = true → s.station.state = .awaitCopy ∨ s.station.state = .member →
        ∃ t, exec .applyTrainHead s = .next t ∧ t.apply = ⟨rest, some (record true)⟩ ∧ t.replica.claims = [] ∧
          t.watch.watches = [] ∧ t.train.carried = [] ∧ t.train.partialCopy = true ∧
          t.station = { s.station with disagree := 0 } ∧
          ∀ d < 32, rosterAt t d =
              (if h.members.getLsbD d then .member else if h.joining.getLsbD d then .joining else .absent) ∧
            silenceAt t d =
              if d ≠ s.station.number ∧ (h.members.getLsbD d = true ∨ h.joining.getLsbD d = true) then some 0
              else none)) ∧
    ∀ (r : TrainRecord) (f : ClaimFields), FrontIs s .trainClaim e rest → e.continuation = true →
      parseClaim e.payload = some f → s.apply.record = some r →
      let a := atFront e rest s
      let counted : State := { a with apply.record := some { r with count := r.count + 1, lastClaim := some f.claim } }
      (r.loading = false → exec .applyTrainClaim s = .next counted) ∧
      (r.loading = true → s.station.state = .awaitCopy ∨ s.station.state = .member →
        (f.holders.map (·.1.station)).Nodup →
        (∀ h ∈ f.holders, h.1.station < 32) →
        ∃ t, exec .applyTrainClaim s = .next t ∧
          t.replica = (setClaim f.claim ⟨f.serial, f.holders.map (·.1), f.waiters⟩ s).replica ∧
          (∀ h ∈ f.holders, Table.get 0 t.train.carried (f.claim * 32 + h.1.station) = h.2) ∧
          (s.station.state = .awaitCopy →
            t = { counted with replica := t.replica, train.carried := t.train.carried }) ∧
          (s.station.state = .member → (∀ h ∈ f.holders, h.1.station ≠ s.station.number) →
            (∀ h ∈ f.holders, watchAt t f.claim h.1.station =
              some ⟨h.1.serial, h.2 + max 2 (h.1.lease / 8), false⟩) ∧
            t = { counted with
              replica := t.replica
              train.carried := t.train.carried
              watch.watches := t.watch.watches }))

/-- The commit at a TRAIN-TAIL: every station of the joining mask that is still JOINING becomes MEMBER and no other
entry changes; the record ends; at the source the TRAIN-HEAD's entry leaves. A loader in AWAIT_COPY starts the watch
of every loaded hold at the carried ticks left plus the grace and becomes MEMBER; a mistaken founder ends with cause
COPY the tags that the copy does not show, and its DROPs of stations the copy lists are stale (R81, R108, R117 to R119,
R128; that they are marked so at the commit is log entry 35). -/
def Obligations.TrainTailCommits : Prop :=
  ∀ (s : State) (e : RxEntry) (rest : List RxEntry) (r : TrainRecord), FrontIs s .trainTail e rest →
    e.continuation = true → s.apply.record = some r →
    let committed (t : State) := t.replica.claims = s.replica.claims ∧ t.apply = ⟨rest, none⟩ ∧
      ∀ d < 32, rosterAt t d =
        if r.joining.getLsbD d = true ∧ rosterAt s d = .joining then .member else rosterAt s d
    (r.loading = false → ∃ t, exec .applyTrainTail s = .next t ∧ committed t ∧ t.station = s.station ∧
      t.tags = s.tags ∧ t.notices = s.notices ∧
      (e.own = true → t.train.composer = none ∧
        ∀ x, x ∈ t.tx.entries ↔ x ∈ s.tx.entries ∧ ¬ (x.onBus = true ∧ x.frame = .trainHead)) ∧
      (e.own = false → t.tx = s.tx)) ∧
    (r.loading = true → e.own = false → s.station.state = .awaitCopy → NoTags s → s.station.number < 32 →
      0 < freePlaces s →
      ∃ t, exec .applyTrainTail s = .next t ∧ committed t ∧ t.watch.copyWait = none ∧ t.watch.roll = some 0 ∧
        t.train.carried = [] ∧ t.train.partialCopy = false ∧
        t.notices.entries = s.notices.entries ++ [.state .member .joined] ∧
        t.station = { s.station with state := .member, lastCause := .joined, attempts := 0, disagree := 0 } ∧
        ((∀ c < 64, ∀ h ∈ (claimAt s c).holders, h.station < 32) →
          ∀ c < 64, ((claimAt s c).holders.map (·.station)).Nodup →
            ∀ h ∈ (claimAt s c).holders, h.station ≠ s.station.number → watchAt t c h.station =
              some ⟨h.serial, Table.get 0 s.train.carried (c * 32 + h.station) + max 2 (h.lease / 8), false⟩)) ∧
    (r.loading = true → e.own = false → s.station.state = .member →
      ∃ t, exec .applyTrainTail s = .next t ∧ committed t ∧ t.watch.roll = some 0 ∧ t.train.partialCopy = false ∧
        (∀ x ∈ t.tx.entries, ∀ d < 32, x.frame = .drop d → rosterAt t d ≠ .absent → Stale x t) ∧
        t.station = { s.station with lastCause := .copy, attempts := 0, disagree := 0 } ∧
        ∀ n < 16, (tagAt s n).inUse = true →
          ((tagAt s n).phase = some .held ∨ (tagAt s n).phase = some .yielding →
            (∀ h ∈ (claimAt s (tagAt s n).claim).holders, h.station ≠ s.station.number) →
            (tagAt t n).inUse = false ∧ .lost n .copy ∈ t.notices.entries) ∧
          ((tagAt s n).phase = some .waiting ∨ (tagAt s n).phase = some .cancelling →
            (∀ w ∈ (claimAt s (tagAt s n).claim).waiters, w.station ≠ s.station.number) →
            (tagAt t n).inUse = false ∧ .cancelled n .copy ∈ t.notices.entries) ∧
          ((tagAt s n).phase = some .sending → (tagAt t n).inUse = true ∧ (tagAt t n).phase = some .sending))

/-! ## Invariants that every step keeps -/

/-- Every step keeps the tables in their form. -/
def Obligations.StepKeepsTables : Prop :=
  ∀ s t : State, TablesLawful s → step s = .next t → TablesLawful t

/-- Every step keeps every claim record lawful: FREE, one SOLE or one to four SHARED holders, serial 0 and an empty
queue where it is FREE, no station twice, leases and serials in range, and a head waiter that fails the grant test
(R2 to R4, R14, R29). The record that a TRAIN-CLAIM carries is taken to be lawful, as R14 and R37 say of a source's
copy. -/
def Obligations.StepKeepsClaims : Prop :=
  ClaimsLawful State.reset ∧
  ∀ s t : State, ClaimsLawful s → (s.pending.head? = some .applyTrainClaim → FrontClaimLawful s) →
    step s = .next t → ClaimsLawful t

/-- Every step keeps each tag's reservations as its phase asks (R172) and the notice queue within its 48 places,
reservations and the place kept for OVERFLOW included (R175). -/
def Obligations.StepKeepsPlaces : Prop :=
  ∀ s t : State, PlacesLawful s → step s = .next t → PlacesLawful t

/-- Every step keeps the receive queue within 4 frames, with room while an own frame is on the bus, and the transmit
queue within 5 bound and 3 internal places (R39, R40, R123); and every step keeps the keys of the queued internal
frames distinct (R124). -/
def Obligations.StepKeepsFrameQueues : Prop :=
  (∀ s t : State, QueuesLawful s → step s = .next t → QueuesLawful t) ∧
  (∀ s t : State, KeysLawful s → step s = .next t → KeysLawful t)

/-- After every step own frames are sent only in the states that send, and the run counters stand below their limits
(R137, R152 to R154); and a station in LOCAL, SIDELINED or HALTED holds no replica, no frame, no train, no timer but
the rest timer, no line and no tag (R42, R86, R101, R136, R137, R156). -/
def Obligations.StepKeepsBusLaws : Prop :=
  (∀ s t : State, RunsLawful s → step s = .next t → RunsLawful t) ∧
  (∀ s t : State, QuietLawful s → step s = .next t → QuietLawful t)

/-- The state after a hard reset meets every invariant. -/
def Obligations.ResetMeetsTheInvariants : Prop :=
  TablesLawful State.reset ∧ ClaimsLawful State.reset ∧ PlacesLawful State.reset ∧ QueuesLawful State.reset ∧
    KeysLawful State.reset ∧ RunsLawful State.reset ∧ QuietLawful State.reset

/-- Only applications, resets, RESTART, and what takes the station off the bus or ends a loaded copy, change the claim
table; while the station receives only applications and the end of a copy do: commands, ticks, the transmit queue and
the bus leave every claim record as it was (R1, R18). -/
def Obligations.OnlyApplicationsChangeClaims : Prop :=
  ∀ (s t : State) (c : Instr), exec c s = .next t → s.train.run ≠ .ended →
    c ∉ [Instr.applyAsk, .applyYield, .applyExtend, .applyLapse, .applyCancel, .applyDrop, .applyEnter, .applyRoll,
      .applyTrainHead, .applyTrainClaim, .applyTrainTail] →
    t.replica.claims = s.replica.claims ∨ (OffTheBus t ∧ t.station.state.receives = false)

/-! ## Formats -/

/-- What a frame is composed of is what a receiver reads from it, kind by kind (R190), and the bits of a frame are what
a receiver reads its fields from, by its length field, most significant bit first (R141): no field is dropped. The bits
of the frame that this station sends are such a frame's, with its kind, number, length, payload and check (R189). -/
def Obligations.PayloadsReadBack : Prop :=
  (∀ c mode noWait lease, c < 256 → lease < 65536 →
    ∃ a, parseAsk (askBytes c mode noWait lease) = some a ∧ a.claim = c ∧ a.mode = mode ∧ a.noWait = noWait ∧
      a.lease = lease ∧ a.flags < 4) ∧
  (∀ c serial, c < 256 → serial < 256 → parseYield (yieldBytes c serial) = some (c, serial)) ∧
  (∀ c serial lease, c < 256 → serial < 256 → lease < 65536 →
    parseExtend (extendBytes c serial lease) = some (c, serial, lease)) ∧
  (∀ c h serial, c < 256 → h < 256 → serial < 256 → parseLapse (lapseBytes c h serial) = some (c, h, serial)) ∧
  (∀ joining dig, parseRoll (rollBytes joining dig) = some (if joining then 1 else 0, dig)) ∧
  (∀ dig, parseTail (digestBytes dig) = some dig) ∧
  (∀ h : HeadFields, h.k < 256 → h.occupancy < 256 → parseHead (headBytes h) = some h) ∧
  (∀ n < 256, parseOne [byte n] = some n) ∧
  (∀ f : BusFrame, f.payload.length = f.length.toNat →
    (BusFrame.bits f).length = 32 + 8 * f.payload.length ∧ readFrame (BusFrame.bits f) = some f) ∧
  (∀ bs f, readFrame bs = some f → BusFrame.bits f = bs ∧ f.payload.length = f.length.toNat) ∧
  (∀ (s : State) (o : OwnFrame), s.link.sending = some o → s.station.number < 32 → o.payload.length < 128 →
    ∃ f, readFrame (sentBits s) = some f ∧ f.kind.toNat = o.kind.code ∧ f.sender.toNat = s.station.number ∧
      f.length.toNat = o.payload.length ∧ f.payload = o.payload ∧ f.check = BusFrame.computedCheck f) ∧
  ∀ f : ClaimFields, f.claim < 256 → f.serial < 256 → f.holders.length < 8 → f.waiters.length < 32 →
    (∀ h ∈ f.holders, h.1.station < 32 ∧ h.1.lease < 65536 ∧ h.1.serial < 256 ∧ h.2 < 65536) →
    (∀ w ∈ f.waiters, w.station < 32 ∧ w.lease < 65536) → parseClaim (claimBytes f) = some f

/-- A loader's running digest over a whole train is the source's digest: begun by the head's member mask, with every
claim that no TRAIN-CLAIM carries taken as FREE with serial 0 (R20, R116, R147, R191). -/
def Obligations.RunningDigestIsTheSourceDigest : Prop :=
  ∀ (s : State) (loads : Bool),
    (∀ c < 64, (claimAt s c).holders = [] → claimAt s c = ClaimRecord.free) →
    let train := (laterClaims none s).foldl (fun r c => r.advance (claimFields c s))
      (LinkTrain.start s.station.number (headFields s) loads)
    train.finalDigest = digest s.replica ∧ train.runOccupancy = (headFields s).occupancy ∧
      train.count = (headFields s).k
end

