-- ==== Sys2Proof/Laws/State.lean ====
section
/-! SUPPORT. What each update of the state leaves as it was: one lemma per update and block, true by rfl, and the
values of the fields that an update writes. -/

namespace Sys2Proof.Machine

@[simp] theorem setClaim_station (c : Nat) (r : ClaimRecord) (s : State) :
    (setClaim c r s).station = s.station := rfl

@[simp] theorem setClaim_apply (c : Nat) (r : ClaimRecord) (s : State) :
    (setClaim c r s).apply = s.apply := rfl

@[simp] theorem setClaim_watch (c : Nat) (r : ClaimRecord) (s : State) :
    (setClaim c r s).watch = s.watch := rfl

@[simp] theorem setClaim_train (c : Nat) (r : ClaimRecord) (s : State) :
    (setClaim c r s).train = s.train := rfl

@[simp] theorem setClaim_tx (c : Nat) (r : ClaimRecord) (s : State) :
    (setClaim c r s).tx = s.tx := rfl

@[simp] theorem setClaim_link (c : Nat) (r : ClaimRecord) (s : State) :
    (setClaim c r s).link = s.link := rfl

@[simp] theorem setClaim_port (c : Nat) (r : ClaimRecord) (s : State) :
    (setClaim c r s).port = s.port := rfl

@[simp] theorem setClaim_tags (c : Nat) (r : ClaimRecord) (s : State) :
    (setClaim c r s).tags = s.tags := rfl

@[simp] theorem setClaim_notices (c : Nat) (r : ClaimRecord) (s : State) :
    (setClaim c r s).notices = s.notices := rfl

@[simp] theorem setClaim_pending (c : Nat) (r : ClaimRecord) (s : State) :
    (setClaim c r s).pending = s.pending := rfl

@[simp] theorem setRoster_station (d : Nat) (e : RosterEntry) (s : State) :
    (setRoster d e s).station = s.station := rfl

@[simp] theorem setRoster_apply (d : Nat) (e : RosterEntry) (s : State) :
    (setRoster d e s).apply = s.apply := rfl

@[simp] theorem setRoster_watch (d : Nat) (e : RosterEntry) (s : State) :
    (setRoster d e s).watch = s.watch := rfl

@[simp] theorem setRoster_train (d : Nat) (e : RosterEntry) (s : State) :
    (setRoster d e s).train = s.train := rfl

@[simp] theorem setRoster_tx (d : Nat) (e : RosterEntry) (s : State) :
    (setRoster d e s).tx = s.tx := rfl

@[simp] theorem setRoster_link (d : Nat) (e : RosterEntry) (s : State) :
    (setRoster d e s).link = s.link := rfl

@[simp] theorem setRoster_port (d : Nat) (e : RosterEntry) (s : State) :
    (setRoster d e s).port = s.port := rfl

@[simp] theorem setRoster_tags (d : Nat) (e : RosterEntry) (s : State) :
    (setRoster d e s).tags = s.tags := rfl

@[simp] theorem setRoster_notices (d : Nat) (e : RosterEntry) (s : State) :
    (setRoster d e s).notices = s.notices := rfl

@[simp] theorem setRoster_pending (d : Nat) (e : RosterEntry) (s : State) :
    (setRoster d e s).pending = s.pending := rfl

@[simp] theorem setTag_station (t : Nat) (v : Tag) (s : State) :
    (setTag t v s).station = s.station := rfl

@[simp] theorem setTag_replica (t : Nat) (v : Tag) (s : State) :
    (setTag t v s).replica = s.replica := rfl

@[simp] theorem setTag_apply (t : Nat) (v : Tag) (s : State) :
    (setTag t v s).apply = s.apply := rfl

@[simp] theorem setTag_watch (t : Nat) (v : Tag) (s : State) :
    (setTag t v s).watch = s.watch := rfl

@[simp] theorem setTag_train (t : Nat) (v : Tag) (s : State) :
    (setTag t v s).train = s.train := rfl

@[simp] theorem setTag_tx (t : Nat) (v : Tag) (s : State) :
    (setTag t v s).tx = s.tx := rfl

@[simp] theorem setTag_link (t : Nat) (v : Tag) (s : State) :
    (setTag t v s).link = s.link := rfl

@[simp] theorem setTag_port (t : Nat) (v : Tag) (s : State) :
    (setTag t v s).port = s.port := rfl

@[simp] theorem setTag_notices (t : Nat) (v : Tag) (s : State) :
    (setTag t v s).notices = s.notices := rfl

@[simp] theorem setTag_pending (t : Nat) (v : Tag) (s : State) :
    (setTag t v s).pending = s.pending := rfl

@[simp] theorem setWatch_station (c h : Nat) (w : Option Watch) (s : State) :
    (setWatch c h w s).station = s.station := rfl

@[simp] theorem setWatch_replica (c h : Nat) (w : Option Watch) (s : State) :
    (setWatch c h w s).replica = s.replica := rfl

@[simp] theorem setWatch_apply (c h : Nat) (w : Option Watch) (s : State) :
    (setWatch c h w s).apply = s.apply := rfl

@[simp] theorem setWatch_train (c h : Nat) (w : Option Watch) (s : State) :
    (setWatch c h w s).train = s.train := rfl

@[simp] theorem setWatch_tx (c h : Nat) (w : Option Watch) (s : State) :
    (setWatch c h w s).tx = s.tx := rfl

@[simp] theorem setWatch_link (c h : Nat) (w : Option Watch) (s : State) :
    (setWatch c h w s).link = s.link := rfl

@[simp] theorem setWatch_port (c h : Nat) (w : Option Watch) (s : State) :
    (setWatch c h w s).port = s.port := rfl

@[simp] theorem setWatch_tags (c h : Nat) (w : Option Watch) (s : State) :
    (setWatch c h w s).tags = s.tags := rfl

@[simp] theorem setWatch_notices (c h : Nat) (w : Option Watch) (s : State) :
    (setWatch c h w s).notices = s.notices := rfl

@[simp] theorem setWatch_pending (c h : Nat) (w : Option Watch) (s : State) :
    (setWatch c h w s).pending = s.pending := rfl

@[simp] theorem setEntries_station (es : List TxEntry) (s : State) :
    (setEntries es s).station = s.station := rfl

@[simp] theorem setEntries_replica (es : List TxEntry) (s : State) :
    (setEntries es s).replica = s.replica := rfl

@[simp] theorem setEntries_apply (es : List TxEntry) (s : State) :
    (setEntries es s).apply = s.apply := rfl

@[simp] theorem setEntries_watch (es : List TxEntry) (s : State) :
    (setEntries es s).watch = s.watch := rfl

@[simp] theorem setEntries_train (es : List TxEntry) (s : State) :
    (setEntries es s).train = s.train := rfl

@[simp] theorem setEntries_link (es : List TxEntry) (s : State) :
    (setEntries es s).link = s.link := rfl

@[simp] theorem setEntries_port (es : List TxEntry) (s : State) :
    (setEntries es s).port = s.port := rfl

@[simp] theorem setEntries_tags (es : List TxEntry) (s : State) :
    (setEntries es s).tags = s.tags := rfl

@[simp] theorem setEntries_notices (es : List TxEntry) (s : State) :
    (setEntries es s).notices = s.notices := rfl

@[simp] theorem setEntries_pending (es : List TxEntry) (s : State) :
    (setEntries es s).pending = s.pending := rfl

@[simp] theorem setState_replica (st : StationState) (s : State) :
    (setState st s).replica = s.replica := rfl

@[simp] theorem setState_apply (st : StationState) (s : State) :
    (setState st s).apply = s.apply := rfl

@[simp] theorem setState_watch (st : StationState) (s : State) :
    (setState st s).watch = s.watch := rfl

@[simp] theorem setState_train (st : StationState) (s : State) :
    (setState st s).train = s.train := rfl

@[simp] theorem setState_tx (st : StationState) (s : State) :
    (setState st s).tx = s.tx := rfl

@[simp] theorem setState_link (st : StationState) (s : State) :
    (setState st s).link = s.link := rfl

@[simp] theorem setState_port (st : StationState) (s : State) :
    (setState st s).port = s.port := rfl

@[simp] theorem setState_tags (st : StationState) (s : State) :
    (setState st s).tags = s.tags := rfl

@[simp] theorem setState_notices (st : StationState) (s : State) :
    (setState st s).notices = s.notices := rfl

@[simp] theorem setState_pending (st : StationState) (s : State) :
    (setState st s).pending = s.pending := rfl

@[simp] theorem push_station (n : Notice) (s : State) :
    (push n s).station = s.station := rfl

@[simp] theorem push_replica (n : Notice) (s : State) :
    (push n s).replica = s.replica := rfl

@[simp] theorem push_apply (n : Notice) (s : State) :
    (push n s).apply = s.apply := rfl

@[simp] theorem push_watch (n : Notice) (s : State) :
    (push n s).watch = s.watch := rfl

@[simp] theorem push_train (n : Notice) (s : State) :
    (push n s).train = s.train := rfl

@[simp] theorem push_tx (n : Notice) (s : State) :
    (push n s).tx = s.tx := rfl

@[simp] theorem push_link (n : Notice) (s : State) :
    (push n s).link = s.link := rfl

@[simp] theorem push_port (n : Notice) (s : State) :
    (push n s).port = s.port := rfl

@[simp] theorem push_tags (n : Notice) (s : State) :
    (push n s).tags = s.tags := rfl

@[simp] theorem push_pending (n : Notice) (s : State) :
    (push n s).pending = s.pending := rfl

@[simp] theorem enqueue_station (f : TxFrame) (b : Option Nat) (s : State) :
    (enqueue f b s).station = s.station := rfl

@[simp] theorem enqueue_replica (f : TxFrame) (b : Option Nat) (s : State) :
    (enqueue f b s).replica = s.replica := rfl

@[simp] theorem enqueue_apply (f : TxFrame) (b : Option Nat) (s : State) :
    (enqueue f b s).apply = s.apply := rfl

@[simp] theorem enqueue_watch (f : TxFrame) (b : Option Nat) (s : State) :
    (enqueue f b s).watch = s.watch := rfl

@[simp] theorem enqueue_train (f : TxFrame) (b : Option Nat) (s : State) :
    (enqueue f b s).train = s.train := rfl

@[simp] theorem enqueue_link (f : TxFrame) (b : Option Nat) (s : State) :
    (enqueue f b s).link = s.link := rfl

@[simp] theorem enqueue_port (f : TxFrame) (b : Option Nat) (s : State) :
    (enqueue f b s).port = s.port := rfl

@[simp] theorem enqueue_tags (f : TxFrame) (b : Option Nat) (s : State) :
    (enqueue f b s).tags = s.tags := rfl

@[simp] theorem enqueue_notices (f : TxFrame) (b : Option Nat) (s : State) :
    (enqueue f b s).notices = s.notices := rfl

@[simp] theorem enqueue_pending (f : TxFrame) (b : Option Nat) (s : State) :
    (enqueue f b s).pending = s.pending := rfl

@[simp] theorem clearRoster_station (s : State) :
    (clearRoster s).station = s.station := rfl

@[simp] theorem clearRoster_apply (s : State) :
    (clearRoster s).apply = s.apply := rfl

@[simp] theorem clearRoster_train (s : State) :
    (clearRoster s).train = s.train := rfl

@[simp] theorem clearRoster_tx (s : State) :
    (clearRoster s).tx = s.tx := rfl

@[simp] theorem clearRoster_link (s : State) :
    (clearRoster s).link = s.link := rfl

@[simp] theorem clearRoster_port (s : State) :
    (clearRoster s).port = s.port := rfl

@[simp] theorem clearRoster_tags (s : State) :
    (clearRoster s).tags = s.tags := rfl

@[simp] theorem clearRoster_notices (s : State) :
    (clearRoster s).notices = s.notices := rfl

@[simp] theorem clearRoster_pending (s : State) :
    (clearRoster s).pending = s.pending := rfl

@[simp] theorem idleBus_station (s : State) :
    (idleBus s).station = s.station := rfl

@[simp] theorem idleBus_replica (s : State) :
    (idleBus s).replica = s.replica := rfl

@[simp] theorem idleBus_apply (s : State) :
    (idleBus s).apply = s.apply := rfl

@[simp] theorem idleBus_tx (s : State) :
    (idleBus s).tx = s.tx := rfl

@[simp] theorem idleBus_port (s : State) :
    (idleBus s).port = s.port := rfl

@[simp] theorem idleBus_tags (s : State) :
    (idleBus s).tags = s.tags := rfl

@[simp] theorem idleBus_notices (s : State) :
    (idleBus s).notices = s.notices := rfl

@[simp] theorem idleBus_pending (s : State) :
    (idleBus s).pending = s.pending := rfl

@[simp] theorem withdrawBound_station (t : Nat) (s : State) :
    (withdrawBound t s).station = s.station := rfl

@[simp] theorem withdrawBound_replica (t : Nat) (s : State) :
    (withdrawBound t s).replica = s.replica := rfl

@[simp] theorem withdrawBound_apply (t : Nat) (s : State) :
    (withdrawBound t s).apply = s.apply := rfl

@[simp] theorem withdrawBound_watch (t : Nat) (s : State) :
    (withdrawBound t s).watch = s.watch := rfl

@[simp] theorem withdrawBound_train (t : Nat) (s : State) :
    (withdrawBound t s).train = s.train := rfl

@[simp] theorem withdrawBound_link (t : Nat) (s : State) :
    (withdrawBound t s).link = s.link := rfl

@[simp] theorem withdrawBound_port (t : Nat) (s : State) :
    (withdrawBound t s).port = s.port := rfl

@[simp] theorem withdrawBound_tags (t : Nat) (s : State) :
    (withdrawBound t s).tags = s.tags := rfl

@[simp] theorem withdrawBound_notices (t : Nat) (s : State) :
    (withdrawBound t s).notices = s.notices := rfl

@[simp] theorem withdrawBound_pending (t : Nat) (s : State) :
    (withdrawBound t s).pending = s.pending := rfl

@[simp] theorem withdrawReady_station (p : TxFrame → Bool) (s : State) :
    (withdrawReady p s).station = s.station := rfl

@[simp] theorem withdrawReady_replica (p : TxFrame → Bool) (s : State) :
    (withdrawReady p s).replica = s.replica := rfl

@[simp] theorem withdrawReady_apply (p : TxFrame → Bool) (s : State) :
    (withdrawReady p s).apply = s.apply := rfl

@[simp] theorem withdrawReady_watch (p : TxFrame → Bool) (s : State) :
    (withdrawReady p s).watch = s.watch := rfl

@[simp] theorem withdrawReady_train (p : TxFrame → Bool) (s : State) :
    (withdrawReady p s).train = s.train := rfl

@[simp] theorem withdrawReady_link (p : TxFrame → Bool) (s : State) :
    (withdrawReady p s).link = s.link := rfl

@[simp] theorem withdrawReady_port (p : TxFrame → Bool) (s : State) :
    (withdrawReady p s).port = s.port := rfl

@[simp] theorem withdrawReady_tags (p : TxFrame → Bool) (s : State) :
    (withdrawReady p s).tags = s.tags := rfl

@[simp] theorem withdrawReady_notices (p : TxFrame → Bool) (s : State) :
    (withdrawReady p s).notices = s.notices := rfl

@[simp] theorem withdrawReady_pending (p : TxFrame → Bool) (s : State) :
    (withdrawReady p s).pending = s.pending := rfl

@[simp] theorem withdrawLapse_station (c h : Nat) (s : State) :
    (withdrawLapse c h s).station = s.station := rfl

@[simp] theorem withdrawLapse_replica (c h : Nat) (s : State) :
    (withdrawLapse c h s).replica = s.replica := rfl

@[simp] theorem withdrawLapse_apply (c h : Nat) (s : State) :
    (withdrawLapse c h s).apply = s.apply := rfl

@[simp] theorem withdrawLapse_watch (c h : Nat) (s : State) :
    (withdrawLapse c h s).watch = s.watch := rfl

@[simp] theorem withdrawLapse_train (c h : Nat) (s : State) :
    (withdrawLapse c h s).train = s.train := rfl

@[simp] theorem withdrawLapse_link (c h : Nat) (s : State) :
    (withdrawLapse c h s).link = s.link := rfl

@[simp] theorem withdrawLapse_port (c h : Nat) (s : State) :
    (withdrawLapse c h s).port = s.port := rfl

@[simp] theorem withdrawLapse_tags (c h : Nat) (s : State) :
    (withdrawLapse c h s).tags = s.tags := rfl

@[simp] theorem withdrawLapse_notices (c h : Nat) (s : State) :
    (withdrawLapse c h s).notices = s.notices := rfl

@[simp] theorem withdrawLapse_pending (c h : Nat) (s : State) :
    (withdrawLapse c h s).pending = s.pending := rfl

@[simp] theorem removeWaiter_station (c h : Nat) (s : State) :
    (removeWaiter c h s).station = s.station := rfl

@[simp] theorem removeWaiter_apply (c h : Nat) (s : State) :
    (removeWaiter c h s).apply = s.apply := rfl

@[simp] theorem removeWaiter_watch (c h : Nat) (s : State) :
    (removeWaiter c h s).watch = s.watch := rfl

@[simp] theorem removeWaiter_train (c h : Nat) (s : State) :
    (removeWaiter c h s).train = s.train := rfl

@[simp] theorem removeWaiter_tx (c h : Nat) (s : State) :
    (removeWaiter c h s).tx = s.tx := rfl

@[simp] theorem removeWaiter_link (c h : Nat) (s : State) :
    (removeWaiter c h s).link = s.link := rfl

@[simp] theorem removeWaiter_port (c h : Nat) (s : State) :
    (removeWaiter c h s).port = s.port := rfl

@[simp] theorem removeWaiter_tags (c h : Nat) (s : State) :
    (removeWaiter c h s).tags = s.tags := rfl

@[simp] theorem removeWaiter_notices (c h : Nat) (s : State) :
    (removeWaiter c h s).notices = s.notices := rfl

@[simp] theorem removeWaiter_pending (c h : Nat) (s : State) :
    (removeWaiter c h s).pending = s.pending := rfl

@[simp] theorem clearTable_station (s : State) :
    (clearTable s).station = s.station := rfl

@[simp] theorem clearTable_apply (s : State) :
    (clearTable s).apply = s.apply := rfl

@[simp] theorem clearTable_link (s : State) :
    (clearTable s).link = s.link := rfl

@[simp] theorem clearTable_port (s : State) :
    (clearTable s).port = s.port := rfl

@[simp] theorem clearTable_notices (s : State) :
    (clearTable s).notices = s.notices := rfl

@[simp] theorem clearTable_pending (s : State) :
    (clearTable s).pending = s.pending := rfl

@[simp] theorem tagGranted_station (t n : Nat) (s : State) :
    (tagGranted t n s).station = s.station := rfl

@[simp] theorem tagGranted_replica (t n : Nat) (s : State) :
    (tagGranted t n s).replica = s.replica := rfl

@[simp] theorem tagGranted_apply (t n : Nat) (s : State) :
    (tagGranted t n s).apply = s.apply := rfl

@[simp] theorem tagGranted_watch (t n : Nat) (s : State) :
    (tagGranted t n s).watch = s.watch := rfl

@[simp] theorem tagGranted_train (t n : Nat) (s : State) :
    (tagGranted t n s).train = s.train := rfl

@[simp] theorem tagGranted_tx (t n : Nat) (s : State) :
    (tagGranted t n s).tx = s.tx := rfl

@[simp] theorem tagGranted_link (t n : Nat) (s : State) :
    (tagGranted t n s).link = s.link := rfl

@[simp] theorem tagGranted_port (t n : Nat) (s : State) :
    (tagGranted t n s).port = s.port := rfl

@[simp] theorem tagGranted_pending (t n : Nat) (s : State) :
    (tagGranted t n s).pending = s.pending := rfl

@[simp] theorem setState_state (st : StationState) (s : State) :
    (setState st s).station.state = st := rfl

@[simp] theorem setState_number (st : StationState) (s : State) :
    (setState st s).station.number = s.station.number := rfl

@[simp] theorem setState_setup (st : StationState) (s : State) :
    (setState st s).station.setup = s.station.setup := rfl

@[simp] theorem setState_resetLow (st : StationState) (s : State) :
    (setState st s).station.resetLow = s.station.resetLow := rfl

@[simp] theorem setClaim_roster (c : Nat) (r : ClaimRecord) (s : State) :
    (setClaim c r s).replica.roster = s.replica.roster := rfl

@[simp] theorem setRoster_claims (d : Nat) (e : RosterEntry) (s : State) :
    (setRoster d e s).replica.claims = s.replica.claims := rfl

@[simp] theorem setWatch_silence (c h : Nat) (w : Option Watch) (s : State) :
    (setWatch c h w s).watch.silence = s.watch.silence := rfl

@[simp] theorem setWatch_roll (c h : Nat) (w : Option Watch) (s : State) :
    (setWatch c h w s).watch.roll = s.watch.roll := rfl

@[simp] theorem setWatch_pause (c h : Nat) (w : Option Watch) (s : State) :
    (setWatch c h w s).watch.pause = s.watch.pause := rfl

@[simp] theorem setEntries_entries (es : List TxEntry) (s : State) :
    (setEntries es s).tx.entries = es := rfl

@[simp] theorem setEntries_fairGap (es : List TxEntry) (s : State) :
    (setEntries es s).tx.fairGap = s.tx.fairGap := rfl

@[simp] theorem enqueue_entries (f : TxFrame) (b : Option Nat) (s : State) :
    (enqueue f b s).tx.entries = s.tx.entries ++ [newEntry f b] := rfl

@[simp] theorem push_entries (n : Notice) (s : State) :
    (push n s).notices.entries = s.notices.entries ++ [n] := rfl

@[simp] theorem push_heldDrops (n : Notice) (s : State) :
    (push n s).notices.heldDrops = s.notices.heldDrops := rfl

@[simp] theorem idleBus_bus  (s : State) :
    (idleBus s).link.bus = .idle := rfl

@[simp] theorem idleBus_pause  (s : State) :
    (idleBus s).watch.pause = false := rfl

@[simp] theorem clearTable_claims  (s : State) :
    (clearTable s).replica.claims = [] := rfl

@[simp] theorem clearTable_roster  (s : State) :
    (clearTable s).replica.roster = s.replica.roster := rfl

@[simp] theorem clearTable_watches  (s : State) :
    (clearTable s).watch.watches = [] := rfl

@[simp] theorem clearRoster_roster  (s : State) :
    (clearRoster s).replica.roster = [] := rfl

@[simp] theorem leaveBus_replica  (s : State) :
    (leaveBus s).replica = ⟨[], []⟩ := rfl

@[simp] theorem leaveBus_apply  (s : State) :
    (leaveBus s).apply = ⟨[], none⟩ := rfl

@[simp] theorem leaveBus_tx  (s : State) :
    (leaveBus s).tx = ⟨[], false, none⟩ := rfl

@[simp] theorem leaveBus_train  (s : State) :
    (leaveBus s).train = ⟨none, false, [], .none, false⟩ := rfl

@[simp] theorem leaveBus_tags  (s : State) :
    (leaveBus s).tags = s.tags := rfl

@[simp] theorem leaveBus_notices  (s : State) :
    (leaveBus s).notices = s.notices := rfl

@[simp] theorem leaveBus_port  (s : State) :
    (leaveBus s).port = s.port := rfl

@[simp] theorem leaveBus_pending  (s : State) :
    (leaveBus s).pending = s.pending := rfl

/-! setSilence writes no other block either; it writes nothing for this station. -/

@[simp] theorem setSilence_station (d : Nat) (v : Option Nat) (s : State) :
    (setSilence d v s).station = s.station := by
  unfold setSilence; split <;> rfl

@[simp] theorem setSilence_replica (d : Nat) (v : Option Nat) (s : State) :
    (setSilence d v s).replica = s.replica := by
  unfold setSilence; split <;> rfl

@[simp] theorem setSilence_apply (d : Nat) (v : Option Nat) (s : State) :
    (setSilence d v s).apply = s.apply := by
  unfold setSilence; split <;> rfl

@[simp] theorem setSilence_train (d : Nat) (v : Option Nat) (s : State) :
    (setSilence d v s).train = s.train := by
  unfold setSilence; split <;> rfl

@[simp] theorem setSilence_tx (d : Nat) (v : Option Nat) (s : State) :
    (setSilence d v s).tx = s.tx := by
  unfold setSilence; split <;> rfl

@[simp] theorem setSilence_link (d : Nat) (v : Option Nat) (s : State) :
    (setSilence d v s).link = s.link := by
  unfold setSilence; split <;> rfl

@[simp] theorem setSilence_port (d : Nat) (v : Option Nat) (s : State) :
    (setSilence d v s).port = s.port := by
  unfold setSilence; split <;> rfl

@[simp] theorem setSilence_tags (d : Nat) (v : Option Nat) (s : State) :
    (setSilence d v s).tags = s.tags := by
  unfold setSilence; split <;> rfl

@[simp] theorem setSilence_notices (d : Nat) (v : Option Nat) (s : State) :
    (setSilence d v s).notices = s.notices := by
  unfold setSilence; split <;> rfl

@[simp] theorem setSilence_pending (d : Nat) (v : Option Nat) (s : State) :
    (setSilence d v s).pending = s.pending := by
  unfold setSilence; split <;> rfl

@[simp] theorem setSilence_watches (d : Nat) (v : Option Nat) (s : State) :
    (setSilence d v s).watch.watches = s.watch.watches := by
  unfold setSilence; split <;> rfl

theorem setSilence_self (v : Option Nat) (s : State) : setSilence s.station.number v s = s := by
  simp [setSilence]

/-- With RESETn high, `powered` adds nothing. -/
@[simp] theorem powered_high (f : State → State) {s : State} (h : s.station.resetLow = false) : powered f s = f s := by
  simp [powered, h]

/-- With RESETn low, nothing acts (R88). -/
@[simp] theorem powered_low (f : State → State) {s : State} (h : s.station.resetLow = true) : powered f s = s := by
  simp [powered, h]

end Sys2Proof.Machine
end

