-- ==== Sys2Proof/Laws/Frames.lean ====
section
/-! SUPPORT. What the composed operations leave as they were, block by block: one lemma per operation and block. -/

namespace Sys2Proof.Machine

/-- A fold keeps what each of its steps keeps. -/
theorem foldl_keeps {α β : Type} (g : State → β) (f : State → α → State) (h : ∀ s a, g (f s a) = g s) :
    ∀ (l : List α) (s : State), g (l.foldl f s) = g s
  | [], _ => rfl
  | a :: l, s => by rw [List.foldl_cons, foldl_keeps g f h l, h]

@[simp] theorem countDrop_station (s : State) :
    (countDrop s).station = s.station := by
  unfold countDrop; (repeat' split) <;> rfl

@[simp] theorem countDrop_replica (s : State) :
    (countDrop s).replica = s.replica := by
  unfold countDrop; (repeat' split) <;> rfl

@[simp] theorem countDrop_apply (s : State) :
    (countDrop s).apply = s.apply := by
  unfold countDrop; (repeat' split) <;> rfl

@[simp] theorem countDrop_watch (s : State) :
    (countDrop s).watch = s.watch := by
  unfold countDrop; (repeat' split) <;> rfl

@[simp] theorem countDrop_train (s : State) :
    (countDrop s).train = s.train := by
  unfold countDrop; (repeat' split) <;> rfl

@[simp] theorem countDrop_tx (s : State) :
    (countDrop s).tx = s.tx := by
  unfold countDrop; (repeat' split) <;> rfl

@[simp] theorem countDrop_link (s : State) :
    (countDrop s).link = s.link := by
  unfold countDrop; (repeat' split) <;> rfl

@[simp] theorem countDrop_port (s : State) :
    (countDrop s).port = s.port := by
  unfold countDrop; (repeat' split) <;> rfl

@[simp] theorem countDrop_tags (s : State) :
    (countDrop s).tags = s.tags := by
  unfold countDrop; (repeat' split) <;> rfl

@[simp] theorem countDrop_pending (s : State) :
    (countDrop s).pending = s.pending := by
  unfold countDrop; (repeat' split) <;> rfl

@[simp] theorem postUnreserved_station (n : Notice) (s : State) :
    (postUnreserved n s).station = s.station := by
  unfold postUnreserved; split <;> simp

@[simp] theorem postUnreserved_replica (n : Notice) (s : State) :
    (postUnreserved n s).replica = s.replica := by
  unfold postUnreserved; split <;> simp

@[simp] theorem postUnreserved_apply (n : Notice) (s : State) :
    (postUnreserved n s).apply = s.apply := by
  unfold postUnreserved; split <;> simp

@[simp] theorem postUnreserved_watch (n : Notice) (s : State) :
    (postUnreserved n s).watch = s.watch := by
  unfold postUnreserved; split <;> simp

@[simp] theorem postUnreserved_train (n : Notice) (s : State) :
    (postUnreserved n s).train = s.train := by
  unfold postUnreserved; split <;> simp

@[simp] theorem postUnreserved_tx (n : Notice) (s : State) :
    (postUnreserved n s).tx = s.tx := by
  unfold postUnreserved; split <;> simp

@[simp] theorem postUnreserved_link (n : Notice) (s : State) :
    (postUnreserved n s).link = s.link := by
  unfold postUnreserved; split <;> simp

@[simp] theorem postUnreserved_port (n : Notice) (s : State) :
    (postUnreserved n s).port = s.port := by
  unfold postUnreserved; split <;> simp

@[simp] theorem postUnreserved_tags (n : Notice) (s : State) :
    (postUnreserved n s).tags = s.tags := by
  unfold postUnreserved; split <;> simp

@[simp] theorem postUnreserved_pending (n : Notice) (s : State) :
    (postUnreserved n s).pending = s.pending := by
  unfold postUnreserved; split <;> simp

@[simp] theorem postPendingWarn_station (s : State) (t : Nat) :
    (postPendingWarn s t).station = s.station := by
  unfold postPendingWarn; split <;> simp

@[simp] theorem postPendingWarn_replica (s : State) (t : Nat) :
    (postPendingWarn s t).replica = s.replica := by
  unfold postPendingWarn; split <;> simp

@[simp] theorem postPendingWarn_apply (s : State) (t : Nat) :
    (postPendingWarn s t).apply = s.apply := by
  unfold postPendingWarn; split <;> simp

@[simp] theorem postPendingWarn_watch (s : State) (t : Nat) :
    (postPendingWarn s t).watch = s.watch := by
  unfold postPendingWarn; split <;> simp

@[simp] theorem postPendingWarn_train (s : State) (t : Nat) :
    (postPendingWarn s t).train = s.train := by
  unfold postPendingWarn; split <;> simp

@[simp] theorem postPendingWarn_tx (s : State) (t : Nat) :
    (postPendingWarn s t).tx = s.tx := by
  unfold postPendingWarn; split <;> simp

@[simp] theorem postPendingWarn_link (s : State) (t : Nat) :
    (postPendingWarn s t).link = s.link := by
  unfold postPendingWarn; split <;> simp

@[simp] theorem postPendingWarn_port (s : State) (t : Nat) :
    (postPendingWarn s t).port = s.port := by
  unfold postPendingWarn; split <;> simp

@[simp] theorem postPendingWarn_pending (s : State) (t : Nat) :
    (postPendingWarn s t).pending = s.pending := by
  unfold postPendingWarn; split <;> simp

@[simp] theorem postPendingWarns_station (s : State) : (postPendingWarns s).station = s.station :=
  foldl_keeps (·.station) postPendingWarn (fun s a => postPendingWarn_station s a) _ s

@[simp] theorem postPendingWarns_replica (s : State) : (postPendingWarns s).replica = s.replica :=
  foldl_keeps (·.replica) postPendingWarn (fun s a => postPendingWarn_replica s a) _ s

@[simp] theorem postPendingWarns_apply (s : State) : (postPendingWarns s).apply = s.apply :=
  foldl_keeps (·.apply) postPendingWarn (fun s a => postPendingWarn_apply s a) _ s

@[simp] theorem postPendingWarns_watch (s : State) : (postPendingWarns s).watch = s.watch :=
  foldl_keeps (·.watch) postPendingWarn (fun s a => postPendingWarn_watch s a) _ s

@[simp] theorem postPendingWarns_train (s : State) : (postPendingWarns s).train = s.train :=
  foldl_keeps (·.train) postPendingWarn (fun s a => postPendingWarn_train s a) _ s

@[simp] theorem postPendingWarns_tx (s : State) : (postPendingWarns s).tx = s.tx :=
  foldl_keeps (·.tx) postPendingWarn (fun s a => postPendingWarn_tx s a) _ s

@[simp] theorem postPendingWarns_link (s : State) : (postPendingWarns s).link = s.link :=
  foldl_keeps (·.link) postPendingWarn (fun s a => postPendingWarn_link s a) _ s

@[simp] theorem postPendingWarns_port (s : State) : (postPendingWarns s).port = s.port :=
  foldl_keeps (·.port) postPendingWarn (fun s a => postPendingWarn_port s a) _ s

@[simp] theorem postPendingWarns_pending (s : State) : (postPendingWarns s).pending = s.pending :=
  foldl_keeps (·.pending) postPendingWarn (fun s a => postPendingWarn_pending s a) _ s

@[simp] theorem postState_replica (st : StationState) (c : StateCause) (s : State) :
    (postState st c s).replica = s.replica := by
  simp [postState]

@[simp] theorem postState_apply (st : StationState) (c : StateCause) (s : State) :
    (postState st c s).apply = s.apply := by
  simp [postState]

@[simp] theorem postState_watch (st : StationState) (c : StateCause) (s : State) :
    (postState st c s).watch = s.watch := by
  simp [postState]

@[simp] theorem postState_train (st : StationState) (c : StateCause) (s : State) :
    (postState st c s).train = s.train := by
  simp [postState]

@[simp] theorem postState_tx (st : StationState) (c : StateCause) (s : State) :
    (postState st c s).tx = s.tx := by
  simp [postState]

@[simp] theorem postState_link (st : StationState) (c : StateCause) (s : State) :
    (postState st c s).link = s.link := by
  simp [postState]

@[simp] theorem postState_port (st : StationState) (c : StateCause) (s : State) :
    (postState st c s).port = s.port := by
  simp [postState]

@[simp] theorem postState_tags (st : StationState) (c : StateCause) (s : State) :
    (postState st c s).tags = s.tags := by
  simp [postState]

@[simp] theorem postState_pending (st : StationState) (c : StateCause) (s : State) :
    (postState st c s).pending = s.pending := by
  simp [postState]

@[simp] theorem moveTo_replica (st : StationState) (c : StateCause) (s : State) :
    (moveTo st c s).replica = s.replica := by
  simp [moveTo]

@[simp] theorem moveTo_apply (st : StationState) (c : StateCause) (s : State) :
    (moveTo st c s).apply = s.apply := by
  simp [moveTo]

@[simp] theorem moveTo_watch (st : StationState) (c : StateCause) (s : State) :
    (moveTo st c s).watch = s.watch := by
  simp [moveTo]

@[simp] theorem moveTo_train (st : StationState) (c : StateCause) (s : State) :
    (moveTo st c s).train = s.train := by
  simp [moveTo]

@[simp] theorem moveTo_tx (st : StationState) (c : StateCause) (s : State) :
    (moveTo st c s).tx = s.tx := by
  simp [moveTo]

@[simp] theorem moveTo_link (st : StationState) (c : StateCause) (s : State) :
    (moveTo st c s).link = s.link := by
  simp [moveTo]

@[simp] theorem moveTo_port (st : StationState) (c : StateCause) (s : State) :
    (moveTo st c s).port = s.port := by
  simp [moveTo]

@[simp] theorem moveTo_tags (st : StationState) (c : StateCause) (s : State) :
    (moveTo st c s).tags = s.tags := by
  simp [moveTo]

@[simp] theorem moveTo_pending (st : StationState) (c : StateCause) (s : State) :
    (moveTo st c s).pending = s.pending := by
  simp [moveTo]

@[simp] theorem moveTo_state (st : StationState) (c : StateCause) (s : State) :
    (moveTo st c s).station.state = st := by
  simp [moveTo, postState]

@[simp] theorem moveTo_lastCause (st : StationState) (c : StateCause) (s : State) :
    (moveTo st c s).station.lastCause = c := by
  simp [moveTo, postState]

@[simp] theorem moveTo_number (st : StationState) (c : StateCause) (s : State) :
    (moveTo st c s).station.number = s.station.number := by
  simp [moveTo, postState]

@[simp] theorem endTag_station (t : Nat) (n : Notice) (s : State) :
    (endTag t n s).station = s.station := by
  simp [endTag]

@[simp] theorem endTag_replica (t : Nat) (n : Notice) (s : State) :
    (endTag t n s).replica = s.replica := by
  simp [endTag]

@[simp] theorem endTag_apply (t : Nat) (n : Notice) (s : State) :
    (endTag t n s).apply = s.apply := by
  simp [endTag]

@[simp] theorem endTag_watch (t : Nat) (n : Notice) (s : State) :
    (endTag t n s).watch = s.watch := by
  simp [endTag]

@[simp] theorem endTag_train (t : Nat) (n : Notice) (s : State) :
    (endTag t n s).train = s.train := by
  simp [endTag]

@[simp] theorem endTag_link (t : Nat) (n : Notice) (s : State) :
    (endTag t n s).link = s.link := by
  simp [endTag]

@[simp] theorem endTag_port (t : Nat) (n : Notice) (s : State) :
    (endTag t n s).port = s.port := by
  simp [endTag]

@[simp] theorem endTag_pending (t : Nat) (n : Notice) (s : State) :
    (endTag t n s).pending = s.pending := by
  simp [endTag]

@[simp] theorem endTagIfUsed_station (c : TagCause) (s : State) (t : Nat) :
    (endTagIfUsed c s t).station = s.station := by
  unfold endTagIfUsed; split <;> simp

@[simp] theorem endTags_station (c : TagCause) (s : State) : (endTags c s).station = s.station :=
  foldl_keeps (·.station) (endTagIfUsed c) (fun s a => endTagIfUsed_station c s a) _ s

@[simp] theorem endTagIfUsed_replica (c : TagCause) (s : State) (t : Nat) :
    (endTagIfUsed c s t).replica = s.replica := by
  unfold endTagIfUsed; split <;> simp

@[simp] theorem endTags_replica (c : TagCause) (s : State) : (endTags c s).replica = s.replica :=
  foldl_keeps (·.replica) (endTagIfUsed c) (fun s a => endTagIfUsed_replica c s a) _ s

@[simp] theorem endTagIfUsed_apply (c : TagCause) (s : State) (t : Nat) :
    (endTagIfUsed c s t).apply = s.apply := by
  unfold endTagIfUsed; split <;> simp

@[simp] theorem endTags_apply (c : TagCause) (s : State) : (endTags c s).apply = s.apply :=
  foldl_keeps (·.apply) (endTagIfUsed c) (fun s a => endTagIfUsed_apply c s a) _ s

@[simp] theorem endTagIfUsed_watch (c : TagCause) (s : State) (t : Nat) :
    (endTagIfUsed c s t).watch = s.watch := by
  unfold endTagIfUsed; split <;> simp

@[simp] theorem endTags_watch (c : TagCause) (s : State) : (endTags c s).watch = s.watch :=
  foldl_keeps (·.watch) (endTagIfUsed c) (fun s a => endTagIfUsed_watch c s a) _ s

@[simp] theorem endTagIfUsed_train (c : TagCause) (s : State) (t : Nat) :
    (endTagIfUsed c s t).train = s.train := by
  unfold endTagIfUsed; split <;> simp

@[simp] theorem endTags_train (c : TagCause) (s : State) : (endTags c s).train = s.train :=
  foldl_keeps (·.train) (endTagIfUsed c) (fun s a => endTagIfUsed_train c s a) _ s

@[simp] theorem endTagIfUsed_link (c : TagCause) (s : State) (t : Nat) :
    (endTagIfUsed c s t).link = s.link := by
  unfold endTagIfUsed; split <;> simp

@[simp] theorem endTags_link (c : TagCause) (s : State) : (endTags c s).link = s.link :=
  foldl_keeps (·.link) (endTagIfUsed c) (fun s a => endTagIfUsed_link c s a) _ s

@[simp] theorem endTagIfUsed_port (c : TagCause) (s : State) (t : Nat) :
    (endTagIfUsed c s t).port = s.port := by
  unfold endTagIfUsed; split <;> simp

@[simp] theorem endTags_port (c : TagCause) (s : State) : (endTags c s).port = s.port :=
  foldl_keeps (·.port) (endTagIfUsed c) (fun s a => endTagIfUsed_port c s a) _ s

@[simp] theorem endTagIfUsed_pending (c : TagCause) (s : State) (t : Nat) :
    (endTagIfUsed c s t).pending = s.pending := by
  unfold endTagIfUsed; split <;> simp

@[simp] theorem endTags_pending (c : TagCause) (s : State) : (endTags c s).pending = s.pending :=
  foldl_keeps (·.pending) (endTagIfUsed c) (fun s a => endTagIfUsed_pending c s a) _ s

@[simp] theorem latchWarn_station (c : Nat) (s : State) :
    (latchWarn c s).station = s.station := by
  unfold latchWarn; split <;> simp

@[simp] theorem latchWarn_replica (c : Nat) (s : State) :
    (latchWarn c s).replica = s.replica := by
  unfold latchWarn; split <;> simp

@[simp] theorem latchWarn_apply (c : Nat) (s : State) :
    (latchWarn c s).apply = s.apply := by
  unfold latchWarn; split <;> simp

@[simp] theorem latchWarn_watch (c : Nat) (s : State) :
    (latchWarn c s).watch = s.watch := by
  unfold latchWarn; split <;> simp

@[simp] theorem latchWarn_train (c : Nat) (s : State) :
    (latchWarn c s).train = s.train := by
  unfold latchWarn; split <;> simp

@[simp] theorem latchWarn_tx (c : Nat) (s : State) :
    (latchWarn c s).tx = s.tx := by
  unfold latchWarn; split <;> simp

@[simp] theorem latchWarn_link (c : Nat) (s : State) :
    (latchWarn c s).link = s.link := by
  unfold latchWarn; split <;> simp

@[simp] theorem latchWarn_port (c : Nat) (s : State) :
    (latchWarn c s).port = s.port := by
  unfold latchWarn; split <;> simp

@[simp] theorem latchWarn_pending (c : Nat) (s : State) :
    (latchWarn c s).pending = s.pending := by
  unfold latchWarn; split <;> simp

@[simp] theorem clearLatch_station (c : Nat) (s : State) :
    (clearLatch c s).station = s.station := by
  unfold clearLatch; split <;> simp

@[simp] theorem clearLatch_replica (c : Nat) (s : State) :
    (clearLatch c s).replica = s.replica := by
  unfold clearLatch; split <;> simp

@[simp] theorem clearLatch_apply (c : Nat) (s : State) :
    (clearLatch c s).apply = s.apply := by
  unfold clearLatch; split <;> simp

@[simp] theorem clearLatch_watch (c : Nat) (s : State) :
    (clearLatch c s).watch = s.watch := by
  unfold clearLatch; split <;> simp

@[simp] theorem clearLatch_train (c : Nat) (s : State) :
    (clearLatch c s).train = s.train := by
  unfold clearLatch; split <;> simp

@[simp] theorem clearLatch_tx (c : Nat) (s : State) :
    (clearLatch c s).tx = s.tx := by
  unfold clearLatch; split <;> simp

@[simp] theorem clearLatch_link (c : Nat) (s : State) :
    (clearLatch c s).link = s.link := by
  unfold clearLatch; split <;> simp

@[simp] theorem clearLatch_port (c : Nat) (s : State) :
    (clearLatch c s).port = s.port := by
  unfold clearLatch; split <;> simp

@[simp] theorem clearLatch_notices (c : Nat) (s : State) :
    (clearLatch c s).notices = s.notices := by
  unfold clearLatch; split <;> simp

@[simp] theorem clearLatch_pending (c : Nat) (s : State) :
    (clearLatch c s).pending = s.pending := by
  unfold clearLatch; split <;> simp

@[simp] theorem startWatchAt_station (c h l n v : Nat) (s : State) :
    (startWatchAt c h l n v s).station = s.station := by
  unfold startWatchAt; split <;> simp

@[simp] theorem startWatchAt_replica (c h l n v : Nat) (s : State) :
    (startWatchAt c h l n v s).replica = s.replica := by
  unfold startWatchAt; split <;> simp

@[simp] theorem startWatchAt_apply (c h l n v : Nat) (s : State) :
    (startWatchAt c h l n v s).apply = s.apply := by
  unfold startWatchAt; split <;> simp

@[simp] theorem startWatchAt_train (c h l n v : Nat) (s : State) :
    (startWatchAt c h l n v s).train = s.train := by
  unfold startWatchAt; split <;> simp

@[simp] theorem startWatchAt_tx (c h l n v : Nat) (s : State) :
    (startWatchAt c h l n v s).tx = s.tx := by
  unfold startWatchAt; split <;> simp

@[simp] theorem startWatchAt_link (c h l n v : Nat) (s : State) :
    (startWatchAt c h l n v s).link = s.link := by
  unfold startWatchAt; split <;> simp

@[simp] theorem startWatchAt_port (c h l n v : Nat) (s : State) :
    (startWatchAt c h l n v s).port = s.port := by
  unfold startWatchAt; split <;> simp

@[simp] theorem startWatchAt_pending (c h l n v : Nat) (s : State) :
    (startWatchAt c h l n v s).pending = s.pending := by
  unfold startWatchAt; split <;> simp

@[simp] theorem startWatch_station (c h l n : Nat) (s : State) :
    (startWatch c h l n s).station = s.station := by
  simp [startWatch]

@[simp] theorem startWatch_replica (c h l n : Nat) (s : State) :
    (startWatch c h l n s).replica = s.replica := by
  simp [startWatch]

@[simp] theorem startWatch_apply (c h l n : Nat) (s : State) :
    (startWatch c h l n s).apply = s.apply := by
  simp [startWatch]

@[simp] theorem startWatch_train (c h l n : Nat) (s : State) :
    (startWatch c h l n s).train = s.train := by
  simp [startWatch]

@[simp] theorem startWatch_tx (c h l n : Nat) (s : State) :
    (startWatch c h l n s).tx = s.tx := by
  simp [startWatch]

@[simp] theorem startWatch_link (c h l n : Nat) (s : State) :
    (startWatch c h l n s).link = s.link := by
  simp [startWatch]

@[simp] theorem startWatch_port (c h l n : Nat) (s : State) :
    (startWatch c h l n s).port = s.port := by
  simp [startWatch]

@[simp] theorem startWatch_pending (c h l n : Nat) (s : State) :
    (startWatch c h l n s).pending = s.pending := by
  simp [startWatch]

@[simp] theorem removeWatch_station (c h : Nat) (s : State) :
    (removeWatch c h s).station = s.station := by
  unfold removeWatch; simp only; split <;> simp

@[simp] theorem removeWatch_replica (c h : Nat) (s : State) :
    (removeWatch c h s).replica = s.replica := by
  unfold removeWatch; simp only; split <;> simp

@[simp] theorem removeWatch_apply (c h : Nat) (s : State) :
    (removeWatch c h s).apply = s.apply := by
  unfold removeWatch; simp only; split <;> simp

@[simp] theorem removeWatch_train (c h : Nat) (s : State) :
    (removeWatch c h s).train = s.train := by
  unfold removeWatch; simp only; split <;> simp

@[simp] theorem removeWatch_tx (c h : Nat) (s : State) :
    (removeWatch c h s).tx = s.tx := by
  unfold removeWatch; simp only; split <;> simp

@[simp] theorem removeWatch_link (c h : Nat) (s : State) :
    (removeWatch c h s).link = s.link := by
  unfold removeWatch; simp only; split <;> simp

@[simp] theorem removeWatch_port (c h : Nat) (s : State) :
    (removeWatch c h s).port = s.port := by
  unfold removeWatch; simp only; split <;> simp

@[simp] theorem removeWatch_notices (c h : Nat) (s : State) :
    (removeWatch c h s).notices = s.notices := by
  unfold removeWatch; simp only; split <;> simp

@[simp] theorem removeWatch_pending (c h : Nat) (s : State) :
    (removeWatch c h s).pending = s.pending := by
  unfold removeWatch; simp only; split <;> simp

@[simp] theorem grant_station (c : Nat) (w : Waiter) (s : State) :
    (grant c w s).station = s.station := by
  simp [grant]

@[simp] theorem grant_apply (c : Nat) (w : Waiter) (s : State) :
    (grant c w s).apply = s.apply := by
  simp [grant]

@[simp] theorem grant_train (c : Nat) (w : Waiter) (s : State) :
    (grant c w s).train = s.train := by
  simp [grant]

@[simp] theorem grant_tx (c : Nat) (w : Waiter) (s : State) :
    (grant c w s).tx = s.tx := by
  simp [grant]

@[simp] theorem grant_link (c : Nat) (w : Waiter) (s : State) :
    (grant c w s).link = s.link := by
  simp [grant]

@[simp] theorem grant_port (c : Nat) (w : Waiter) (s : State) :
    (grant c w s).port = s.port := by
  simp [grant]

@[simp] theorem grant_pending (c : Nat) (w : Waiter) (s : State) :
    (grant c w s).pending = s.pending := by
  simp [grant]

@[simp] theorem promoteHead_station (c : Nat) (w : Waiter) (rest : List Waiter) (s : State) :
    (promoteHead c w rest s).station = s.station := by
  unfold promoteHead; simp only; (repeat' split) <;> simp

@[simp] theorem promoteHead_apply (c : Nat) (w : Waiter) (rest : List Waiter) (s : State) :
    (promoteHead c w rest s).apply = s.apply := by
  unfold promoteHead; simp only; (repeat' split) <;> simp

@[simp] theorem promoteHead_train (c : Nat) (w : Waiter) (rest : List Waiter) (s : State) :
    (promoteHead c w rest s).train = s.train := by
  unfold promoteHead; simp only; (repeat' split) <;> simp

@[simp] theorem promoteHead_tx (c : Nat) (w : Waiter) (rest : List Waiter) (s : State) :
    (promoteHead c w rest s).tx = s.tx := by
  unfold promoteHead; simp only; (repeat' split) <;> simp

@[simp] theorem promoteHead_link (c : Nat) (w : Waiter) (rest : List Waiter) (s : State) :
    (promoteHead c w rest s).link = s.link := by
  unfold promoteHead; simp only; (repeat' split) <;> simp

@[simp] theorem promoteHead_port (c : Nat) (w : Waiter) (rest : List Waiter) (s : State) :
    (promoteHead c w rest s).port = s.port := by
  unfold promoteHead; simp only; (repeat' split) <;> simp

@[simp] theorem promoteHead_pending (c : Nat) (w : Waiter) (rest : List Waiter) (s : State) :
    (promoteHead c w rest s).pending = s.pending := by
  unfold promoteHead; simp only; (repeat' split) <;> simp

@[simp] theorem promoteQueue_station (c : Nat) : ∀ (q : List Waiter) (s : State),
    (promoteQueue c q s).station = s.station
  | [], _ => rfl
  | w :: rest, s => by
    unfold promoteQueue; split
    · rw [promoteQueue_station c rest]; simp
    · rfl

@[simp] theorem promoteQueue_apply (c : Nat) : ∀ (q : List Waiter) (s : State),
    (promoteQueue c q s).apply = s.apply
  | [], _ => rfl
  | w :: rest, s => by
    unfold promoteQueue; split
    · rw [promoteQueue_apply c rest]; simp
    · rfl

@[simp] theorem promoteQueue_train (c : Nat) : ∀ (q : List Waiter) (s : State),
    (promoteQueue c q s).train = s.train
  | [], _ => rfl
  | w :: rest, s => by
    unfold promoteQueue; split
    · rw [promoteQueue_train c rest]; simp
    · rfl

@[simp] theorem promoteQueue_tx (c : Nat) : ∀ (q : List Waiter) (s : State),
    (promoteQueue c q s).tx = s.tx
  | [], _ => rfl
  | w :: rest, s => by
    unfold promoteQueue; split
    · rw [promoteQueue_tx c rest]; simp
    · rfl

@[simp] theorem promoteQueue_link (c : Nat) : ∀ (q : List Waiter) (s : State),
    (promoteQueue c q s).link = s.link
  | [], _ => rfl
  | w :: rest, s => by
    unfold promoteQueue; split
    · rw [promoteQueue_link c rest]; simp
    · rfl

@[simp] theorem promoteQueue_port (c : Nat) : ∀ (q : List Waiter) (s : State),
    (promoteQueue c q s).port = s.port
  | [], _ => rfl
  | w :: rest, s => by
    unfold promoteQueue; split
    · rw [promoteQueue_port c rest]; simp
    · rfl

@[simp] theorem promoteQueue_pending (c : Nat) : ∀ (q : List Waiter) (s : State),
    (promoteQueue c q s).pending = s.pending
  | [], _ => rfl
  | w :: rest, s => by
    unfold promoteQueue; split
    · rw [promoteQueue_pending c rest]; simp
    · rfl

@[simp] theorem freeSerial_station (c : Nat) (s : State) :
    (freeSerial c s).station = s.station := by
  unfold freeSerial; split <;> simp

@[simp] theorem freeSerial_apply (c : Nat) (s : State) :
    (freeSerial c s).apply = s.apply := by
  unfold freeSerial; split <;> simp

@[simp] theorem freeSerial_watch (c : Nat) (s : State) :
    (freeSerial c s).watch = s.watch := by
  unfold freeSerial; split <;> simp

@[simp] theorem freeSerial_train (c : Nat) (s : State) :
    (freeSerial c s).train = s.train := by
  unfold freeSerial; split <;> simp

@[simp] theorem freeSerial_tx (c : Nat) (s : State) :
    (freeSerial c s).tx = s.tx := by
  unfold freeSerial; split <;> simp

@[simp] theorem freeSerial_link (c : Nat) (s : State) :
    (freeSerial c s).link = s.link := by
  unfold freeSerial; split <;> simp

@[simp] theorem freeSerial_port (c : Nat) (s : State) :
    (freeSerial c s).port = s.port := by
  unfold freeSerial; split <;> simp

@[simp] theorem freeSerial_tags (c : Nat) (s : State) :
    (freeSerial c s).tags = s.tags := by
  unfold freeSerial; split <;> simp

@[simp] theorem freeSerial_notices (c : Nat) (s : State) :
    (freeSerial c s).notices = s.notices := by
  unfold freeSerial; split <;> simp

@[simp] theorem freeSerial_pending (c : Nat) (s : State) :
    (freeSerial c s).pending = s.pending := by
  unfold freeSerial; split <;> simp

@[simp] theorem promote_station (c : Nat) (s : State) :
    (promote c s).station = s.station := by
  simp [promote]

@[simp] theorem promote_apply (c : Nat) (s : State) :
    (promote c s).apply = s.apply := by
  simp [promote]

@[simp] theorem promote_train (c : Nat) (s : State) :
    (promote c s).train = s.train := by
  simp [promote]

@[simp] theorem promote_tx (c : Nat) (s : State) :
    (promote c s).tx = s.tx := by
  simp [promote]

@[simp] theorem promote_link (c : Nat) (s : State) :
    (promote c s).link = s.link := by
  simp [promote]

@[simp] theorem promote_port (c : Nat) (s : State) :
    (promote c s).port = s.port := by
  simp [promote]

@[simp] theorem promote_pending (c : Nat) (s : State) :
    (promote c s).pending = s.pending := by
  simp [promote]

@[simp] theorem extendHold_station (c h l : Nat) (s : State) :
    (extendHold c h l s).station = s.station := by
  unfold extendHold; simp only; split <;> simp

@[simp] theorem extendHold_apply (c h l : Nat) (s : State) :
    (extendHold c h l s).apply = s.apply := by
  unfold extendHold; simp only; split <;> simp

@[simp] theorem extendHold_train (c h l : Nat) (s : State) :
    (extendHold c h l s).train = s.train := by
  unfold extendHold; simp only; split <;> simp

@[simp] theorem extendHold_link (c h l : Nat) (s : State) :
    (extendHold c h l s).link = s.link := by
  unfold extendHold; simp only; split <;> simp

@[simp] theorem extendHold_port (c h l : Nat) (s : State) :
    (extendHold c h l s).port = s.port := by
  unfold extendHold; simp only; split <;> simp

@[simp] theorem extendHold_pending (c h l : Nat) (s : State) :
    (extendHold c h l s).pending = s.pending := by
  unfold extendHold; simp only; split <;> simp

@[simp] theorem removeHold_station (c h : Nat) (s : State) :
    (removeHold c h s).station = s.station := by
  simp [removeHold]

@[simp] theorem removeHold_apply (c h : Nat) (s : State) :
    (removeHold c h s).apply = s.apply := by
  simp [removeHold]

@[simp] theorem removeHold_train (c h : Nat) (s : State) :
    (removeHold c h s).train = s.train := by
  simp [removeHold]

@[simp] theorem removeHold_link (c h : Nat) (s : State) :
    (removeHold c h s).link = s.link := by
  simp [removeHold]

@[simp] theorem removeHold_port (c h : Nat) (s : State) :
    (removeHold c h s).port = s.port := by
  simp [removeHold]

@[simp] theorem removeHold_notices (c h : Nat) (s : State) :
    (removeHold c h s).notices = s.notices := by
  simp [removeHold]

@[simp] theorem removeHold_pending (c h : Nat) (s : State) :
    (removeHold c h s).pending = s.pending := by
  simp [removeHold]

@[simp] theorem purgeClaim_station (d : Nat) (s : State) (c : Nat) : (purgeClaim d s c).station = s.station := by
  unfold purgeClaim; simp only; (repeat' split) <;> simp

@[simp] theorem purge_station (d : Nat) (s : State) : (purge d s).station = s.station :=
  foldl_keeps (·.station) (purgeClaim d) (fun s a => purgeClaim_station d s a) _ s

@[simp] theorem purgeClaim_apply (d : Nat) (s : State) (c : Nat) : (purgeClaim d s c).apply = s.apply := by
  unfold purgeClaim; simp only; (repeat' split) <;> simp

@[simp] theorem purge_apply (d : Nat) (s : State) : (purge d s).apply = s.apply :=
  foldl_keeps (·.apply) (purgeClaim d) (fun s a => purgeClaim_apply d s a) _ s

@[simp] theorem purgeClaim_train (d : Nat) (s : State) (c : Nat) : (purgeClaim d s c).train = s.train := by
  unfold purgeClaim; simp only; (repeat' split) <;> simp

@[simp] theorem purge_train (d : Nat) (s : State) : (purge d s).train = s.train :=
  foldl_keeps (·.train) (purgeClaim d) (fun s a => purgeClaim_train d s a) _ s

@[simp] theorem purgeClaim_link (d : Nat) (s : State) (c : Nat) : (purgeClaim d s c).link = s.link := by
  unfold purgeClaim; simp only; (repeat' split) <;> simp

@[simp] theorem purge_link (d : Nat) (s : State) : (purge d s).link = s.link :=
  foldl_keeps (·.link) (purgeClaim d) (fun s a => purgeClaim_link d s a) _ s

@[simp] theorem purgeClaim_port (d : Nat) (s : State) (c : Nat) : (purgeClaim d s c).port = s.port := by
  unfold purgeClaim; simp only; (repeat' split) <;> simp

@[simp] theorem purge_port (d : Nat) (s : State) : (purge d s).port = s.port :=
  foldl_keeps (·.port) (purgeClaim d) (fun s a => purgeClaim_port d s a) _ s

@[simp] theorem purgeClaim_pending (d : Nat) (s : State) (c : Nat) : (purgeClaim d s c).pending = s.pending := by
  unfold purgeClaim; simp only; (repeat' split) <;> simp

@[simp] theorem purge_pending (d : Nat) (s : State) : (purge d s).pending = s.pending :=
  foldl_keeps (·.pending) (purgeClaim d) (fun s a => purgeClaim_pending d s a) _ s

@[simp] theorem queueInternal_station (s : State) (f : TxFrame) :
    (queueInternal s f).station = s.station := by
  unfold queueInternal; split <;> simp

@[simp] theorem queueInternal_replica (s : State) (f : TxFrame) :
    (queueInternal s f).replica = s.replica := by
  unfold queueInternal; split <;> simp

@[simp] theorem queueInternal_apply (s : State) (f : TxFrame) :
    (queueInternal s f).apply = s.apply := by
  unfold queueInternal; split <;> simp

@[simp] theorem queueInternal_watch (s : State) (f : TxFrame) :
    (queueInternal s f).watch = s.watch := by
  unfold queueInternal; split <;> simp

@[simp] theorem queueInternal_train (s : State) (f : TxFrame) :
    (queueInternal s f).train = s.train := by
  unfold queueInternal; split <;> simp

@[simp] theorem queueInternal_link (s : State) (f : TxFrame) :
    (queueInternal s f).link = s.link := by
  unfold queueInternal; split <;> simp

@[simp] theorem queueInternal_port (s : State) (f : TxFrame) :
    (queueInternal s f).port = s.port := by
  unfold queueInternal; split <;> simp

@[simp] theorem queueInternal_tags (s : State) (f : TxFrame) :
    (queueInternal s f).tags = s.tags := by
  unfold queueInternal; split <;> simp

@[simp] theorem queueInternal_notices (s : State) (f : TxFrame) :
    (queueInternal s f).notices = s.notices := by
  unfold queueInternal; split <;> simp

@[simp] theorem queueInternal_pending (s : State) (f : TxFrame) :
    (queueInternal s f).pending = s.pending := by
  unfold queueInternal; split <;> simp

@[simp] theorem fillOwed_station (s : State) : (fillOwed s).station = s.station :=
  foldl_keeps (·.station) queueInternal (fun s a => queueInternal_station s a) _ s

@[simp] theorem fillOwed_replica (s : State) : (fillOwed s).replica = s.replica :=
  foldl_keeps (·.replica) queueInternal (fun s a => queueInternal_replica s a) _ s

@[simp] theorem fillOwed_apply (s : State) : (fillOwed s).apply = s.apply :=
  foldl_keeps (·.apply) queueInternal (fun s a => queueInternal_apply s a) _ s

@[simp] theorem fillOwed_watch (s : State) : (fillOwed s).watch = s.watch :=
  foldl_keeps (·.watch) queueInternal (fun s a => queueInternal_watch s a) _ s

@[simp] theorem fillOwed_train (s : State) : (fillOwed s).train = s.train :=
  foldl_keeps (·.train) queueInternal (fun s a => queueInternal_train s a) _ s

@[simp] theorem fillOwed_link (s : State) : (fillOwed s).link = s.link :=
  foldl_keeps (·.link) queueInternal (fun s a => queueInternal_link s a) _ s

@[simp] theorem fillOwed_port (s : State) : (fillOwed s).port = s.port :=
  foldl_keeps (·.port) queueInternal (fun s a => queueInternal_port s a) _ s

@[simp] theorem fillOwed_tags (s : State) : (fillOwed s).tags = s.tags :=
  foldl_keeps (·.tags) queueInternal (fun s a => queueInternal_tags s a) _ s

@[simp] theorem fillOwed_notices (s : State) : (fillOwed s).notices = s.notices :=
  foldl_keeps (·.notices) queueInternal (fun s a => queueInternal_notices s a) _ s

@[simp] theorem fillOwed_pending (s : State) : (fillOwed s).pending = s.pending :=
  foldl_keeps (·.pending) queueInternal (fun s a => queueInternal_pending s a) _ s

end Sys2Proof.Machine
end

