-- ==== Sys2Proof/Laws/Tables.lean ====
section
/-! SUPPORT. The laws of a finite table: a read after a write gives the value written, a write leaves every other
number alone, and every table operation keeps the table's form. -/

namespace Sys2Proof.Machine

variable {α : Type}

/-! ## Reading -/

/-- A number that is not listed reads as the default. -/
theorem Table.get_of_unlisted (d : α) : ∀ (t : Table α) (k : Nat), (∀ p ∈ t, p.1 ≠ k) → Table.get d t k = d
  | [], _, _ => rfl
  | (j, v) :: t, k, h => by
    have hj : j ≠ k := h (j, v) List.mem_cons_self
    simp [Table.get, hj, Table.get_of_unlisted d t k (fun p hp => h p (List.mem_cons_of_mem _ hp))]

/-- A number that reads as something else than the default is listed with that value. -/
theorem Table.mem_of_get_ne (d : α) : ∀ (t : Table α) (k : Nat), Table.get d t k ≠ d → (k, Table.get d t k) ∈ t
  | [], _, h => absurd rfl h
  | (j, v) :: t, k, h => by
    by_cases hj : j = k
    · subst hj; simp [Table.get]
    · simp only [Table.get, if_neg hj] at h ⊢
      exact List.mem_cons_of_mem _ (Table.mem_of_get_ne d t k h)

/-- What is listed after an erasure was listed, under another number. -/
theorem Table.mem_erase : ∀ (t : Table α) (k : Nat) (p : Nat × α), p ∈ Table.erase t k ↔ p ∈ t ∧ p.1 ≠ k
  | [], _, _ => by simp [Table.erase]
  | (j, v) :: t, k, p => by
    by_cases hj : j = k
    · subst hj
      simp only [Table.erase, if_true, Table.mem_erase t j p, List.mem_cons]
      constructor
      · rintro ⟨h, hp⟩; exact ⟨.inr h, hp⟩
      · rintro ⟨h | h, hp⟩
        · exact absurd (by rw [h]) hp
        · exact ⟨h, hp⟩
    · simp only [Table.erase, if_neg hj, List.mem_cons, Table.mem_erase t k p]
      constructor
      · rintro (h | ⟨h, hp⟩)
        · exact ⟨.inl h, by rw [h]; exact hj⟩
        · exact ⟨.inr h, hp⟩
      · rintro ⟨h | h, hp⟩
        · exact .inl h
        · exact .inr ⟨h, hp⟩

/-- What is listed after an insertion. -/
theorem Table.mem_insert : ∀ (t : Table α) (k : Nat) (v : α) (p : Nat × α),
    p ∈ Table.insert t k v ↔ p = (k, v) ∨ p ∈ t
  | [], _, _, _ => by simp [Table.insert]
  | (j, w) :: t, k, v, p => by
    unfold Table.insert
    split
    · simp
    · simp only [List.mem_cons, Table.mem_insert t k v p]
      constructor
      · rintro (h | h | h)
        · exact .inr (.inl h)
        · exact .inl h
        · exact .inr (.inr h)
      · rintro (h | h | h)
        · exact .inr (.inl h)
        · exact .inl h
        · exact .inr (.inr h)

/-- An erased number reads as the default. -/
theorem Table.get_erase_same (d : α) (t : Table α) (k : Nat) : Table.get d (Table.erase t k) k = d :=
  Table.get_of_unlisted d _ k (fun p hp => ((Table.mem_erase t k p).mp hp).2)

/-- An erasure leaves every other number alone. -/
theorem Table.get_erase_other (d : α) : ∀ (t : Table α) (k l : Nat), l ≠ k →
    Table.get d (Table.erase t k) l = Table.get d t l
  | [], _, _, _ => rfl
  | (j, v) :: t, k, l, h => by
    by_cases hj : j = k
    · subst hj
      simp only [Table.erase, if_true, Table.get, if_neg (Ne.symm h)]
      exact Table.get_erase_other d t j l h
    · simp only [Table.erase, if_neg hj, Table.get, Table.get_erase_other d t k l h]

/-- An inserted number that was not listed reads as its value. -/
theorem Table.get_insert_same (d : α) : ∀ (t : Table α) (k : Nat) (v : α), (∀ p ∈ t, p.1 ≠ k) →
    Table.get d (Table.insert t k v) k = v
  | [], _, _, _ => by simp [Table.insert, Table.get]
  | (j, w) :: t, k, v, h => by
    have hj : j ≠ k := h (j, w) List.mem_cons_self
    unfold Table.insert
    split
    · simp [Table.get]
    · simp only [Table.get, if_neg hj]
      exact Table.get_insert_same d t k v (fun p hp => h p (List.mem_cons_of_mem _ hp))

/-- An insertion leaves every other number alone. -/
theorem Table.get_insert_other (d : α) : ∀ (t : Table α) (k l : Nat) (v : α), l ≠ k →
    Table.get d (Table.insert t k v) l = Table.get d t l
  | [], _, _, _, h => by simp [Table.insert, Table.get, Ne.symm h]
  | (j, w) :: t, k, l, v, h => by
    unfold Table.insert
    split
    · simp [Table.get, Ne.symm h]
    · simp only [Table.get, Table.get_insert_other d t k l v h]

variable [DecidableEq α]

/-- A read after a write gives the value written. -/
@[simp] theorem Table.get_set_same (d : α) (t : Table α) (k : Nat) (v : α) : Table.get d (Table.set d t k v) k = v := by
  unfold Table.set
  split
  · rename_i h; rw [h]; exact Table.get_erase_same d t k
  · exact Table.get_insert_same d _ k v (fun p hp => ((Table.mem_erase t k p).mp hp).2)

/-- A write leaves every other number alone. -/
theorem Table.get_set_other (d : α) (t : Table α) (k l : Nat) (v : α) (h : l ≠ k) :
    Table.get d (Table.set d t k v) l = Table.get d t l := by
  unfold Table.set
  split
  · exact Table.get_erase_other d t k l h
  · rw [Table.get_insert_other d _ k l v h, Table.get_erase_other d t k l h]

/-- A read after a write, in one equation. -/
theorem Table.get_set (d : α) (t : Table α) (k l : Nat) (v : α) :
    Table.get d (Table.set d t k v) l = if l = k then v else Table.get d t l := by
  split
  · rename_i h; subst h; simp
  · rename_i h; exact Table.get_set_other d t k l v h

/-! ## The form -/

/-- The form, entry by entry: no default, and every later number larger. -/
theorem Table.wf_cons (d : α) (j : Nat) (v : α) (t : Table α) :
    Table.wf d ((j, v) :: t) = true ↔ v ≠ d ∧ (∀ p ∈ t, j < p.1) ∧ Table.wf d t = true := by
  induction t generalizing j v with
  | nil => simp [Table.wf]
  | cons q t ih =>
    obtain ⟨k, w⟩ := q
    have hk := ih k w
    simp only [Table.wf, Bool.and_eq_true, bne_iff_ne, decide_eq_true_eq, List.mem_cons, hk, and_assoc]
    constructor
    · rintro ⟨hv, hjk, hw, hall, hwf⟩
      refine ⟨hv, ?_, hw, hall, hwf⟩
      rintro p (rfl | hp)
      · exact hjk
      · exact Nat.lt_trans hjk (hall p hp)
    · rintro ⟨hv, hlt, hw, hall, hwf⟩
      exact ⟨hv, hlt (k, w) (.inl rfl), hw, hall, hwf⟩

/-- An erasure keeps the form. -/
theorem Table.wf_erase (d : α) : ∀ (t : Table α) (k : Nat), Table.wf d t = true → Table.wf d (Table.erase t k) = true
  | [], _, _ => rfl
  | (j, v) :: t, k, h => by
    obtain ⟨hv, hlt, hwf⟩ := (Table.wf_cons d j v t).mp h
    unfold Table.erase
    split
    · exact Table.wf_erase d t k hwf
    · exact (Table.wf_cons d j v _).mpr
        ⟨hv, fun p hp => hlt p ((Table.mem_erase t k p).mp hp).1, Table.wf_erase d t k hwf⟩

/-- The insertion of a number that is not listed keeps the form. -/
theorem Table.wf_insert (d : α) : ∀ (t : Table α) (k : Nat) (v : α), v ≠ d → (∀ p ∈ t, p.1 ≠ k) →
    Table.wf d t = true → Table.wf d (Table.insert t k v) = true
  | [], k, v, hv, _, _ => (Table.wf_cons d k v []).mpr ⟨hv, by simp, rfl⟩
  | (j, w) :: t, k, v, hv, hk, h => by
    obtain ⟨hw, hlt, hwf⟩ := (Table.wf_cons d j w t).mp h
    have hjk : j ≠ k := hk (j, w) List.mem_cons_self
    unfold Table.insert
    split
    · rename_i hlt'
      refine (Table.wf_cons d k v _).mpr ⟨hv, ?_, h⟩
      intro p hp
      rcases List.mem_cons.mp hp with rfl | hp
      · exact hlt'
      · exact Nat.lt_trans hlt' (hlt p hp)
    · refine (Table.wf_cons d j w _).mpr ⟨hw, ?_, Table.wf_insert d t k v hv
        (fun p hp => hk p (List.mem_cons_of_mem _ hp)) hwf⟩
      intro p hp
      rcases (Table.mem_insert t k v p).mp hp with rfl | hp
      · show j < k; omega
      · exact hlt p hp

/-- A write keeps the form. -/
theorem Table.wf_set (d : α) (t : Table α) (k : Nat) (v : α) (h : Table.wf d t = true) :
    Table.wf d (Table.set d t k v) = true := by
  unfold Table.set
  split
  · exact Table.wf_erase d t k h
  · rename_i hv
    exact Table.wf_insert d _ k v hv (fun p hp => ((Table.mem_erase t k p).mp hp).2) (Table.wf_erase d t k h)

/-- What is listed after a change of every value. -/
theorem Table.mem_map (d : α) (f : Nat → α → α) : ∀ (t : Table α) (p : Nat × α),
    p ∈ Table.map d f t → ∃ v, (p.1, v) ∈ t ∧ p.2 = f p.1 v
  | [], _, h => by simp [Table.map] at h
  | (j, v) :: t, p, h => by
    unfold Table.map at h
    split at h
    · obtain ⟨w, hw, he⟩ := Table.mem_map d f t p h
      exact ⟨w, List.mem_cons_of_mem _ hw, he⟩
    · rcases List.mem_cons.mp h with rfl | h
      · exact ⟨v, List.mem_cons_self, rfl⟩
      · obtain ⟨w, hw, he⟩ := Table.mem_map d f t p h
        exact ⟨w, List.mem_cons_of_mem _ hw, he⟩

/-- A change of every value keeps the form. -/
theorem Table.wf_map (d : α) (f : Nat → α → α) : ∀ (t : Table α), Table.wf d t = true →
    Table.wf d (Table.map d f t) = true
  | [], _ => rfl
  | (j, v) :: t, h => by
    obtain ⟨_, hlt, hwf⟩ := (Table.wf_cons d j v t).mp h
    unfold Table.map
    split
    · exact Table.wf_map d f t hwf
    · rename_i hv
      refine (Table.wf_cons d j _ _).mpr ⟨hv, ?_, Table.wf_map d f t hwf⟩
      intro p hp
      obtain ⟨w, hw, _⟩ := Table.mem_map d f t p hp
      exact hlt (p.1, w) hw

/-! ## The named tables -/

@[simp] theorem claimAt_setClaim_same (c : Nat) (r : ClaimRecord) (s : State) : claimAt (setClaim c r s) c = r := by
  simp [claimAt, setClaim]

theorem claimAt_setClaim (c b : Nat) (r : ClaimRecord) (s : State) :
    claimAt (setClaim c r s) b = if b = c then r else claimAt s b := by
  simp [claimAt, setClaim, Table.get_set]

@[simp] theorem rosterAt_setRoster_same (d : Nat) (e : RosterEntry) (s : State) : rosterAt (setRoster d e s) d = e := by
  simp [rosterAt, setRoster]

theorem rosterAt_setRoster (d b : Nat) (e : RosterEntry) (s : State) :
    rosterAt (setRoster d e s) b = if b = d then e else rosterAt s b := by
  simp [rosterAt, setRoster, Table.get_set]

@[simp] theorem tagAt_setTag_same (t : Nat) (v : Tag) (s : State) : tagAt (setTag t v s) t = v := by
  simp [tagAt, setTag]

theorem tagAt_setTag (t u : Nat) (v : Tag) (s : State) :
    tagAt (setTag t v s) u = if u = t then v else tagAt s u := by
  simp [tagAt, setTag, Table.get_set]

@[simp] theorem watchAt_setWatch_same (c h : Nat) (w : Option Watch) (s : State) : watchAt (setWatch c h w s) c h = w := by
  simp [watchAt, setWatch]

theorem silenceAt_setSilence (d b : Nat) (v : Option Nat) (s : State) (h : d ≠ s.station.number) :
    silenceAt (setSilence d v s) b = if b = d then v else silenceAt s b := by
  simp [silenceAt, setSilence, h, Table.get_set]

/-- Two holds of stations below 32 have different places among the watches. -/
theorem watchKey_inj {c h b k : Nat} (hh : h < Config.stationCount) (hk : k < Config.stationCount)
    (e : watchKey c h = watchKey b k) : c = b ∧ h = k := by
  simp only [watchKey, Config.stationCount] at *
  omega

end Sys2Proof.Machine
end

