-- ==== Sys2Proof/Laws/Ops.lean ====
section
/-! SUPPORT. For each shared operation, once, what it can do. -/

namespace Sys2Proof.Machine

/-! ## Notices -/

/-- An unreserved notice enters the queue where a place is free, and is counted as dropped where none is (R179). -/
theorem postUnreserved_cases (n : Notice) (s : State) :
    (0 < freePlaces s ∧ postUnreserved n s = push n s) ∨ (freePlaces s = 0 ∧ postUnreserved n s = countDrop s) := by
  unfold postUnreserved
  split
  · exact .inl ⟨‹_›, rfl⟩
  · exact .inr ⟨by omega, rfl⟩

/-- A drop is counted in the held drops, in the OVERFLOW present, or in a new one (R179). -/
theorem countDrop_cases (s : State) :
    (readingOverflow s = true ∧
      countDrop s = { s with notices.heldDrops := min Config.maxCount (s.notices.heldDrops + 1) }) ∨
    (readingOverflow s = false ∧ s.notices.entries.any Notice.isOverflow = true ∧
      countDrop s = { s with notices.entries := s.notices.entries.map Notice.bump }) ∨
    (overflowPresent s = false ∧ countDrop s = push (.overflow 1) s) := by
  unfold countDrop
  by_cases hr : readingOverflow s = true
  · rw [if_pos hr]; exact .inl ⟨hr, rfl⟩
  · rw [if_neg hr]
    by_cases ho : s.notices.entries.any Notice.isOverflow = true
    · rw [if_pos ho]; exact .inr (.inl ⟨Bool.not_eq_true _ ▸ hr, ho, rfl⟩)
    · rw [if_neg ho]
      exact .inr (.inr ⟨by simp only [overflowPresent, Bool.eq_false_iff.mpr ho, Bool.eq_false_iff.mpr hr, Bool.or_self], rfl⟩)

/-- A pending WARN is posted with its latch cleared, or stays pending (R180). -/
theorem postPendingWarn_cases (s : State) (t : Nat) :
    ((tagAt s t).warnLatch = true ∧ 0 < freePlaces s ∧
      postPendingWarn s t = push (.warn t (ticksLeft s (tagAt s t).claim s.station.number))
        (setTag t { tagAt s t with warnLatch := false } s)) ∨
    (((tagAt s t).warnLatch = false ∨ freePlaces s = 0) ∧ postPendingWarn s t = s) := by
  unfold postPendingWarn
  split
  · rename_i h; exact .inl ⟨h.1, h.2, rfl⟩
  · rename_i h
    refine .inr ⟨?_, rfl⟩
    by_cases hw : (tagAt s t).warnLatch = true
    · exact .inr (by simp only [hw, true_and] at h; omega)
    · exact .inl (by simpa using hw)

/-- Of a tag, the posting of pending WARNs changes the warn latch at most. -/
theorem postPendingWarns_tagAt (s : State) (u : Nat) :
    ∃ w, tagAt (postPendingWarns s) u = { tagAt s u with warnLatch := w } := by
  suffices h : ∀ (l : List Nat) (s : State), ∃ w, tagAt (l.foldl postPendingWarn s) u = { tagAt s u with warnLatch := w }
    from h _ s
  intro l
  induction l with
  | nil => exact fun s => ⟨(tagAt s u).warnLatch, rfl⟩
  | cons t l ih =>
    intro s
    obtain ⟨w, hw⟩ := ih (postPendingWarn s t)
    rcases postPendingWarn_cases s t with ⟨_, _, h⟩ | ⟨_, h⟩
    · refine ⟨w, ?_⟩
      rw [List.foldl_cons, hw, h]
      show _ = _
      simp only [show ∀ n s, tagAt (push n s) u = tagAt s u from fun _ _ => rfl, tagAt_setTag]
      split <;> simp_all
    · exact ⟨w, by rw [List.foldl_cons, hw, h]⟩

/-! ## Tags -/

/-- The end of a tag frees it; of another tag it changes the warn latch at most (R173, R180). -/
theorem endTag_tagAt (t u : Nat) (n : Notice) (s : State) :
    ∃ w, tagAt (endTag t n s) u = { (if u = t then Tag.free else tagAt s u) with warnLatch := w } := by
  obtain ⟨w, hw⟩ := postPendingWarns_tagAt
    (let s1 := setTag t Tag.free (push n (withdrawBound t s))
     { s1 with notices.entries := s1.notices.entries.filter (fun m => !m.isWarnOf t) }) u
  refine ⟨w, ?_⟩
  show tagAt (postPendingWarns _) u = _
  rw [hw]
  show { tagAt (setTag t Tag.free (push n (withdrawBound t s))) u with warnLatch := w } = _
  rw [tagAt_setTag]
  rfl

/-- An ended tag is not in use. -/
theorem endTag_inUse (t u : Nat) (n : Notice) (s : State) :
    (tagAt (endTag t n s) u).inUse = if u = t then false else (tagAt s u).inUse := by
  obtain ⟨w, hw⟩ := endTag_tagAt t u n s
  rw [hw]
  split <;> rfl

/-- The station controller's ending leaves the tag free and no other tag in use that was not. -/
theorem endTagIfUsed_inUse (c : TagCause) (s : State) (t u : Nat) :
    (tagAt (endTagIfUsed c s t) u).inUse = if u = t then false else (tagAt s u).inUse := by
  unfold endTagIfUsed
  split
  · exact endTag_inUse t u _ s
  · rename_i h
    split
    · rename_i hu; subst hu; simpa using h
    · rfl

/-- After the ending of the tags no tag is in use (R86, R173). -/
theorem endTags_noTags (c : TagCause) (s : State) : NoTags (endTags c s) := by
  suffices h : ∀ (l : List Nat) (s : State) (u : Nat), (u ∈ l ∨ (tagAt s u).inUse = false) →
      (tagAt (l.foldl (endTagIfUsed c) s) u).inUse = false from
    fun t ht => h _ s t (.inl (List.mem_range.mpr ht))
  intro l
  induction l with
  | nil => intro s u hu; simpa using hu
  | cons t l ih =>
    intro s u hu
    refine ih _ u ?_
    rw [endTagIfUsed_inUse]
    rcases hu with hu | hu
    · rcases List.mem_cons.mp hu with rfl | hu
      · exact .inr (by simp)
      · exact .inl hu
    · exact .inr (by simp [hu])

/-! ## Transmit queue -/

/-- An internal frame is queued, or its key is present, or no internal place is free (R124, R133). -/
theorem queueInternal_cases (s : State) (f : TxFrame) :
    (keyPresent f s = false ∧ internalHeld s < Config.internalPlaces ∧ queueInternal s f = enqueue f none s) ∨
    ((keyPresent f s = true ∨ Config.internalPlaces ≤ internalHeld s) ∧ queueInternal s f = s) := by
  unfold queueInternal
  split
  · exact .inr ⟨‹_›, rfl⟩
  · rename_i h
    simp only [not_or, Bool.not_eq_true, Nat.not_le] at h
    exact .inl ⟨h.1, h.2, rfl⟩

/-! ## Claim records -/

/-- The grant test (R6, Table 1-4). -/
theorem grantTest_iff (hs : List HoldSlot) (m : Mode) :
    grantTest hs m = true ↔
      hs = [] ∨ (m = .shared ∧ (∀ h ∈ hs, h.mode = .shared) ∧ hs.length < Config.maxHolders) := by
  cases hs with
  | nil => simp [grantTest]
  | cons h t => simp [grantTest, and_assoc]

/-- The start of a watch touches no claim record. -/
@[simp] theorem claimAt_startWatchAt (c h l n v : Nat) (s : State) (b : Nat) :
    claimAt (startWatchAt c h l n v s) b = claimAt s b := by
  simp [claimAt]

/-- A grant appends a slot with the next serial to its claim, and touches no other record (R7). -/
theorem claimAt_grant (c b : Nat) (w : Waiter) (s : State) :
    claimAt (grant c w s) b = if b = c then (claimAt s c).grant w else claimAt s b := by
  unfold grant startWatch
  rw [claimAt_startWatchAt, claimAt_setClaim]

/-- An extension gives the slot the next serial and the lease, and touches no other record (R9). -/
theorem claimAt_extendHold (c b h l : Nat) (s : State) :
    claimAt (extendHold c h l s) b = if b = c then (claimAt s c).extend h l else claimAt s b := by
  have hl : ∀ (s : State) (b : Nat), claimAt (clearLatch c s) b = claimAt s b := fun s b => by simp [claimAt]
  have hw : ∀ (s : State) (b : Nat), claimAt (withdrawLapse c h s) b = claimAt s b := fun s b => by simp [claimAt]
  unfold extendHold startWatch
  simp only [claimAt_startWatchAt]
  split <;> simp only [hl, hw, claimAt_setClaim]

/-- A removal takes the slot out of its claim, and touches no other record (R10). -/
theorem claimAt_removeHold (c b h : Nat) (s : State) :
    claimAt (removeHold c h s) b =
      if b = c then { claimAt s c with holders := (claimAt s c).holders.filter (fun x => x.station != h) }
      else claimAt s b := by
  have hw : ∀ (s : State), claimAt (withdrawLapse c h s) b = claimAt s b := fun s => by simp [claimAt]
  have hr : ∀ (s : State), claimAt (removeWatch c h s) b = claimAt s b := fun s => by
    unfold removeWatch clearLatch
    simp only
    (repeat' split) <;> simp [claimAt]
  unfold removeHold
  rw [hw, hr, claimAt_setClaim]

/-- A waiter's removal touches its claim only (R33). -/
theorem claimAt_removeWaiter (c b h : Nat) (s : State) :
    claimAt (removeWaiter c h s) b =
      if b = c then { claimAt s c with waiters := (claimAt s c).waiters.filter (fun w => w.station != h) }
      else claimAt s b := by
  unfold removeWaiter
  rw [claimAt_setClaim]

/-- A grant by promotion moves the head waiter into the holder list (R7, R12). -/
theorem claimAt_promoteHead (c b : Nat) (w : Waiter) (rest : List Waiter) (s : State) :
    claimAt (promoteHead c w rest s) b =
      if b = c then ({ claimAt s c with waiters := rest } : ClaimRecord).grant w else claimAt s b := by
  have ht : ∀ (t n : Nat) (s : State), claimAt (tagGranted t n s) b = claimAt s b := fun t n s => by simp [claimAt]
  unfold promoteHead
  simp only
  (repeat' split) <;> simp_all [claimAt_grant, claimAt_setClaim]

/-- Promotion on a claim touches no other record (R11). -/
theorem claimAt_promote_other (c b : Nat) (s : State) (h : b ≠ c) : claimAt (promote c s) b = claimAt s b := by
  have hq : ∀ (q : List Waiter) (s : State), claimAt (promoteQueue c q s) b = claimAt s b := by
    intro q
    induction q with
    | nil => exact fun _ => rfl
    | cons w rest ih =>
      intro s
      unfold promoteQueue
      split
      · rw [ih, claimAt_promoteHead, if_neg h]
      · rfl
  unfold promote freeSerial
  split
  · rw [claimAt_setClaim, if_neg h, hq]
  · exact hq _ s

/-- After promotion the head of the queue waits for a reason (R12, R14). -/
theorem promote_headWaits (c : Nat) (s : State) : HeadWaits (claimAt (promote c s) c) := by
  have hq : ∀ (q : List Waiter) (s : State), (claimAt s c).waiters = q → HeadWaits (claimAt (promoteQueue c q s) c) := by
    intro q
    induction q with
    | nil =>
      intro s hs w hw
      simp [promoteQueue, hs] at hw
    | cons w rest ih =>
      intro s hs
      unfold promoteQueue
      split
      · exact ih _ (by rw [claimAt_promoteHead, if_pos rfl]; rfl)
      · rename_i hg
        intro v hv
        rw [hs] at hv
        simp only [List.head?_cons, Option.mem_def, Option.some.injEq] at hv
        rw [← hv]
        simpa using hg
  have h := hq (claimAt s c).waiters s rfl
  unfold promote freeSerial
  split
  · rw [claimAt_setClaim, if_pos rfl]
    exact h
  · exact h

/-! ## The check -/

/-- The check's register after two runs of bytes is the second run's from where the first left it (R189). -/
theorem crcFrom_append (r : BitVec 16) (as bs : List Sys2Proof.Byte) :
    crcFrom r (as ++ bs) = crcFrom (crcFrom r as) bs := List.foldl_append

/-! ## Steps -/

/-- A complete command with room is taken; anything else leaves the state as it is (R160). -/
theorem takeCommand_cases (c : Command) (body : List Sys2Proof.Byte → State → State) (s : State) :
    (completeCommand s.port.assembler = some c ∧ roomFor c s = true ∧
      takeCommand c body s = body s.port.assembler.tail { s with port.assembler := [], port.age := 0 }) ∨
    ((completeCommand s.port.assembler ≠ some c ∨ roomFor c s = false) ∧ takeCommand c body s = s) := by
  unfold takeCommand
  split
  · rename_i h; exact .inl ⟨h.1, h.2, rfl⟩
  · rename_i h
    refine .inr ⟨?_, rfl⟩
    by_cases hc : completeCommand s.port.assembler = some c
    · exact .inr (by simpa [hc] using h)
    · exact .inl hc

/-- The end of an incomplete run is taken, or nothing happens (R121). -/
theorem settleRun_cases (s : State) :
    (s.train.run = .ended ∧ trainFrameWaits s = false ∧ settleRun s = endRun s) ∨
    ((s.train.run ≠ .ended ∨ trainFrameWaits s = true) ∧ settleRun s = s) := by
  unfold settleRun
  split
  · rename_i h; exact .inl ⟨h.1, h.2, rfl⟩
  · rename_i h
    refine .inr ⟨?_, rfl⟩
    by_cases hr : s.train.run = .ended
    · exact .inr (by simpa [hr] using h)
    · exact .inl hr

/-- The common steps on the state without the oldest received frame and an ended record (R41, R43, R111). -/
theorem commonSteps_eq (e : RxEntry) (rest : List RxEntry) (s : State) :
    commonSteps e { s with
      apply := ⟨rest, if e.continuation then s.apply.record else none⟩ } = atFront e rest s := by
  have hl : ∀ a, rosterAt { s with apply := a } e.sender = rosterAt s e.sender := fun _ => rfl
  unfold commonSteps atFront setSilence
  simp only [hl]
  by_cases ha : rosterAt s e.sender = .absent <;> by_cases ho : e.sender = s.station.number <;>
    cases e.own <;> simp_all

/-- The application of the oldest received frame is its own rule after the common steps (R41, R43). -/
theorem applyFront_of_frontIs (k : FrameKind) (body : RxEntry → State → State) (e : RxEntry) (rest : List RxEntry)
    (s : State) (h : FrontIs s k e rest) : applyFront k body s = body e (atFront e rest s) := by
  obtain ⟨_, hr, hrx, hk, hc⟩ := h
  have hs : e.continuation = false → settleRun s = s := by
    intro hcf
    rcases settleRun_cases s with ⟨he, _, _⟩ | ⟨_, h⟩
    · exact absurd he (hc.resolve_left (by simp [hcf]))
    · exact h
  have hb : beforeApply e s = { s with apply.record := if e.continuation then s.apply.record else none } := by
    unfold beforeApply
    cases hcc : e.continuation <;> simp [hs, hcc]
  unfold applyFront
  rw [hrx]
  simp only [hr, hk, and_self, if_true]
  rw [hb]
  simp only [applyEntry, hrx]
  congr 1
  exact commonSteps_eq e rest s

/-! ## Table 7-3 and Table 7-5 as tests -/

/-- The staleness test is Table 7-3 (R128). -/
theorem isStale_iff (e : TxEntry) (s : State) : isStale e s = true ↔ Stale e s := by
  obtain ⟨f, _, _, _, _, _⟩ := e
  cases f with
  | lapse c h serial => cases hs : slotOf (claimAt s c) h <;> simp [isStale, Stale, refMatches, hs]
  | roll joining =>
    cases joining <;> cases hs : s.station.state <;> simp [isStale, Stale, StationState.sharing, hs]
  | drop d => simp [isStale, Stale]
  | _ => simp [isStale, Stale, holdsClaim, waitsOn, showsJoining, Config.stationCount]

/-- The due LAPSE frames are those of the holds whose watch stands at 0 (R76). -/
theorem mem_dueLapses_iff (s : State) (f : TxFrame) : f ∈ dueLapses s ↔
    ∃ c h serial, f = .lapse c h serial ∧ c < 64 ∧ (∃ x ∈ (claimAt s c).holders, x.station = h) ∧
      ∃ w, watchAt s c h = some w ∧ w.value = 0 ∧ w.serial = serial := by
  simp only [dueLapses, dueLapsesOn, Config.claimCount, List.mem_flatMap, List.mem_range, List.mem_filterMap]
  constructor
  · rintro ⟨c, hc, x, hx, h⟩
    split at h
    · rename_i w hw
      split at h
      · rename_i h0
        exact ⟨c, x.station, w.serial, (Option.some.inj h).symm, hc, ⟨x, hx, rfl⟩, w, hw, h0, rfl⟩
      · cases h
    · cases h
  · rintro ⟨c, _, _, rfl, hc, ⟨x, hx, rfl⟩, w, hw, h0, rfl⟩
    exact ⟨c, hc, x, hx, by simp [hw, h0]⟩

/-- The due frames are those of Table 7-5 (R133). -/
theorem mem_dueFrames_iff (s : State) (f : TxFrame) : f ∈ dueFrames s ↔ Due s f := by
  unfold dueFrames
  cases hs : s.station.state <;> cases f <;>
    simp [Due, hs, mem_dueLapses_iff, dueDrops, dueHead, dueRoll, showsJoining, Config.stationCount, and_assoc]
  constructor
  · rintro ⟨x, rfl, w, rfl, hc, hx, hw, h0⟩
    exact ⟨hc, ⟨x, hx, rfl⟩, w, hw, h0, rfl⟩
  · rintro ⟨hc, ⟨x, hx, rfl⟩, w, hw, h0, rfl⟩
    exact ⟨x, rfl, w, rfl, hc, hx, hw, h0⟩

/-! ## Own tries -/

/-- The one ON_BUS entry of a queue is the one `onBusEntry` finds (R129). -/
theorem onBusEntry_of_split {s : State} {older younger : List TxEntry} {e : TxEntry}
    (he : s.tx.entries = older ++ e :: younger) (hob : e.onBus = true)
    (hx : ∀ x ∈ older ++ younger, x.onBus = false) :
    onBusEntry s = some e := by
  have h1 : ∀ x ∈ older, x.onBus = false := fun x hx' => hx x (by simp [hx'])
  unfold onBusEntry
  rw [he, List.find?_append, List.find?_eq_none.mpr (by simpa using h1)]; simp [hob]

/-- The queue without its one ON_BUS entry. -/
theorem withoutOnBus_of_split {s : State} {older younger : List TxEntry} {e : TxEntry}
    (he : s.tx.entries = older ++ e :: younger) (hob : e.onBus = true)
    (hx : ∀ x ∈ older ++ younger, x.onBus = false) :
    withoutOnBus s = older ++ younger := by
  have h1 : ∀ x ∈ older, x.onBus = false := fun x hx' => hx x (by simp [hx'])
  have h2 : ∀ x ∈ younger, x.onBus = false := fun x hx' => hx x (by simp [hx'])
  unfold withoutOnBus
  rw [he, List.filter_append, List.filter_eq_self.mpr (by simpa using h1), List.filter_cons,
    List.filter_eq_self.mpr (by simpa using h2)]
  simp [hob]

/-- The one ON_BUS entry is READY again, its retry counted or not (R129). -/
theorem readyAgain_of_split {s : State} {older younger : List TxEntry} {e : TxEntry} (c : Bool)
    (he : s.tx.entries = older ++ e :: younger) (hob : e.onBus = true)
    (hx : ∀ x ∈ older ++ younger, x.onBus = false) :
    readyAgain c s = setEntries (older ++ { e with onBus := false, retries := retriesAfter c e } :: younger) s := by
  have h1 : ∀ x ∈ older, x.onBus = false := fun x hx' => hx x (by simp [hx'])
  have h2 : ∀ x ∈ younger, x.onBus = false := fun x hx' => hx x (by simp [hx'])
  have hm : ∀ l : List TxEntry, (∀ x ∈ l, x.onBus = false) →
      l.map (fun x => if x.onBus then { x with onBus := false, retries := retriesAfter c x } else x) = l := by
    intro l hl
    conv_rhs => rw [← List.map_id l]
    apply List.map_congr_left
    intro a ha; simp [hl a ha]
  unfold readyAgain
  rw [he, List.map_append, hm _ h1, List.map_cons, hm _ h2]; simp [hob]

/-- A try that ends unaccepted acts on the entry that is ON_BUS (R129). -/
theorem returnTry_some {s : State} {e : TxEntry} (counted : Bool) (h : onBusEntry s = some e) :
    returnTry counted s = returnEntry counted e { s with link.sending := none } := by
  unfold returnTry; rw [h]

/-- Below the retry limit, an entry that is not dead, not withdrawn and has no cancel pending returns to READY in its
place (R129). -/
theorem returnTry_plain {s : State} {older younger : List TxEntry} {e : TxEntry} (counted : Bool)
    (he : s.tx.entries = older ++ e :: younger) (hob : e.onBus = true)
    (hx : ∀ x ∈ older ++ younger, x.onBus = false) (hd : e.dead = false) (hf : e.frame ≠ .trainHead)
    (hw : withdrawnOnReturn e s = false)
    (hc : cancelPendingOf e s = none) (hr : counted = true → e.retries + 1 < s.station.setup.retryLimit) :
    returnTry counted s = { s with
      tx.entries := older ++
        { e with onBus := false, retries := if counted then e.retries + 1 else e.retries } :: younger
      link.sending := none } := by
  rw [returnTry_some counted (onBusEntry_of_split he hob hx)]
  unfold returnEntry
  rw [if_neg hf, if_neg (by
    rw [hd, show withdrawnOnReturn e { s with link.sending := none } = withdrawnOnReturn e s from rfl, hw]
    simp)]
  rw [show cancelPendingOf e { s with link.sending := none } = cancelPendingOf e s from rfl, hc]
  simp only
  rw [if_neg, readyAgain_of_split counted (s := { s with link.sending := none }) he hob hx]
  · rfl
  · rintro ⟨h1, h2⟩; subst h1; have := hr rfl; simp [retriesAfter] at h2; omega

/-- What the bus's being IDLE changes (R68, R138). -/
theorem idleBus_eq (s : State) : idleBus s = { s with
    watch.pause := false
    train.run := if s.train.run = .running then TrainRun.ended else s.train.run
    link.bus := .idle
    link.idleCycles := 0
    link.chain := false } := by
  unfold idleBus; cases s.train.run <;> rfl

/-- The end of a run returns a TRAIN-HEAD only after a train of this station that failed (R120). -/
theorem returnHead_of_not_failed {s : State} (h : s.train.failed = false) : returnHead s = s := by
  unfold returnHead
  split
  · exact if_neg (by simp [h])
  · rfl

/-- Without an entry ON_BUS no TRAIN-HEAD returns at the end of a run (R129). -/
theorem returnHead_of_none {s : State} (h : onBusEntry s = none) : returnHead s = s := by
  unfold returnHead; rw [h]

/-- The bus becomes IDLE where no train of this station has failed (R68, R138). -/
theorem busToIdle_of_not_failed {s : State} (h : s.train.failed = false) : busToIdle s = idleBus s :=
  returnHead_of_not_failed (s := idleBus s) h

/-- A TRAIN-HEAD whose train failed returns, counted, when the bus becomes IDLE (R120). -/
theorem busToIdle_of_failed {s : State} {e : TxEntry} (h : s.train.failed = true) (ho : onBusEntry s = some e)
    (hf : e.frame = .trainHead) : busToIdle s = trainReturn true e (idleBus s) := by
  unfold busToIdle returnHead
  rw [show onBusEntry (idleBus s) = some e from ho]
  exact if_pos ⟨h, hf⟩

/-- A try of a TRAIN-HEAD that ends unaccepted after its arbitration leaves the head ON_BUS (R120, R129). -/
theorem returnTry_head {s : State} {e : TxEntry} (ho : onBusEntry s = some e) (hf : e.frame = .trainHead) :
    returnTry true s = failTrain { s with link.sending := none } := by
  rw [returnTry_some true ho]
  unfold returnEntry
  rw [if_pos hf]; rfl

/-! ## What the lines showed -/

/-- The first bit sent as 1 and sampled as 0 (R142, R143). -/
theorem firstBeaten_iff (own sampled : List Bool) (i : Nat) :
    firstBeaten own sampled = some i ↔ BeatenAt own sampled i := by
  induction own generalizing sampled i with
  | nil => simp [firstBeaten]
  | cons a own ih =>
    cases sampled with
    | nil => cases a <;> simp [firstBeaten]
    | cons b sampled =>
      have hstep : (firstBeaten own sampled).map (· + 1) = some i ↔
          ¬ (a = true ∧ b = false) ∧ BeatenAt own sampled (i - 1) ∧ i ≠ 0 ∨
          (a = true ∧ b = false ∧ BeatenAt own sampled (i - 1) ∧ i ≠ 0) := by
        rw [Option.map_eq_some_iff]
        constructor
        · rintro ⟨j, hj, rfl⟩
          have := (ih sampled j).mp hj
          by_cases h : a = true ∧ b = false
          · exact .inr ⟨h.1, h.2, by simpa using this, by omega⟩
          · exact .inl ⟨h, by simpa using this, by omega⟩
        · rintro (⟨_, h, h0⟩ | ⟨_, _, h, h0⟩) <;> exact ⟨i - 1, (ih sampled _).mpr h, by omega⟩
      have hcons : BeatenAt (a :: own) (b :: sampled) i ↔
          (a = true ∧ b = false ∧ i = 0) ∨ (¬ (a = true ∧ b = false) ∧ BeatenAt own sampled (i - 1) ∧ i ≠ 0) := by
        cases i with
        | zero => simp [BeatenAt]
        | succ i =>
          simp only [BeatenAt, List.getElem?_cons_succ, Nat.add_sub_cancel]
          constructor
          · rintro ⟨h1, h2, h3⟩
            refine .inr ⟨fun h => ?_, ⟨h1, h2, fun j hj => ?_⟩, by omega⟩
            · exact h3 0 (by omega) (by simp [h.1]) (by simp [h.2])
            · simpa using h3 (j + 1) (by omega)
          · rintro (⟨_, _, h⟩ | ⟨h, ⟨h1, h2, h3⟩, _⟩)
            · cases h
            · refine ⟨h1, h2, fun j hj => ?_⟩
              cases j with
              | zero =>
                intro ha hb
                exact h ⟨by simpa using ha, by simpa using hb⟩
              | succ j => simpa using h3 j (by omega)
      rw [hcons]
      cases a <;> cases b <;> simp_all [firstBeaten, eq_comm]

/-- A sender that sampled its own bits has not been beaten (R142, R143). -/
theorem firstBeaten_self (own more : List Bool) : firstBeaten own (own ++ more) = none := by
  induction own with
  | nil => simp [firstBeaten]
  | cons a own ih => cases a <;> simp [firstBeaten, ih]

/-- A try whose own bits and both slots were sampled (R144, R149). -/
theorem readTry_slots (own : List Bool) (veto heard : Bool) :
    readTry own (own ++ [veto, heard]) = .slots (!veto) (!heard) := by
  simp [readTry, firstBeaten_self]

/-- A try that is cut short reads as clashed, or as cut with what was sampled of its veto slot (R145, R150). -/
theorem readTry_of_cutShort {own sampled : List Bool} (h : CutShort own sampled) :
    readTry own sampled = .clashed ∨ readTry own sampled = .cut ((sampled.drop own.length).head?.map (!·)) := by
  rcases h with ⟨i, h9, hi⟩ | ⟨hn, hl⟩
  · left
    simp only [readTry, (firstBeaten_iff own sampled i).mpr hi]
    exact if_neg (by show ¬ i < 9; omega)
  · right
    have hb : firstBeaten own sampled = none := by
      cases hf : firstBeaten own sampled with
      | none => rfl
      | some i => exact absurd ((firstBeaten_iff own sampled i).mp hf) (hn i)
    have hd : (sampled.drop own.length).length ≤ 1 := by simp; omega
    simp only [readTry, hb]
    match h : sampled.drop own.length, hd with
    | [], _ => rfl
    | [v], _ => rfl
    | _ :: _ :: _, hd => simp at hd

end Sys2Proof.Machine
end

