-- ==== Sys2Proof/WellFormed.lean ====
section
/-! DEFINITION. The check on a step's operands. Only the bits of a received frame can disagree among themselves: every
station reads the number of payload bytes from the length field (R141), so a whole frame has 32 bits and 8 more for
each byte before its response slots. The bits of an own try may be cut at any place (R142, R145, R150), and widths are
in the types. -/

namespace Sys2Proof

/-- The check on a step's operands; every step but FRAME_RECEIVE is well formed as it stands. -/
def Instr.wellFormed : Instr → Bool
  | .frameReceive sampled _ _ => (Machine.readFrame sampled).isSome
  | .hardReset | .resetRelease _ | .commandByteWrite _ _ _ | .assemblyAgeExpiry | .noticeByteRead _ _
  | .setup | .go | .leave | .restart | .status | .mask | .query | .survey | .acquire | .release | .extend | .cancel
  | .tick | .leaseWatchExpiry | .rollDue | .silenceExpiry | .listenTimerExpiry | .copyWaitExpiry
  | .restTimerExpiry | .owedFrameQueue | .warnPost | .frameOpen _ _ | .tryOutcome _ | .stall _ | .frameBreak _
  | .lineStuck | .trainRunEnd | .applyAsk | .applyYield | .applyExtend | .applyLapse | .applyCancel | .applyDrop
  | .applyEnter | .applyRoll | .applyTrainHead | .applyTrainClaim | .applyTrainTail | .busIdleReturn
  | .lineFallWithoutOpen => true

end Sys2Proof
end

