-- ==== Sys2Proof/Tests/Slice0.lean ====
section
/-! SUPPORT. The model's own tests: values worked by hand from the spec (each names its place there), the smoke test of
the check on operands, and for every statement with hypotheses a state and operands that meet them. -/

namespace Sys2Proof.Tests

set_option Elab.async false

open Sys2Proof Sys2Proof.Machine

/-! ## Small states -/

/-- The next state of a step; every step has one. -/
def after (i : Instr) (s : State) : State :=
  match exec i s with
  | .next t => t
  | .fault _ => s
  | .refused _ => s

/-- Station 3 in a state, with R 16, a retry limit of 10, and the bus IDLE. -/
def inState (st : StationState) : State := { State.reset with
  station := ⟨false, st, 3, ⟨1, 20, 16, 10, 1000⟩, true, 0, .none, 0⟩
  link.bus := .idle }

/-- Station 3 among MEMBERs 3 and 5. -/
def member : State := { inState .member with
  replica.roster := [(3, .member), (5, .member)]
  watch.silence := [(5, some 0)]
  watch.roll := some 0 }

/-- These command bytes wait in the assembler. -/
def host (bs : List Byte) (s : State) : State := { s with port.assembler := bs }

/-- So many notices are unread. -/
def notices (n : Nat) (s : State) : State := { s with notices.entries := List.replicate n .hostOverrun }

/-- A tag for claim `c` in a phase, with the reservations of R172. -/
def tagIn (p : Phase) (c : Nat) : Tag :=
  let g : Tag := ⟨true, c, .sole, 40, false, some p, false, false, false, 0⟩
  { g with reservations := g.reserved }

/-- Tag 15 stands so for claim 63. -/
def tag15 (p : Phase) (s : State) : State := setTag 15 (tagIn p 63) s

/-- Claim 63 has these holders and waiters. -/
def claim63 (serial : Nat) (hs : List HoldSlot) (ws : List Waiter) (s : State) : State := setClaim 63 ⟨serial, hs, ws⟩ s

/-- A READY entry. -/
def ready (f : TxFrame) (binding : Option Nat) : TxEntry := ⟨f, binding, false, 0, false, false⟩

/-- An entry ON_BUS with retries counted. -/
def onBus (f : TxFrame) (binding : Option Nat) (retries : Nat) : TxEntry := ⟨f, binding, true, retries, false, false⟩

/-- The transmit queue holds these entries. -/
def queue (es : List TxEntry) (s : State) : State := setEntries es s

/-- This own frame is on the bus. -/
def sending (k : FrameKind) (p : List Byte) (s : State) : State := { s with
  link.sending := some ⟨k, p⟩
  link.bus := .inFrame }

/-- A received frame of another station. -/
def from5 (k : FrameKind) (p : List Byte) : RxEntry := ⟨k, 5, p, false, none, false, false⟩

/-- An own frame accepted and not yet applied. -/
def own3 (k : FrameKind) (p : List Byte) (binding : Option Nat) : RxEntry := ⟨k, 3, p, true, binding, false, false⟩

/-- These frames wait to be applied. -/
def rx (es : List RxEntry) (s : State) : State := { s with apply.rx := es }

/-- A frame with its right check. -/
def frame (kind : BitVec 4) (sender : BitVec 5) (p : List Byte) : BusFrame :=
  let f : BusFrame := ⟨kind, sender, BitVec.ofNat 7 p.length, p, 0⟩
  { f with check := BusFrame.computedCheck f }

/-! ## The check on operands -/

/-- Bits with fewer payload bytes than their length field says are refused, a whole frame's are not (R141). -/
theorem test_wellFormed_frame :
    Instr.wellFormed (.frameReceive (BusFrame.bits ⟨1#4, 2#5, 1#7, [], 0#16⟩) false .close) = false ∧
      Instr.wellFormed (.frameReceive (BusFrame.bits ⟨1#4, 2#5, 1#7, [4#8], 0#16⟩) false .close) = true := by
  decide +kernel

/-- No word spells a step, and the queue is then left as it was (98_reader.md). -/
theorem test_no_word (n w : Nat) : decodeTableWord n w = none ∧ State.withFetchWord member n w = member := ⟨rfl, rfl⟩

/-! ## Layouts (chapter 11) -/

/-- The check of the characters 1 to 9 is 0x29B1, as R189 says. -/
theorem test_crc_check_value : crc [0x31, 0x32, 0x33, 0x34, 0x35, 0x36, 0x37, 0x38, 0x39] = 0x29B1#16 := by
  decide +kernel

/-- The header bytes of 11.1's ASK from station 5 and DROP from station 2. -/
theorem test_header_bytes :
    headerBytes 9#4 5#5 4#7 = [0x92#8, 0x84#8] ∧ headerBytes 1#4 2#5 1#7 = [0x11#8, 0x01#8] := by decide

/-- Station 5's ASK on the bus has those header fields, and a check that a receiver finds right (R189). -/
theorem test_sent_frame :
    sentFrame { sending .ask [22, 0, 3, 0xE8] member with station.number := 5 } = some (frame 9#4 5#5 [22, 0, 3, 0xE8]) ∧
      countingVeto (frame 9#4 5#5 [22, 0, 3, 0xE8]) member = false := by decide +kernel

/-- DROP(4) from station 2 bit by bit (R141): 0001, 00010, 0000001, 00000100, then its check; an ENTER has 34 bit
periods with its slots and an ASK 66 (Table 8-4). -/
theorem test_frame_bits :
    (BusFrame.bits (frame 1#4 2#5 [4])).take 24 =
        [false, false, false, true, false, false, false, true, false, false, false, false, false, false, false, true,
          false, false, false, false, false, true, false, false] ∧
      (BusFrame.bits (frame 12#4 2#5 [])).length + 2 = 34 ∧
      (BusFrame.bits (frame 9#4 5#5 [22, 0, 3, 0xE8])).length + 2 = 66 := by decide +kernel

/-- A frame of another station is read from its bits (R141, R148). -/
theorem test_receive_bits :
    (after (.frameReceive (BusFrame.bits (frame 1#4 5#5 [9])) false .close) member).apply.rx =
        [⟨.drop, 5, [9], false, none, false, false⟩] ∧
      (after (.frameReceive (BusFrame.bits { frame 1#4 5#5 [9] with check := 0 }) false .close) member).link.vetoRun = 1 := by
  decide +kernel

/-- 11.3's ACQUIRE of claim 22 on tag 4, and with the request byte 0xD6 SHARED with no-wait. -/
theorem test_acquire_bytes :
    (tagAt (after .acquire (host [0x20, 0x04, 0x16, 0x00, 0x00] member)) 4) =
        ⟨true, 22, .sole, 1000, false, some .sending, false, false, false, 2⟩ ∧
      (tagAt (after .acquire (host [0x20, 0x04, 0xD6, 0x00, 0x00] member)) 4) =
        ⟨true, 22, .shared, 1000, true, some .sending, false, false, false, 2⟩ := by decide +kernel

/-- A replica of FREE claims is 4 + 64 × 3 bytes long (11.4). -/
theorem test_canonical_length : (canonicalBytes member.replica).length = 196 := by decide +kernel

/-! ## Worked sequences -/

/-- Table 1-8: YIELD(7, 40) from station 2 into a mixed queue. -/
theorem test_table_1_8 :
    claimAt (promote 7 (removeHold 7 2 (setClaim 7
      ⟨40, [⟨2, .sole, 300, 40⟩], [⟨5, .shared, 100⟩, ⟨9, .shared, 200⟩, ⟨11, .sole, 50⟩, ⟨14, .shared, 300⟩]⟩
      member))) 7 =
      ⟨42, [⟨5, .shared, 100, 41⟩, ⟨9, .shared, 200, 42⟩], [⟨11, .sole, 50⟩, ⟨14, .shared, 300⟩]⟩ := by decide +kernel

/-- Table 12-9's claims at station 0. -/
def table12_9 : State :=
  setClaim 40 ⟨53, [⟨4, .shared, 3000, 52⟩, ⟨6, .shared, 3000, 53⟩], [⟨0, .sole, 100⟩, ⟨10, .shared, 100⟩]⟩
    (setClaim 9 ⟨21, [⟨10, .sole, 900, 21⟩], [⟨6, .sole, 100⟩, ⟨4, .shared, 100⟩]⟩
      (setClaim 3 ⟨14, [⟨4, .sole, 2000, 14⟩], [⟨10, .sole, 600⟩, ⟨6, .shared, 300⟩]⟩
        { member with
          station.number := 0
          replica.roster := [(0, .member), (4, .member), (6, .member), (10, .member)] }))

/-- Table 12-10 and occupancy 4 after DROP(4); the watch of 10 on claim 3 starts at 600 + 75. -/
theorem test_table_12_10 :
    let t := after .applyDrop (rx [⟨.drop, 6, [4], false, none, false, false⟩] table12_9)
    claimAt t 3 = ⟨15, [⟨10, .sole, 600, 15⟩], [⟨6, .shared, 300⟩]⟩ ∧
      claimAt t 9 = ⟨21, [⟨10, .sole, 900, 21⟩], [⟨6, .sole, 100⟩]⟩ ∧
      claimAt t 40 = ⟨53, [⟨6, .shared, 3000, 53⟩], [⟨0, .sole, 100⟩, ⟨10, .shared, 100⟩]⟩ ∧
      occupancy table12_9 = 6 ∧ occupancy t = 4 ∧ watchAt t 3 10 = some ⟨15, 675, false⟩ ∧
      rosterAt t 4 = .absent := by decide +kernel

/-- Table 12-4: EXTEND(40, 10, 80) from 3 at station 6: serial 11, the watch at 90, the LAPSE withdrawn. -/
theorem test_table_12_4 :
    let s := setClaim 40 ⟨10, [⟨3, .sole, 80, 10⟩], [⟨11, .shared, 50⟩]⟩ { member with
      station.number := 6
      replica.roster := [(3, .member), (6, .member), (11, .member)]
      tx.entries := [ready (.lapse 40 3 10) none] }
    let t := after .applyExtend (rx [⟨.extend, 3, [40, 10, 0, 80], false, none, false, false⟩] s)
    claimAt t 40 = ⟨11, [⟨3, .sole, 80, 11⟩], [⟨11, .shared, 50⟩]⟩ ∧ watchAt t 40 3 = some ⟨11, 90, false⟩ ∧
      t.tx.entries = [] := by decide +kernel

/-- Table 12-5 at station 3: LAPSE(40, 3, 10) from 6 ends tag 8 LOST(LAPSED), takes the READY EXTEND with it, grants 11
with serial 11, and starts its watch at 50 + 6. -/
theorem test_table_12_5 :
    let s := setTag 8 { tagIn .held 40 with extendInFlight := true } (setClaim 40
      ⟨10, [⟨3, .sole, 80, 10⟩], [⟨11, .shared, 50⟩]⟩ { member with
        replica.roster := [(3, .member), (6, .member), (11, .member)]
        tx.entries := [ready (.extend 40 80) (some 8)] })
    let t := after .applyLapse (rx [⟨.lapse, 6, [40, 3, 10], false, none, false, false⟩] s)
    claimAt t 40 = ⟨11, [⟨11, .shared, 50, 11⟩], []⟩ ∧ t.notices.entries = [.lost 8 .lapsed] ∧ t.tx.entries = [] ∧
      tagAt t 8 = Tag.free ∧ watchAt t 40 11 = some ⟨11, 56, false⟩ := by decide +kernel

/-- Table 12-12: with 31 entries and 16 reservations no place is free; a byte lost then makes OVERFLOW(1). -/
theorem test_table_12_12_overflow :
    let s := (List.range 12).foldl
      (fun s n => setTag n (if n < 8 then tagIn .held n else if n = 9 then tagIn .cancelling n else tagIn .waiting n) s)
      (host [0x20, 12, 1, 0, 9] { member with notices.entries := List.replicate 31 (.released 1) })
    reservations s = 16 ∧ freePlaces s = 0 ∧ roomFor .acquire s = false ∧
      (after (.commandByteWrite 0 true false) s).notices.entries = List.replicate 31 (.released 1) ++ [.overflow 1] := by
  decide +kernel

/-- Table 12-12: the last byte of OVERFLOW(2) read with one drop held makes OVERFLOW(1) at once. -/
theorem test_table_12_12_held_drop :
    let s := { member with port.reading := some ⟨.overflow 2, 1⟩, notices.heldDrops := 1 }
    let t := after (.noticeByteRead true false) s
    t.port.dataOut = 2#8 ∧ t.port.reading = none ∧ t.notices.entries = [.overflow 1] ∧ t.notices.heldDrops = 0 := by
  decide +kernel

/-- Table 12-8's TRAIN-TAIL applied at station 12, which has loaded claims 3 and 17: MEMBER, watches 622, 165, 155. -/
theorem test_table_12_8 :
    let s : State := setClaim 17 ⟨31, [⟨8, .shared, 200, 30⟩, ⟨1, .shared, 200, 31⟩], [⟨4, .sole, 300⟩]⟩
      (setClaim 3 ⟨7, [⟨4, .sole, 500, 7⟩], []⟩ { inState .awaitCopy with
        station.number := 12
        replica.roster := [(1, .member), (4, .member), (8, .member), (12, .joining)]
        train.carried := [(3 * 32 + 4, 560), (17 * 32 + 1, 130), (17 * 32 + 8, 140)]
        apply := ⟨[⟨.trainTail, 1, [0, 0], false, none, true, false⟩],
          some ⟨1, 0x112#32, 0x1000#32, 2, 1, 2, some 17, true⟩⟩ })
    let t := after .applyTrainTail s
    t.station.state = .member ∧ t.station.lastCause = .joined ∧ rosterAt t 12 = .member ∧
      watchAt t 3 4 = some ⟨7, 622, false⟩ ∧ watchAt t 17 8 = some ⟨30, 165, false⟩ ∧
      watchAt t 17 1 = some ⟨31, 155, false⟩ := by decide +kernel

/-- The line over Table 8-6's arbitration field. -/
def line8_6 : List Bool := [true, false, false, true, false, false, true, false, true]

/-- Table 8-6: station 2's CANCEL loses at bit 3 and station 9's ASK at bit 6; station 5's ASK stays in. -/
theorem test_table_8_6 :
    firstBeaten (natBits 4 10 ++ natBits 5 2) line8_6 = some 2 ∧
      firstBeaten (natBits 4 9 ++ natBits 5 9) line8_6 = some 5 ∧
      firstBeaten (natBits 4 9 ++ natBits 5 5) line8_6 = none := by decide

/-- Table 8-6: station 2's CANCEL is READY again with no retry counted, and the station goes on as a receiver. -/
theorem test_arbitration_lost :
    let s := sending .cancel [63] (queue [onBus (.cancel 63) (some 15) 4] { member with station.number := 2 })
    let t := after (.tryOutcome ⟨line8_6, .frameEnd .close⟩) s
    t.tx.entries = [⟨.cancel 63, some 15, false, 4, false, false⟩] ∧ t.link.sending = none ∧ t.link.bus = .inFrame := by
  decide +kernel

/-- R149: a TRAIN-TAIL that stalls after its veto slot was sampled high is accepted by its source; one whose veto slot
was not sampled is not, and its TRAIN-HEAD stays ON_BUS until the bus is idle (R120). -/
theorem test_tail_stalls :
    let s := { sending .trainTail [0, 0] (queue [onBus .trainHead none 0] member) with
      train.composer := some ⟨0, 0, none⟩ }
    let t := after (.stall ⟨sentBits s ++ [true], false⟩) s
    let u := after (.stall ⟨sentBits s, false⟩) s
    (t.apply.rx.map (·.kind) = [.trainTail] ∧ t.train.failed = false ∧ t.tx.entries = s.tx.entries) ∧
      (u.apply.rx = [] ∧ u.tx.entries = s.tx.entries ∧
        (after .busIdleReturn u).tx.entries = [⟨.trainHead, none, false, 1, false, false⟩]) := by decide +kernel

/-- R157: HRSn rises while HWSn is low: neither strobe has an effect for that cycle; the next write has. -/
theorem test_strobes_overlap :
    let s := { member with notices.entries := [.released 1] }
    let t := after (.commandByteWrite 0x01 true false) (after (.noticeByteRead true true) s)
    t.port.assembler = [] ∧ t.notices.entries = [.released 1] ∧
      (after (.commandByteWrite 0x01 true false) t).port.assembler = [0x01#8] := by decide +kernel

/-- R119: at a mistaken founder's commit its DROP of a station that the copy lists is stale, one of another not. -/
theorem test_founder_drops :
    let s : State := { queue [ready (.drop 5) none] member with
      apply := ⟨[⟨.trainTail, 1, [0, 0], false, none, true, false⟩], some ⟨1, 0x22#32, 0x8#32, 0, 0, 0, none, true⟩⟩ }
    let t := after .applyTrainTail s
    t.station.lastCause = .copy ∧ t.tx.entries.map (fun e => isStale e t) = [true] := by decide +kernel

/-- R133: the one free internal place goes to the DROP that is owed, not to the LAPSE or the ROLL. -/
theorem test_owed_priority :
    let s : State := claim63 7 [⟨5, .sole, 4, 7⟩] [] (setWatch 63 5 (some ⟨7, 0, false⟩) { member with
      tx.entries := [ready (.drop 30) none, ready (.drop 31) none]
      watch.silence := [(5, some 64)]
      watch.roll := some 16 })
    (after .owedFrameQueue s).tx.entries = s.tx.entries ++ [ready (.drop 5) none] := by decide +kernel

/-- A sender that sampled its own bits, and no more than its veto slot, was cut short. -/
theorem cutShort_own (own : List Bool) (more : List Bool) (h : more.length ≤ 1) : CutShort own (own ++ more) :=
  .inr ⟨fun i hi => by simpa [firstBeaten_self] using (firstBeaten_iff _ _ i).mpr hi, by simp; omega⟩

/-! ## Witnesses: states and operands that meet a statement's hypotheses, clause by clause, at the ends of ranges -/

theorem witness_StepRunsTheFrontCommand :
    { member with pending := [.tick, .go] }.pending = .tick :: [.go] ∧ member.pending = [] := ⟨rfl, rfl⟩

theorem witness_ResetHoldsEveryBlock :
    (after .hardReset member).station.resetLow = true ∧ Instr.tick ≠ .hardReset ∧ ∀ n, Instr.tick ≠ .resetRelease n :=
  ⟨by decide +kernel, by decide, by intro n h; cases h⟩

theorem witness_HostBytesAreAssembled :
    Powered member ∧ { member with port.writeSpoiled := true }.port.writeSpoiled = true ∧
      member.port.writeSpoiled = false ∧ member.port.assembler = [] ∧
      (Command.ofCode (0x0F#8).toNat).isSome = true ∧
      Command.ofCode (0x00#8).toNat = none ∧ freePlaces (notices 46 member) = 1 ∧
      (let s := { host [0x23] member with port.age := 254 }
       s.port.assembler ≠ [] ∧ completeCommand s.port.assembler = none ∧ s.port.age < 255) ∧
      (completeCommand (host [0x0F] member).port.assembler).isSome = true ∧
      (let s := { host [0x23] member with port.age := 255 }
       Powered s ∧ completeCommand s.port.assembler = none ∧ 255 ≤ s.port.age ∧ 0 < freePlaces s) := by
  decide +kernel

theorem witness_NoticeWithoutRoomIsCounted :
    (let s := notices 47 (host [0x0F] member)
     Powered s ∧ (completeCommand s.port.assembler).isSome = true ∧ freePlaces s = 0 ∧ overflowPresent s = false) ∧
    (let younger := List.replicate 47 Notice.hostOverrun
     let s := { host [0x0F] member with notices.entries := [] ++ .overflow 254 :: younger }
     Powered s ∧ freePlaces s = 0 ∧ readingOverflow s = false ∧ ([] ++ younger).any Notice.isOverflow = false) ∧
    (let s := { notices 47 (host [0x0F] member) with port.reading := some ⟨.overflow 9, 1⟩ }
     Powered s ∧ freePlaces s = 0 ∧ readingOverflow s = true) ∧
    (let s := { notices 47 (host [0x22, 1] member) with port.age := 255 }
     s.port.assembler ≠ [] ∧ completeCommand s.port.assembler = none ∧ 255 ≤ s.port.age) ∧
    (let s := notices 47 { inState .sidelined with watch.rest := some 16 }
     freePlaces s = 0 ∧ s.station.state = .sidelined ∧ s.watch.rest = some s.station.setup.r) ∧
    (let e := own3 .ask [63, 1, 0x0F, 0xFF] (some 15)
     let s := rx [e] (notices 45 (claim63 7 [⟨5, .sole, 9, 7⟩] [⟨8, .sole, 9⟩] (tag15 .sending member)))
     freePlaces s = 0 ∧ FrontIs s .ask e [] ∧ (tagAt s 15).phase = some .sending ∧
      (tagAt s 15).cancelPending = false ∧ (claimAt s 63).waiters ≠ [] ∧
      (∀ h ∈ (claimAt s 63).holders, h.station ≠ e.sender) ∧ (∀ w ∈ (claimAt s 63).waiters, w.station ≠ e.sender) ∧
      occupancy s < 128 ∧ rosterAt s e.sender = .member) ∧
    (let e := own3 .extend [63, 7, 0, 2] (some 15)
     let s := rx [e] (notices 46 (claim63 7 [⟨3, .sole, 9, 7⟩] [] (tag15 .held member)))
     freePlaces s = 0 ∧ FrontIs s .extend e [] ∧ parseExtend e.payload = some (63, 7, 2) ∧
      slotOf (claimAt s 63) e.sender = some ⟨3, .sole, 9, 7⟩ ∧ (tagAt s 15).claim = 63 ∧
      (tagAt s 15).phase = some .held ∧
      ∀ m < 16, m ≠ 15 → (tagAt s m).inUse = true → (tagAt s m).claim ≠ 63) ∧
    (let e := own3 .cancel [63] (some 15)
     let s := rx [e] (notices 46 (tag15 .held member))
     freePlaces s = 0 ∧ FrontIs s .cancel e [] ∧ (∀ w ∈ (claimAt s 63).waiters, w.station ≠ e.sender) ∧
      (tagAt s 15).phase = some .held) := by
  refine ⟨?_, ?_, ?_, ?_, ?_, ?_, ?_, ?_⟩ <;> decide +kernel

theorem witness_NoticeChosenIsOldestOfHighestClass :
    let s := { member with notices.entries := [.warn 1 2, .granted 1 2, .released 1, .hostOverrun] }
    Powered s ∧ s.port.readSpoiled = false ∧ s.port.reading = none ∧ s.notices.entries ≠ [] := by decide +kernel

theorem witness_NoticeBytesAreRead :
    Powered member ∧ { member with port.readSpoiled := true }.port.readSpoiled = true ∧
      member.port.readSpoiled = false ∧ (member.port.reading = none ∧ member.notices.entries = []) ∧
      (Notice.bytes (.granted 1 2))[1]? = some 1#8 ∧ 1 + 1 < (Notice.bytes (.granted 1 2)).length ∧
      (let s := { member with port.reading := some ⟨.granted 1 2, 2⟩ }
       Powered s ∧ NoWarnPending s ∧ (Notice.bytes (.granted 1 2))[2]? = some 2#8 ∧
         (Notice.bytes (.granted 1 2)).length = 2 + 1 ∧ (Notice.granted 1 2).isOverflow = false) ∧
      (let s := { member with port.reading := some ⟨.overflow 255, 1⟩, notices.heldDrops := 1 }
       Powered s ∧ NoWarnPending s ∧ (Notice.bytes (.overflow 255))[1]? = some 255#8 ∧
         (Notice.bytes (.overflow 255)).length = 1 + 1 ∧ (Notice.overflow 255).isOverflow = true ∧
         0 < s.notices.heldDrops) := by decide +kernel

theorem witness_CommandWaitsForRoom :
    freePlaces (notices 47 member) = 0 ∧
      5 ≤ boundHeld (queue ((List.range 5).map (fun c => ready (.yield c) (some c))) member) ∧
      freePlaces (notices 46 member) < 2 ∧
      (let s := rx [own3 .ask [1, 0, 0, 9] (some 15)] (host [0x20, 15, 1, 0, 9] member)
       ∃ e ∈ s.apply.rx, e.own = true ∧ e.binding = some (15#8 : Byte).toNat) := by decide +kernel

theorem witness_TagCommandsAreChecked :
    (let s := host [0x20, 15, 1, 0x0F, 0xFF] (notices 45 (inState .leaving))
     Powered s ∧ roomFor .acquire s = true ∧ s.station.state ≠ .member) ∧
    (let s := host [0x20, 16, 1, 0, 9] member
     roomFor .acquire s = true ∧ s.station.state = .member ∧ 16 ≤ (16#8 : Byte).toNat) ∧
    (let s := host [0x20, 15, 1, 0x10, 0] member
     roomFor .acquire s = true ∧ s.station.state = .member ∧ 4095 < u16 0x10 0) ∧
    (let s := tag15 .held (host [0x20, 15, 1, 0x0F, 0xFF] member)
     roomFor .acquire s = true ∧ s.station.state = .member ∧ (15#8 : Byte).toNat < 16 ∧ u16 0x0F 0xFF ≤ 4095 ∧
       (tagAt s (15#8 : Byte).toNat).inUse = true) ∧
    (let s := host [0x21, 15] (notices 46 (inState .listen))
     Powered s ∧ s.port.assembler = byte Command.release.code :: 15 :: [] ∧ roomFor .release s = true ∧
       s.station.state ≠ .member ∧ s.station.state ≠ .leaving) ∧
    (let s := host [0x23, 16] (inState .leaving)
     Powered s ∧ s.port.assembler = byte Command.cancel.code :: 16 :: [] ∧ roomFor .cancel s = true ∧
       s.station.state = .leaving ∧ 16 ≤ (16#8 : Byte).toNat) ∧
    (let s := host [0x22, 15, 0x0F, 0xFF] member
     Powered s ∧ s.port.assembler = byte Command.extend.code :: 15 :: [0x0F, 0xFF] ∧ u16 0x0F 0xFF ≤ 4095 ∧
       roomFor .extend s = true ∧ s.station.state = .member ∧ (15#8 : Byte).toNat < 16 ∧
       (tagAt s (15#8 : Byte).toNat).inUse = false) ∧
    (let s := host [0x22, 15, 0x10, 0] (tag15 .held member)
     Powered s ∧ s.port.assembler = byte Command.extend.code :: 15 :: [0x10, 0] ∧ 4095 < u16 0x10 0 ∧
       roomFor .extend s = true ∧ s.station.state = .member) := by decide +kernel

theorem witness_SetupStoresOrIsDenied :
    (let s := host [0x08, 3, 255, 0x0F, 0xFF, 15, 0x0F, 0xFF] (notices 46 State.reset)
     Powered s ∧ 0 < freePlaces s ∧ s.station.state = .localState ∧ s.station.lock = false) ∧
    Setup.allowed ⟨(3#8 : Byte).toNat, (255#8 : Byte).toNat, u16 0x0F 0xFF, (15#8 : Byte).toNat, u16 0x0F 0xFF⟩ ∧
    Setup.allowed ⟨0, 1, u16 0 16, 1, u16 0 1⟩ ∧ ¬ Setup.allowed ⟨0, 1, u16 0 15, 1, u16 0 1⟩ ∧
    member.station.state ≠ .localState ∧
    ((inState .localState).station.state = .localState ∧ (inState .localState).station.lock = true) := by decide +kernel

theorem witness_GoMovesToListen :
    (let s := host [0x09] (notices 46 State.reset)
     Powered s ∧ 0 < freePlaces s ∧ s.station.state = .localState) ∧
    (host [0x09] member).station.state ≠ .localState := by decide +kernel

theorem witness_LeaveStartsTheDeparture :
    (let s := queue [ready (.yield 1) (some 1), ready (.roll false) none] (host [0x0A] member)
     Powered s ∧ 0 < freePlaces s ∧ s.station.state = .member ∧ isLoading s = false ∧
       (∀ e ∈ s.tx.entries, e.binding = none → e.onBus = false) ∧
       (∀ e ∈ s.tx.entries, e.binding.isSome = true → e.frame.kind ≠ .drop) ∧ (∀ e ∈ s.apply.rx, e.own = false)) ∧
    isLoading (rx [⟨.trainHead, 5, [], false, none, false, true⟩] (host [0x0A] member)) = true := by decide +kernel

theorem witness_RestartEmptiesTheStation :
    let s := host [0x0F] (notices 47 (tag15 .held (inState .halted)))
    Powered s ∧ s.port.assembler = [0x0F#8] := by decide +kernel

theorem witness_StatusAndSurveyReport :
    (let s := host [0x01] (tag15 .held member)
     Powered s ∧ 0 < freePlaces s ∧ s.station.state = .member ∧ (tagAt s 15).inUse = true) ∧
    (let s := host [0x02] (inState .halted)
     Powered s ∧ 0 < freePlaces s ∧ s.station.state ≠ .member ∧ s.station.state.receives = false) ∧
    (host [0x02] member).station.state.receives = true ∧ rosterAt member 5 ≠ .absent ∧ rosterAt member 31 = .absent := by
  decide +kernel

theorem witness_QueryReportsTheClaim :
    (let s := host [0x03, 63] (notices 46 (claim63 7 [⟨5, .shared, 9, 7⟩] [⟨8, .sole, 9⟩] member))
     Powered s ∧ 0 < freePlaces s ∧ (63#8 : Byte).toNat < 64 ∧ s.station.state = .member) ∧
    64 ≤ (64#8 : Byte).toNat ∧ ((inState .awaitCopy).station.state ≠ .member ∧
      (inState .awaitCopy).station.state ≠ .leaving) := by decide +kernel

theorem witness_MaskSetsTheMasks :
    ((let s := host [0x04, 3] (notices 46 State.reset)
     Powered s ∧ 0 < freePlaces s ∧ (3#8 : Byte).toNat < 4) ∧ 4 ≤ (4#8 : Byte).toNat) ∧
    exec .mask (host [0x04, 3] member) = .next (after .mask (host [0x04, 3] member)) := ⟨by decide +kernel, rfl⟩

theorem witness_AcquireTakesTheTag :
    (let s := host [0x20, 15, 0xFF, 0x0F, 0xFF] (notices 45 member)
     Powered s ∧ roomFor .acquire s = true ∧ s.station.state = .member ∧ (15#8 : Byte).toNat < 16 ∧
       u16 0x0F 0xFF ≤ 4095 ∧ (tagAt s (15#8 : Byte).toNat).inUse = false ∧
       ∀ u < 16, (tagAt s u).inUse = true → (tagAt s u).claim ≠ (0xFF#8 : Byte).toNat % 64) ∧
    (let s := setTag 0 (tagIn .held 63) (host [0x20, 15, 0x3F, 0, 0] member)
     Powered s ∧ roomFor .acquire s = true ∧ (tagAt s (15#8 : Byte).toNat).inUse = false ∧
       ((tagAt s 0).inUse = true ∧ (tagAt s 0).claim = (0x3F#8 : Byte).toNat % 64 ∧
         (tagAt s 0).phase.isSome = true) ∧
       NoWarnPending s ∧ (∀ e ∈ s.tx.entries, e.binding ≠ some (15#8 : Byte).toNat) ∧
       ∀ n ∈ s.notices.entries, n.isWarnOf (15#8 : Byte).toNat = false) := by decide +kernel

theorem witness_ReleaseQueuesYield :
    (let s := tag15 .held (host [0x21, 15] (notices 45 member))
     Powered s ∧ roomFor .release s = true ∧ s.station.state = .member ∧ (15#8 : Byte).toNat < 16 ∧
       (tagAt s (15#8 : Byte).toNat).inUse = true ∧ (tagAt s (15#8 : Byte).toNat).phase = some .held) ∧
    (tagAt (tag15 .yielding (host [0x21, 15] (inState .leaving))) 15).phase ≠ some .held := by decide +kernel

theorem witness_ExtendQueuesRenewal :
    (let s := tag15 .held (host [0x22, 15, 0x0F, 0xFF] (notices 45 member))
     Powered s ∧ roomFor .extend s = true ∧ s.station.state = .member ∧ (15#8 : Byte).toNat < 16 ∧
       u16 0x0F 0xFF ≤ 4095 ∧ (tagAt s (15#8 : Byte).toNat).inUse = true ∧
       (tagAt s (15#8 : Byte).toNat).phase = some .held ∧ (tagAt s (15#8 : Byte).toNat).extendInFlight = false) ∧
    (tagAt (tag15 .waiting member) 15).phase ≠ some .held ∧
    (tagAt (setTag 15 { tagIn .held 63 with extendInFlight := true } member) 15).extendInFlight = true := by
  decide +kernel

theorem witness_CancelActsByPhase :
    (let s := queue [onBus (.ask 63 .sole false 40) (some 15) 0] (tag15 .sending (host [0x23, 15] (notices 44 member)))
     Powered s ∧ roomFor .cancel s = true ∧ s.station.state = .member ∧ (tagAt s 15).inUse = true ∧
       (tagAt s 15).phase = some .sending ∧ (tagAt s 15).cancelPending = false ∧
       ∀ e ∈ s.tx.entries, e.binding = some 15 → e.frame.kind = .ask → e.onBus = true) ∧
    (tagAt (tag15 .waiting (host [0x23, 15] member)) 15).phase = some .waiting ∧
    (tagAt (tag15 .cancelling (host [0x23, 15] member)) 15).phase = some .cancelling ∧
    (let e := ready (.ask 63 .sole false 40) (some 15)
     let s := queue ([ready (.yield 1) (some 1)] ++ e :: []) (tag15 .sending (host [0x23, 15] member))
     roomFor .cancel s = true ∧ (tagAt s 15).phase = some .sending ∧ (tagAt s 15).cancelPending = false ∧
       e.binding = some 15 ∧ e.frame.kind = .ask ∧ e.onBus = false ∧
       (∀ x ∈ [ready (.yield 1) (some 1)] ++ [], x.binding ≠ some 15) ∧ NoWarnPending s ∧
       ∀ n ∈ s.notices.entries, n.isWarnOf 15 = false) := by decide +kernel

theorem witness_TickCounts :
    (Powered member ∧ TablesLawful member ∧ member.watch.pause = false) ∧
      (let s := { member with watch.pause := true }
       Powered s ∧ TablesLawful s ∧ s.watch.pause = true) := by decide +kernel

/-- Station 3 holds claim 63 with lease 4, whose warn point is 1, on tag 15, its watch at `v`. -/
def warnState (v : Nat) (warned : Bool) : State :=
  tag15 .held (claim63 7 [⟨3, .sole, 4, 7⟩] [] (setWatch 63 3 (some ⟨7, v, warned⟩) member))

theorem witness_WarnAtTheWarnPoint :
    (let s := notices 30 (warnState 2 false)
     Powered s ∧ TablesLawful s ∧ s.watch.pause = false ∧ slotOf (claimAt s 63) s.station.number =
         some ⟨3, .sole, 4, 7⟩ ∧ (tagAt s 15).inUse = true ∧ (tagAt s 15).claim = 63 ∧
       (tagAt s 15).phase = some .held ∧ (tagAt s 15).warnLatch = false ∧
       (∀ m < 16, m ≠ 15 → (tagAt s m).inUse = true → (tagAt s m).claim ≠ 63) ∧
       watchAt s 63 s.station.number = some ⟨7, max 1 (4 / 4) + 1, false⟩ ∧ freePlaces s = 16) ∧
    freePlaces (notices 46 (warnState 2 false)) = 0 ∧
    watchAt (warnState 1 true) 63 3 = some ⟨7, 0 + 1, true⟩ := by decide +kernel

theorem witness_PendingWarnsArePosted :
    (let s := setTag 0 { tagIn .held 1 with warnLatch := true }
      (setTag 15 { tagIn .held 63 with warnLatch := true } (notices 44 member))
     Powered s ∧ freePlaces s = 1 ∧
      ((List.range 16).filter (fun n => (tagAt s n).warnLatch)).take (freePlaces s) = [0]) ∧
    NoWarnPending member ∧ freePlaces (notices 47 member) = 0 := by decide +kernel

theorem witness_OwedFramesAreQueued :
    (Powered (warnState 0 true) ∧ Due (warnState 0 true) (.lapse 63 3 7) ∧
      keyPresent (.lapse 63 3 7) (warnState 0 true) = false) ∧
    Due { member with watch.roll := some 16 } (.roll false) ∧
    (Due { member with watch.silence := [(5, some 64)] } (.drop 5) ∧ member.station.state = .member) ∧
    Due (inState .entering) .enter ∧ ∀ f, ¬ Due member f := by
  simp only [← mem_dueFrames_iff]
  exact ⟨by decide +kernel, by decide +kernel, by decide +kernel, by decide +kernel, fun f => by
    rw [show dueFrames member = [] by decide +kernel]; simp⟩

theorem witness_ListenAndRestTimersExpire :
    (let s := notices 46 { inState .listen with watch.listen := some 48 }
     Powered s ∧ s.station.state = .listen ∧ s.watch.listen = some (3 * s.station.setup.r) ∧ s.tx.entries = [] ∧
       (∀ e ∈ s.apply.rx, e.own = false) ∧ 0 < freePlaces s) ∧
    { inState .listen with watch.listen := some 47 }.watch.listen ≠ some (3 * 16) ∧
    (let s := notices 46 { inState .sidelined with watch.rest := some 16 }
     Powered s ∧ s.station.state = .sidelined ∧ s.watch.rest = some s.station.setup.r ∧ 0 < freePlaces s) ∧
    { inState .sidelined with watch.rest := some 15 }.watch.rest ≠ some 16 := by decide +kernel

theorem witness_CopyWaitEnds :
    (let s : State := { member with
       station.state := .awaitCopy
       station.attempts := 2
       watch.copyWait := some 128
       watch.silence := [(5, some 64)] }
     Powered s ∧ s.station.state = .awaitCopy ∧ s.watch.copyWait = some (8 * s.station.setup.r) ∧
       isLoading s = false ∧ s.station.attempts < 3 ∧ internalHeld s < 3 ∧ 0 < freePlaces s ∧
       (5 ≠ s.station.number ∧ silenceAt s 5 = some (4 * s.station.setup.r)) ∧ 3 = s.station.number) ∧
    (let s : State := { inState .awaitCopy with station.attempts := 3, watch.copyWait := some 128 }
     isLoading s = false ∧ s.station.attempts = 3 ∧ NoTags s ∧ 0 < freePlaces s) ∧
    isLoading { inState .awaitCopy with train.partialCopy := true } = true := by
  decide +kernel

/-- Two own frames in one queue: a DROP of 5 ready behind an ASK. -/
def twoReady : State := queue [ready (.ask 1 .sole false 9) (some 15), ready (.drop 5) none] member

theorem witness_FirstEligibleEntryOpensAfterItsGap :
    (AtGap twoReady ∧ twoReady.tx.offered = none ∧ (ready (.drop 5) none).onBus = false ∧
      eligible 3 .member (.drop 5) = true ∧ FrameKind.code .drop < FrameKind.code .ask ∧
      10 * cyclesPerBit twoReady ≤ idleAfter 10 twoReady ∧ FrameKind.code .drop < 9) ∧
    (∀ x ∈ twoReady.tx.entries, ¬ Stale x twoReady) ∧
    idleAfter 9 twoReady < 10 * cyclesPerBit twoReady ∧
    (let s := { queue [ready (.ask 1 .sole false 9) (some 15)] member with tx.fairGap := true }
     AtGap s ∧ s.tx.offered = none ∧ s.tx.fairGap = true ∧
      (∀ x ∈ s.tx.entries, eligible s.station.number s.station.state x.frame = true → 9 ≤ x.frame.kind.code) ∧
      idleAfter 19 s < 20 * cyclesPerBit s ∧ 20 * cyclesPerBit s ≤ idleAfter 20 s) := by
  simp only [← isStale_iff]
  decide +kernel

theorem witness_StaleEntriesAreRemoved :
    (let s := queue [ready (.drop 6) none, ready (.roll false) none, ready (.ask 1 .sole false 9) (some 15)] member
     AtGap s ∧ 10 * cyclesPerBit s ≤ idleAfter 10 s ∧ (∃ e ∈ s.tx.entries, e.onBus = false) ∧
      (∀ e ∈ s.tx.entries, e.onBus = false → Stale e s → e.binding = none ∨ e.frame.kind = .yield) ∧
      Stale (ready (.drop 6) none) s) ∧
    (let e := ready (.ask 63 .sole false 40) (some 15)
     let s := queue [e] (tag15 .sending { member with replica.roster := [(5, .member)] })
     AtGap s ∧ Stale e s ∧ (tagAt s 15).inUse = true ∧ NoWarnPending s ∧
      ∀ m ∈ s.notices.entries, m.isWarnOf 15 = false) ∧
    (let e := ready (.cancel 63) (some 15)
     let s := queue [e] (notices 45 (tag15 .held member))
     AtGap s ∧ Stale e s ∧ (tagAt s 15).phase = some .held ∧ 0 < freePlaces s) ∧
    (let e := ready (.extend 63 9) (some 15)
     let s := queue [e] (tag15 .held member)
     AtGap s ∧ Stale e s ∧ (tagAt s 15).inUse = true) := by
  simp only [← isStale_iff]
  decide +kernel

theorem witness_FrameIsAccepted :
    let s := { rx (List.replicate 3 (from5 .drop [9])) member with link.bus := .inFrame, train.run := .running }
    let f := frame 1#4 31#5 [4]
    TakesFrames s ∧ readFrame (BusFrame.bits f) = some f ∧ FrameKind.ofCode f.kind.toNat = some .drop ∧
      FrameKind.isTrain .drop = false ∧ FrameKind.lengthOk .drop f.length.toNat = true ∧
      f.check = BusFrame.computedCheck f ∧ s.apply.rx.length < 4 ∧ f.sender.toNat ≠ s.station.number ∧
      s.link.bus ≠ .inRelinked ∧ s.train.failed = false := by decide +kernel

/-- The head of a train from station 1, copy source of 1 and 3, for station 9, at the ends of k and occupancy. -/
def head64 : HeadFields := ⟨0x0A#32, 0x200#32, 64, 128⟩

/-- Station 3 loads the train of station 1, of which claim 3 has been accepted, with this run digest. -/
def loadingFrom1 (k : Nat) : State := { inState .awaitCopy with
  link.bus := .inRelinked
  link.chain := true
  link.train := some ⟨1, 0x0A02#32, 0x08#32, k, 2, 1, some 3, true, 1, 0x1234#16⟩ }

/-- A TRAIN-CLAIM at the ends of its ranges: claim 63, serial 255, ticks left at lease and grace. -/
def claimEnds : ClaimFields :=
  ⟨63, 255, [(⟨1, .shared, 4095, 254⟩, 4606), (⟨9, .shared, 1, 255⟩, 3)], [⟨11, .sole, 4095⟩]⟩

theorem witness_TrainFramesAreAccepted :
    (let s := { member with replica.roster := [(1, .member), (3, .member), (9, .joining)] }
     let f := frame 6#4 1#5 (headBytes head64)
     TakesFrames s ∧ readFrame (BusFrame.bits f) = some f ∧ f.kind = 6#4 ∧ parseHead f.payload = some head64 ∧
      f.length = 10#7 ∧ f.check = BusFrame.computedCheck f ∧ s.apply.rx = [] ∧ f.sender.toNat ≠ s.station.number ∧
      s.link.bus ≠ .inRelinked ∧ head64.k ≤ 64 ∧ head64.occupancy ≤ 128 ∧
      head64.members.getLsbD f.sender.toNat = true ∧ head64.members &&& head64.joining = 0#32 ∧
      copySource s = some f.sender.toNat) ∧
    (let h : HeadFields := ⟨0x02#32, 0x08#32, 0, 0⟩
     let f := frame 6#4 1#5 (headBytes h)
     parseHead f.payload = some h ∧ h.joining.getLsbD (inState .awaitCopy).station.number = true ∧
      TakesFrames (inState .awaitCopy) ∧ (inState .awaitCopy).apply.rx = []) ∧
    (let s := rx (List.replicate 3 (from5 .drop [9])) (loadingFrom1 2)
     let f := frame 7#4 1#5 (claimBytes claimEnds)
     let r : LinkTrain := ⟨1, 0x0A02#32, 0x08#32, 2, 2, 1, some 3, true, 1, 0x1234#16⟩
     TakesFrames s ∧ readFrame (BusFrame.bits f) = some f ∧ f.check = BusFrame.computedCheck f ∧
      f.sender.toNat ≠ s.station.number ∧ s.link.train = some r ∧ f.sender.toNat = r.sender ∧
      s.apply.rx.length < 4 ∧ parseClaim f.payload = some claimEnds ∧ f.length.toNat ≤ 111 ∧ r.count < r.k ∧
      claimEnds.claim < 64 ∧ 3 < claimEnds.claim ∧ claimEnds.holders ≠ [] ∧ claimEnds.holders.length ≤ 4 ∧
      r.loads = true ∧ ¬ ClaimContentFails s.station.number r claimEnds) ∧
    (let r : LinkTrain := ⟨1, 0x0A02#32, 0x08#32, 1, 1, 1, some 63, true, 1, 0x1234#16⟩
     let s : State := { loadingFrom1 1 with link.train := some r }
     let f := frame 8#4 1#5 [0x12, 0x34]
     TakesFrames s ∧ readFrame (BusFrame.bits f) = some f ∧ f.check = BusFrame.computedCheck f ∧
      parseTail f.payload = some 0x1234#16 ∧ r.k ≤ r.count ∧ r.loads = true ∧ ¬ TailContentFails r 0x1234#16 ∧
      s.train.failed = false) := by
  refine ⟨?_, ?_, ?_, ?_⟩ <;> decide +kernel

theorem witness_VetoRunCountsVetoes :
    (let s := { member with link.vetoRun := 6 }
     let f := { frame 1#4 5#5 [4] with check := 0#16 }
     TakesFrames s ∧ readFrame (BusFrame.bits f) = some f ∧ VetoReason f s ∧ s.link.vetoRun < 7) ∧
    (let s := { rx (List.replicate 4 (from5 .drop [9])) member with link.vetoRun := 7 }
     TakesFrames s ∧ VetoReason (frame 1#4 5#5 [4]) s ∧ s.link.vetoRun = 7) ∧
    (¬ VetoReason (frame 1#4 5#5 [4]) member ∧ ¬ NonSourceHead (frame 1#4 5#5 [4]) member) ∧
    (let f := frame 6#4 5#5 (headBytes ⟨0x28#32, 0x200#32, 64, 128⟩)
     readFrame (BusFrame.bits f) = some f ∧ ¬ VetoReason f member ∧ NonSourceHead f member) ∧
    (∃ g, parseClaim (claimBytes claimEnds) = some g ∧
      ClaimContentFails 9 ⟨1, 0x0A02#32, 0x200#32, 2, 2, 1, some 3, true, 1, 0#16⟩ g) ∧
    member.link.sending = none := by
  refine ⟨⟨by decide +kernel, by decide +kernel, .inl (by decide +kernel), by decide +kernel⟩,
    ⟨by decide +kernel, .inr (.inr (.inl (by decide +kernel))), rfl⟩, ⟨?_, fun h => absurd h.1 (by decide +kernel)⟩,
    ⟨by decide +kernel, ?_, ?_⟩, ⟨claimEnds, by decide +kernel, by decide +kernel⟩, rfl⟩
  · rintro (h | h | h | h | h | h | h | h)
    · exact absurd h (by decide +kernel)
    · exact absurd (h .drop rfl) (by decide)
    · exact absurd h (by decide)
    · exact absurd h (by decide)
    · exact absurd h.1 (by decide)
    all_goals exact absurd h.1 (by decide +kernel)
  · rintro (h | h | h | h | h | h | h | h)
    · exact absurd h (by decide +kernel)
    · exact absurd (h .trainHead rfl) (by decide +kernel)
    · exact absurd h (by decide)
    · exact absurd h (by decide +kernel)
    · exact absurd h.1 (by decide)
    · rcases h.2 with h | h | h
      · exact absurd rfl h
      · exact absurd h.1 (by decide)
      · exact absurd (h ⟨0x28#32, 0x200#32, 64, 128⟩ (by decide +kernel)) (by decide +kernel)
    all_goals exact absurd h.1 (by decide +kernel)
  · exact ⟨by decide +kernel, .inl rfl, by decide +kernel, ⟨_, rfl, by decide +kernel⟩⟩

/-- An EXTEND on tag 15 ON_BUS between two READY frames, with so many retries counted. -/
def trying (f : TxFrame) (binding : Option Nat) (retries : Nat) (s : State) : State :=
  queue ([ready (.roll false) none] ++ onBus f binding retries :: [ready (.yield 1) (some 1)]) s

theorem witness_AcceptedFrameIsQueuedForApplication :
    (let s := sending .cancel [63] (trying (.cancel 63) (some 15) 9 member)
     Powered s ∧ s.link.sending = some ⟨.cancel, [63]⟩ ∧ FrameKind.isTrain .cancel = false ∧
      (onBus (.cancel 63) (some 15) 9).onBus = true ∧
      (∀ x ∈ [ready (.roll false) none] ++ [ready (.yield 1) (some 1)], x.onBus = false) ∧
      (onBus (.cancel 63) (some 15) 9).dead = false) ∧
    (∀ d < 32, d ≠ 3 → rosterAt (inState .member) d = .absent) := by decide +kernel

theorem witness_UnacceptedFrameReturnsToReady :
    (let e := onBus (.yield 63) (some 15) 8
     let s := { sending .yield [63, 7] (trying e.frame e.binding e.retries member) with
      link.unheardRun := 2
      link.clashRun := 2 }
     Powered s ∧ s.link.sending = some ⟨.yield, [63, 7]⟩ ∧ e.onBus = true ∧ e.dead = false ∧
      FrameKind.isTrain .yield = false ∧ e.frame ≠ .trainHead ∧ s.station.state = .member ∧
      cancelPendingOf e s = none ∧ e.retries + 1 < s.station.setup.retryLimit ∧ listsAnother s = true ∧
      s.link.unheardRun < 3 ∧ s.link.clashRun < 3 ∧
      BeatenAt (sentBits s) ((sentBits s).set 8 false) 8 ∧ BeatenAt (sentBits s) ((sentBits s).set 14 false) 14) ∧
    (let e := onBus (.ask 63 .sole false 40) (some 15) 9
     let s := sending .ask [63, 0, 0, 40] (trying e.frame e.binding e.retries
      (setTag 15 { tagIn .sending 63 with cancelPending := true } member))
     cancelPendingOf e s = some 15 ∧ NoWarnPending s ∧
      (∀ x ∈ [ready (.roll false) none] ++ [ready (.yield 1) (some 1)], x.binding ≠ some 15) ∧
      ∀ m ∈ s.notices.entries, m.isWarnOf 15 = false) ∧
    ∀ s : State, CutShort (sentBits s) (sentBits s ++ [false]) := by
  refine ⟨?_, ?_, fun s => cutShort_own _ _ (by simp)⟩ <;> decide +kernel

theorem witness_RetryLimitRemovesTheFrame :
    (let s := sending .ask [63, 0, 0, 40] (trying (.ask 63 .sole false 40) (some 15) 9 (notices 44 (tag15 .sending member)))
     Powered s ∧ (tagAt s 15).inUse = true ∧ (tagAt s 15).cancelPending = false ∧ s.station.setup.retryLimit ≤ 9 + 1 ∧
      0 < freePlaces s ∧ NoWarnPending s ∧ ∀ m ∈ s.notices.entries, m.isWarnOf 15 = false) ∧
    (tagAt (trying (.yield 63) (some 15) 9 (tag15 .yielding member)) 15).phase = some .yielding ∧
    (tagAt (trying (.cancel 63) (some 15) 9 (tag15 .cancelling member)) 15).phase = some .cancelling ∧
    (let s := notices 44 (trying (.cancel 63) (some 15) 9 (tag15 .held member))
     (tagAt s 15).phase = some .held ∧ 1 < freePlaces s) ∧
    (tagAt (trying (.extend 63 9) (some 15) 9 (tag15 .held member)) 15).inUse = true ∧
    (let s := sending .drop [5] (trying (.drop 5) none 9 (notices 46 member))
     Powered s ∧ s.station.state = .member ∧ s.station.setup.retryLimit ≤ 9 + 1 ∧ 0 < freePlaces s) ∧
    (let s := sending .enter [] (trying .enter none 9 (inState .entering))
     s.station.state = .entering ∧ s.apply.rx = [] ∧ internalHeld s ≤ 3 ∧
      ∀ x ∈ [ready (.roll false) none] ++ [ready (.yield 1) (some 1)], x.frame ≠ .enter) ∧
    (let s := sending .drop [3] (trying (.drop 3) none 9 (inState .leaving))
     s.station.state = .leaving ∧ s.apply.rx = [] ∧ internalHeld s ≤ 3 ∧
      ∀ x ∈ [ready (.roll false) none] ++ [ready (.yield 1) (some 1)], x.frame.kind ≠ .drop) := by decide +kernel

theorem witness_ClashRunHalts :
    (let e := onBus .trainHead none 8
     let s := { sending .trainTail [0, 0] (trying e.frame none 8 member) with link.clashRun := 2 }
     Powered s ∧ s.link.sending = some ⟨.trainTail, [0, 0]⟩ ∧ onBusEntry s = some e ∧
      e.retries + 1 < s.station.setup.retryLimit ∧ s.link.clashRun < 3 ∧
      BeatenAt (sentBits s) ((sentBits s).set 8 false) 8 ∧ BeatenAt (sentBits s) ((sentBits s).set 14 false) 14 ∧
      (sentBits s).drop (sentBits s).length ≠ [true]) ∧
    (let s := { sending .drop [5] (trying (.drop 5) none 9 member) with link.clashRun := 3 }
     onBusEntry s = some (onBus (.drop 5) none 9) ∧ (onBus (.drop 5) none 9).frame ≠ .trainHead ∧
      s.link.clashRun = 3 ∧ s.station.state.sends = true ∧ BeatenAt (sentBits s) ((sentBits s).set 15 false) 15) ∧
    ∀ own : List Bool, CutShort own (own ++ []) := by
  refine ⟨?_, ?_, fun own => cutShort_own own [] (by simp)⟩ <;> decide +kernel

theorem witness_UnheardRunSidelines :
    (let s := { sending .drop [5] (trying (.drop 5) none 9 member) with link.unheardRun := 2, link.clashRun := 2 }
     Powered s ∧ onBusEntry s = some (onBus (.drop 5) none 9) ∧ (onBus (.drop 5) none 9).frame ≠ .trainHead ∧
      listsAnother s = true ∧ s.link.unheardRun < 3 ∧ s.link.clashRun < 3) ∧
    listsAnother (inState .member) = false ∧
    (let s := { sending .drop [5] (trying (.drop 5) none 9 member) with link.unheardRun := 3 }
     listsAnother s = true ∧ s.link.unheardRun = 3 ∧ s.station.state.sends = true ∧
      BeatenAt (sentBits s) ((sentBits s).set 8 false) 8 ∧ BeatenAt (sentBits s) ((sentBits s).set 15 false) 15) ∧
    ((sending .trainTail [0, 0] member).link.sending = some ⟨.trainTail, [0, 0]⟩) := by decide +kernel

/-- Station 3 sends its train: this frame, so many claims accepted of k. -/
def sourcing (k : FrameKind) (p : List Byte) (c : Composer) : State :=
  { sending k p (trying .trainHead none 8 (claim63 7 [⟨5, .shared, 9, 7⟩] [] member)) with train.composer := some c }

theorem witness_TrainSourceRelinks :
    (let s := rx [from5 .drop [9], from5 .drop [9]] (sourcing .trainHead [] ⟨1, 0, none⟩)
     Powered s ∧ onBusEntry s = some (onBus .trainHead none 8) ∧ s.train.composer = some ⟨1, 0, none⟩ ∧
      s.train.failed = false ∧
      s.apply.rx.length < 3 ∧ 0 ≠ 1 ∧ (claimAt s 63).holders ≠ [] ∧
      ∀ a < 63, (claimAt s a).holders = []) ∧
    (sourcing .trainClaim [] ⟨1, 0, some 63⟩).train.composer = some ⟨1, 0, some 63⟩ ∧
    (let s := sourcing .trainTail [] ⟨1, 1, some 63⟩
     onBusEntry s = some (onBus .trainHead none 8) ∧ s.link.unheardRun < 3 ∧ s.station.state.receives = true ∧
      s.link.bus = .inFrame) := by decide +kernel

theorem witness_IncompleteTrainReturns :
    (let s := sourcing .trainClaim [1, 2] ⟨1, 0, some 63⟩
     Powered s ∧ s.station.state = .member ∧ 8 + 1 < s.station.setup.retryLimit ∧ s.link.clashRun < 3 ∧
      s.link.sending = some ⟨.trainClaim, [1, 2]⟩ ∧ BeatenAt (sentBits s) ((sentBits s).set 14 false) 14) ∧
    (let s := sending .trainHead [] (trying .trainHead none 9 member)
     s.station.state = .member ∧ s.station.setup.retryLimit ≤ 9 + 1 ∧
      BeatenAt (sentBits s) ((sentBits s).set 8 false) 8) ∧
    (sending .trainHead [] (trying .trainHead none 9 (inState .leaving))).station.state = .leaving ∧
    (rx (List.replicate 3 (from5 .drop [9])) (sourcing .trainHead [] ⟨1, 0, none⟩)).apply.rx.length = 3 ∧
    (let s : State := { trying .trainHead none 8 member with train.failed := true, link.bus := .inFrame, link.vetoRun := 6 }
     s.train.failed = true ∧ s.link.sending = none ∧ s.station.state.receives = true ∧ s.train.run ≠ .ended ∧
      s.link.vetoRun < 7 ∧ readFrame (BusFrame.bits (frame 1#4 5#5 [4])) = some (frame 1#4 5#5 [4])) ∧
    ∀ own : List Bool, CutShort own (own ++ [false]) := by
  refine ⟨?_, ?_, ?_, ?_, ?_, fun own => cutShort_own own _ (by simp)⟩ <;> decide +kernel

theorem witness_StallAndBreakEndTheFrame :
    (let s := { member with link.bus := .inRelinked, train.run := .running, watch.pause := true }
     Powered s ∧ s.station.state.receives = true ∧ s.link.bus = .inRelinked ∧ s.link.sending = none ∧
      s.train.failed = false) ∧
    (let e := onBus (.drop 5) none 8
     let s := sending .drop [5] (trying e.frame none 8 member)
     s.link.bus = .inFrame ∧ e.dead = false ∧ e.frame ≠ .trainHead ∧ cancelPendingOf e s = none ∧
      s.station.state = .member ∧ e.retries + 1 < s.station.setup.retryLimit) ∧
    ∀ own : List Bool, CutShort own (own ++ []) := by
  refine ⟨?_, ?_, fun own => cutShort_own own _ (by simp)⟩ <;> decide +kernel

theorem witness_LineEventsMoveTheBus :
    (Powered (inState .sidelined) ∧ (inState .sidelined).station.state.receives = false) ∧
    (let s := tag15 .cancelling (setTag 0 (tagIn .yielding 1) member)
     Powered s ∧ s.station.state.receives = true ∧ (tagAt s 15).phase = some .cancelling ∧
      (tagAt s 0).phase = some .yielding) ∧
    (NoTags (notices 46 (inState .listen)) ∧ 0 < freePlaces (notices 46 (inState .listen))) ∧
    { member with link.bus := .busy }.link.bus = .busy ∧ member.train.failed = false ∧ member.link.bus = .idle := by decide +kernel

/-- An incomplete run waits for its end, with a record in this state. -/
def runOver (loading : Bool) (s : State) : State := { s with
  train.run := .ended
  train.partialCopy := loading
  apply.record := some ⟨1, 0x0A#32, 0x200#32, 2, 1, 1, some 3, loading⟩ }

theorem witness_IncompleteRunEnds :
    (let s := rx [from5 .drop [9]] (runOver false member)
     Powered s ∧ s.train.run = .ended ∧ (∀ e ∈ s.apply.rx, e.kind.isTrain = false ∧ e.loads = false) ∧
      s.train.partialCopy = false) ∧
    (let s := runOver true { inState .awaitCopy with watch.copyWait := some 127 }
     s.station.state = .awaitCopy ∧ s.watch.copyWait ≠ some (8 * s.station.setup.r) ∧
      s.train.partialCopy = true) ∧
    (let s := runOver true (tag15 .sending (setTag 0 (tagIn .held 1) member))
     s.station.state = .member ∧ internalHeld s < 3 ∧ (tagAt s 15).phase = some .sending ∧
      (tagAt s 0).phase = some .held) := by decide +kernel

/-- The oldest received frame is `e`, with a DROP behind it. -/
def applying (e : RxEntry) (s : State) : State := rx [e, from5 .drop [9]] s

/-- FrontIs for the states above. -/
abbrev Front (k : FrameKind) (e : RxEntry) (s : State) : Prop := FrontIs (applying e s) k e [from5 .drop [9]]

/-- Claim 63 full with four SHARED holders. -/
def fullClaim (s : State) : State :=
  claim63 255 ((List.range 4).map (fun i => ⟨8 + i, .shared, 9, 252 + i⟩)) [] s

/-- 128 waiters stand in the queues. -/
def poolFull (s : State) : State := { s with
  replica.claims := (List.range 64).map
    (fun c => (c, ⟨1, [⟨9, .sole, 9, 1⟩], [⟨10, .sole, 9⟩, ⟨11, .shared, 9⟩]⟩)) }

theorem witness_AskOfAnotherStationIsDecided :
    (let e := from5 .ask [63, 3, 0x0F, 0xFF]
     Front .ask e member ∧ member.station.state = .member ∧ e.own = false ∧ e.sender ≠ 3 ∧ rosterAt member 5 = .member ∧
      (63#8 : Byte).toNat < 64 ∧ (3#8 : Byte).toNat < 4 ∧ 1 ≤ u16 0x0F 0xFF ∧ u16 0x0F 0xFF ≤ 4095 ∧
      (claimAt (applying e member) 63).waiters = [] ∧ (claimAt (applying e member) 63).holders = []) ∧
    (let s := claim63 255 ((List.range 3).map (fun i => ⟨8 + i, .shared, 9, i⟩)) [] member
     (claimAt s 63).waiters = [] ∧ (∀ h ∈ (claimAt s 63).holders, h.mode = .shared) ∧
      (claimAt s 63).holders.length < 4) ∧
    (Front .ask (from5 .ask [64, 0, 0, 1]) member ∧ 64 ≤ (64#8 : Byte).toNat ∧ 4 ≤ (4#8 : Byte).toNat ∧ u16 0 0 = 0 ∧
      4095 < u16 0x10 0) ∧
    rosterAt (inState .member) 5 ≠ .member ∧
    (∃ h ∈ (claimAt (claim63 7 [⟨5, .sole, 9, 7⟩] [] member) 63).holders, h.station = 5) ∧
    (¬ (claimAt (fullClaim member) 63).holders.length < 4 ∧ occupancy (fullClaim member) < 128) ∧
    (128 ≤ occupancy (poolFull member) ∧ (claimAt (poolFull member) 63).waiters ≠ [] ∧
      ((3#8 : Byte)).getLsbD 1 = true) := by decide +kernel

theorem witness_OwnAskReachesItsTag :
    (let e := own3 .ask [63, 0, 0x0F, 0xFF] (some 15)
     let s := notices 44 (tag15 .sending member)
     Front .ask e s ∧ e.sender = s.station.number ∧ e.binding = some 15 ∧ (tagAt s 15).inUse = true ∧
      (tagAt s 15).phase = some .sending ∧ (63#8 : Byte).toNat < 64 ∧ (0#8 : Byte).toNat < 4 ∧ 2 ≤ u16 0x0F 0xFF ∧
      u16 0x0F 0xFF ≤ 4095 ∧ rosterAt s 3 = .member ∧ (claimAt s 63).holders = [] ∧ (claimAt s 63).waiters = [] ∧
      (tagAt s 15).cancelPending = false ∧ 0 < freePlaces s ∧ NoWarnPending s ∧
      ∀ m ∈ s.notices.entries, m.isWarnOf 15 = false) ∧
    (let s := notices 43 (setTag 15 { tagIn .sending 63 with cancelPending := true } member)
     Front .ask (own3 .ask [63, 1, 0, 2] (some 15)) s ∧ 2 ≤ u16 0 2 ∧ (tagAt s 15).cancelPending = true ∧
      1 < freePlaces s ∧ (tagAt s 15).reservations = 2) ∧
    (let s := fullClaim (notices 44 (tag15 .sending member))
     rosterAt s 3 = .member ∧ ¬ (∃ h ∈ (claimAt s 63).holders, h.station = 3) ∧
      ¬ (claimAt s 63).holders.length < 4 ∧ occupancy s < 128 ∧ 0 < freePlaces s) ∧
    (let s := poolFull (tag15 .sending member)
     (claimAt s 63).waiters ≠ [] ∧ 128 ≤ occupancy s ∧ NoWarnPending s) ∧
    (∃ w ∈ (claimAt (claim63 7 [⟨5, .sole, 9, 7⟩] [⟨3, .sole, 9⟩] member) 63).waiters, w.station = 3) ∧
    rosterAt { member with replica.roster := [(3, .joining), (5, .member)] } 3 ≠ .member := by decide +kernel

theorem witness_MatchingYieldOrLapseRemovesTheHold :
    (let e := own3 .yield [63, 255] (some 15)
     let s := claim63 255 [⟨3, .sole, 9, 255⟩] [⟨5, .shared, 9⟩, ⟨8, .shared, 9⟩, ⟨9, .sole, 9⟩] (tag15 .yielding member)
     Front .yield e s ∧ parseYield e.payload = some (63, 255) ∧ rosterAt s 3 = .member ∧
      slotOf (claimAt s 63) 3 = some ⟨3, .sole, 9, 255⟩ ∧ (∀ w ∈ (claimAt s 63).waiters, w.station ≠ 3) ∧
      (tagAt s 15).inUse = true ∧ (tagAt s 15).claim = 63 ∧
      (tagAt s 15).phase ∈ [Phase.yielding].map some ∧
      ∀ m < 16, m ≠ 15 → (tagAt s m).inUse = true → (tagAt s m).claim ≠ 63) ∧
    (let e := from5 .lapse [63, 31, 0]
     let s := claim63 255 [⟨31, .shared, 9, 0⟩, ⟨8, .shared, 9, 255⟩] [⟨9, .sole, 9⟩] { member with station.state := .leaving }
     Front .lapse e s ∧ parseLapse e.payload = some (63, 31, 0) ∧ slotOf (claimAt s 63) 31 = some ⟨31, .shared, 9, 0⟩) ∧
    (Front .yield (from5 .yield [63, 7]) member ∧ ∀ x ∈ (claimAt member 63).holders, x.station = 5 → x.serial ≠ 7) ∧
    (Front .lapse (from5 .lapse [0, 32, 0]) member ∧ 32 ≤ (32#8 : Byte).toNat) ∧
    rosterAt (inState .member) 5 ≠ .member := by
  refine ⟨?_, ?_, ?_, ?_, ?_⟩ <;> decide +kernel

theorem witness_MatchingExtendRenewsTheHold :
    (let e := from5 .extend [63, 255, 0x0F, 0xFF]
     let s := claim63 255 [⟨8, .shared, 9, 254⟩, ⟨5, .shared, 9, 255⟩] [] member
     Front .extend e s ∧ parseExtend e.payload = some (63, 255, 4095) ∧ rosterAt s 5 = .member ∧
      slotOf (claimAt s 63) 5 = some ⟨5, .shared, 9, 255⟩ ∧ e.sender ≠ s.station.number) ∧
    (let e := own3 .extend [63, 7, 0, 2] (some 15)
     let s := notices 45 (claim63 7 [⟨3, .sole, 9, 7⟩] [] (tag15 .held member))
     Front .extend e s ∧ parseExtend e.payload = some (63, 7, 2) ∧ rosterAt s 3 = .member ∧
      slotOf (claimAt s 63) 3 = some ⟨3, .sole, 9, 7⟩ ∧ 2 ≤ 2 ∧ 0 < freePlaces s ∧ (tagAt s 15).inUse = true ∧
      (tagAt s 15).claim = 63 ∧ (tagAt s 15).phase = some .held ∧
      ∀ m < 16, m ≠ 15 → (tagAt s m).inUse = true → (tagAt s m).claim ≠ 63) ∧
    (Front .extend (from5 .extend [64, 7, 0, 1]) member ∧ rosterAt (inState .member) 5 ≠ .member) ∧
    (let e := own3 .extend [63, 6, 0x10, 0] (some 15)
     let s := claim63 7 [⟨3, .sole, 9, 7⟩] [] (tag15 .held member)
     Front .extend e s ∧ parseExtend e.payload = some (63, 6, 4096) ∧ e.own = true ∧ e.binding = some 15 ∧
      (tagAt s 15).inUse = true) := by
  refine ⟨?_, ?_, ?_, ?_⟩ <;> decide +kernel

theorem witness_CancelRemovesTheWaiter :
    (let e := from5 .cancel [63]
     let s := claim63 7 [⟨8, .sole, 9, 7⟩] [⟨9, .sole, 9⟩, ⟨5, .sole, 9⟩] member
     Front .cancel e s ∧ rosterAt s 5 = .member ∧ (∃ w ∈ (claimAt s 63).waiters, w.station = e.sender) ∧
      (∀ w ∈ (claimAt s 63).waiters.head?, w.station ≠ e.sender) ∧ e.sender ≠ s.station.number) ∧
    (let e := own3 .cancel [63] (some 15)
     let s := claim63 255 [⟨8, .shared, 9, 7⟩] [⟨3, .sole, 9⟩, ⟨5, .shared, 9⟩, ⟨9, .sole, 9⟩] (tag15 .cancelling member)
     Front .cancel e s ∧ rosterAt s 3 = .member ∧ (claimAt s 63).holders ≠ [] ∧
      (claimAt s 63).waiters.head? = some ⟨3, .sole, 9⟩ ∧ (tagAt s 15).inUse = true ∧ (tagAt s 15).claim = 63 ∧
      (tagAt s 15).phase = some .cancelling ∧
      ∀ m < 16, m ≠ 15 → (tagAt s m).inUse = true → (tagAt s m).claim ≠ 63) ∧
    (let s := notices 45 (tag15 .held member)
     Front .cancel (own3 .cancel [64] (some 15)) s ∧ (tagAt s 15).phase = some .held ∧ 0 < freePlaces s ∧
      rosterAt s 3 = .member) ∧
    (tagAt (tag15 .cancelling member) 15).phase ≠ some .held ∧ rosterAt (inState .member) 5 ≠ .member := by
  decide +kernel

theorem witness_DropPurgesTheStation :
    (Front .drop (from5 .drop [32]) member ∧ 32 ≤ (32#8 : Byte).toNat ∧ rosterAt member 31 = .absent) ∧
    (let s := { table12_9 with station.number := 31, replica.roster := [(0, .member), (4, .member), (31, .member)] }
     Front .drop (from5 .drop [0]) s ∧ (0#8 : Byte).toNat ≠ s.station.number ∧ rosterAt s 0 ≠ .absent ∧
      ∀ c < 64, ∀ w ∈ (claimAt s c).waiters, w.station < 32) ∧
    (let s := claim63 255 [⟨5, .sole, 9, 255⟩] [⟨3, .shared, 1⟩, ⟨31, .shared, 9⟩] (tag15 .waiting member)
     ((claimAt s 63).holders.map (·.station) ++ (claimAt s 63).waiters.map (·.station)).Nodup ∧
      (tagAt s 15).inUse = true ∧ (tagAt s 15).claim = 63 ∧
      ∀ m < 16, m ≠ 15 → (tagAt s m).inUse = true → (tagAt s m).claim ≠ 63) ∧
    (let s := notices 46 { member with station.state := .leaving }
     Front .drop (own3 .drop [3] none) s ∧ rosterAt s 3 ≠ .absent ∧ s.station.state = .leaving ∧ NoTags s ∧
      0 < freePlaces s) ∧
    (let s := setTag 1 (tagIn .cancelling 2) (setTag 0 (tagIn .held 1) (tag15 .sending member))
     Front .drop (from5 .drop [3]) s ∧ s.station.state = .member ∧ 5 ≠ s.station.number ∧
      internalHeld (atFront (from5 .drop [3]) [from5 .drop [9]] (applying (from5 .drop [3]) s)) < 3 ∧
      (tagAt s 0).phase = some .held ∧ (tagAt s 15).phase = some .sending ∧
      (tagAt s 1).phase = some .cancelling) := by
  refine ⟨?_, ?_, ?_, ?_, ?_⟩ <;> decide +kernel

/-- A purge of 5 on claim 63 grants 3 and 31 in queue order with serials 0 and 1: tag 15 is HELD and GRANTED, 3's watch
starts warned at its lease of 1 and 31's at 9 and the grace of 2. -/
theorem test_drop_grants :
    let s := claim63 255 [⟨5, .sole, 9, 255⟩] [⟨3, .shared, 1⟩, ⟨31, .shared, 9⟩] (tag15 .waiting member)
    let t := after .applyDrop (rx [⟨.drop, 8, [5], false, none, false, false⟩] s)
    claimAt t 63 = ⟨1, [⟨3, .shared, 1, 0⟩, ⟨31, .shared, 9, 1⟩], []⟩ ∧ (tagAt t 15).phase = some .held ∧
      .granted 15 0 ∈ t.notices.entries ∧ watchAt t 63 3 = some ⟨0, 1, true⟩ ∧ watchAt t 63 31 = some ⟨1, 11, false⟩ := by
  decide +kernel

theorem witness_EnterJoinsOrFounds :
    (let s := { member with replica.roster := [(3, .member)] }
     Front .enter (from5 .enter []) s ∧ rosterAt s 5 = .absent) ∧
    (Front .enter (from5 .enter []) { table12_9 with replica.roster := [(0, .member), (5, .member)] } ∧
      rosterAt member 5 ≠ .absent) ∧
    (Front .enter ⟨.enter, 31, [], false, none, false, false⟩ (inState .listen) ∧
      (inState .listen).station.state = .listen ∧ ¬ ∃ b < 32, b ≠ 31 ∧ rosterAt (inState .listen) b = .member) ∧
    (let s := notices 46 (inState .entering)
     Front .enter (own3 .enter [] none) s ∧ s.station.state = .entering ∧ 0 < freePlaces s ∧
      ¬ ∃ b < 32, b ≠ 3 ∧ rosterAt s b = .member) ∧
    (let s := { inState .entering with replica.roster := [(31, .member)] }
     Front .enter (own3 .enter [] none) s ∧ ∃ b < 32, b ≠ 3 ∧ rosterAt s b = .member) := by decide +kernel

/-- A ROLL of station `d` with this digest. -/
def rollOf (d : Nat) (joining : Bool) (dig : BitVec 16) : RxEntry :=
  ⟨.roll, d, rollBytes joining dig, false, none, false, false⟩

/-- The digest of 64 FREE claims with members 3 and 5, worked out by R189 and R191 apart from the model: 6524. Eight
claims at a time, which keeps the kernel's evaluation shallow. -/
theorem test_digest_of_free_claims : digest member.replica = 6524#16 := by
  have h : canonicalBytes member.replica = [0x00, 0x00, 0x00, 0x28] ++ freeClaimBytes 8 ++ freeClaimBytes 8 ++
      freeClaimBytes 8 ++ freeClaimBytes 8 ++ freeClaimBytes 8 ++ freeClaimBytes 8 ++ freeClaimBytes 8 ++
      freeClaimBytes 8 := by decide +kernel
  have hm : crcFrom 0xFFFF#16 [0x00, 0x00, 0x00, 0x28] = 8618#16 := by decide +kernel
  have h0 : crcFrom 8618#16 (freeClaimBytes 8) = 38645#16 := by decide +kernel
  have h1 : crcFrom 38645#16 (freeClaimBytes 8) = 13142#16 := by decide +kernel
  have h2 : crcFrom 13142#16 (freeClaimBytes 8) = 9797#16 := by decide +kernel
  have h3 : crcFrom 9797#16 (freeClaimBytes 8) = 4722#16 := by decide +kernel
  have h4 : crcFrom 4722#16 (freeClaimBytes 8) = 29953#16 := by decide +kernel
  have h5 : crcFrom 29953#16 (freeClaimBytes 8) = 24476#16 := by decide +kernel
  have h6 : crcFrom 24476#16 (freeClaimBytes 8) = 17375#16 := by decide +kernel
  have h7 : crcFrom 17375#16 (freeClaimBytes 8) = 6524#16 := by decide +kernel
  unfold digest crc
  rw [h]
  simp only [crcFrom_append, hm, h0, h1, h2, h3, h4, h5, h6, h7]

theorem witness_RollIsCompared :
    (Front .roll (rollOf 31 true 0) member ∧ parseRoll (rollOf 31 true 0).payload = some (1, 0)) ∧
    (let s := { member with station.disagree := 255 }
     (Front .roll (rollOf 5 false 0) s ∧ parseRoll (rollOf 5 false 0).payload = some (0, 0) ∧
      copySource s ≠ some 5 ∧ ¬ (rosterAt s 5 = .absent ∧ 5 < s.station.number)) ∧ 0#16 ≠ digest s.replica) ∧
    (Front .roll (rollOf 5 false 6524) member ∧ parseRoll (rollOf 5 false 6524).payload = some (0, 6524)) ∧
    (let s := setTag 0 (tagIn .held 1) (tag15 .waiting { member with station.number := 5 })
     (Front .roll (rollOf 3 false 0) s ∧ copySource s = some 3 ∧ (tagAt s 0).phase = some .held ∧
      (tagAt s 15).phase = some .waiting) ∧ 0#16 ≠ digest s.replica) ∧
    (Front .roll (rollOf 2 false 6524) member ∧ rosterAt member 2 = .absent ∧ 2 < 3 ∧
      internalHeld (atFront (rollOf 2 false 0) [] member) < 3) := by
  have h := test_digest_of_free_claims
  refine ⟨by decide +kernel, ⟨by decide +kernel, ?_⟩, by decide +kernel, ⟨by decide +kernel, ?_⟩, by decide +kernel⟩
  · exact fun h0 => absurd (h0.trans h) (by decide)
  · exact fun h0 => absurd (h0.trans h) (by decide)

theorem witness_RosterIsLearned :
    (let s := { inState .awaitCopy with replica.roster := [(31, .joining)], station.attempts := 2 }
     (Front .roll (rollOf 31 false 0) s ∧ parseRoll (rollOf 31 false 0).payload = some (0, 0)) ∧
      (Front .roll (rollOf 31 true 0) s ∧ rosterAt s 31 ≠ .absent) ∧
      (Front .roll (rollOf 0 true 0) s ∧ rosterAt s 0 = .absent) ∧
      (Front .drop (from5 .drop [31]) s ∧ (31#8 : Byte).toNat ≠ s.station.number) ∧
      (Front .drop (from5 .drop [0]) s ∧ rosterAt s 0 = .absent) ∧
      (Front .drop (from5 .drop [3]) s ∧ (3#8 : Byte).toNat = s.station.number ∧ s.station.state = .awaitCopy ∧
        s.station.attempts < 3 ∧ 0 < freePlaces s) ∧
      Front .lapse (from5 .lapse [1, 2, 3]) s) := by decide +kernel

theorem witness_TrainIsLoaded :
    (let e : RxEntry := ⟨.trainHead, 1, headBytes head64, false, none, false, true⟩
     Front .trainHead e (inState .awaitCopy) ∧ parseHead e.payload = some head64 ∧ e.continuation = false ∧
      e.loads = true ∧ head64.members.getLsbD 1 = true ∧ head64.members.getLsbD 0 = false) ∧
    (Front .trainHead ⟨.trainHead, 1, headBytes head64, false, none, false, false⟩ member ∧
      member.train.partialCopy = false) ∧
    (let f : ClaimFields := ⟨63, 255, [(⟨0, .shared, 4095, 254⟩, 4606), (⟨31, .shared, 1, 255⟩, 0)], [⟨8, .sole, 1⟩]⟩
     let e : RxEntry := ⟨.trainClaim, 1, claimBytes f, false, none, true, false⟩
     let s := { inState .awaitCopy with apply.record := some ⟨1, 0x0A#32, 0x200#32, 2, 1, 1, some 3, true⟩ }
     Front .trainClaim e s ∧ e.continuation = true ∧ parseClaim e.payload = some f ∧
      (f.holders.map (·.1.station)).Nodup ∧ (∀ h ∈ f.holders, h.1.station < 32) ∧
      Front .trainClaim e { s with station.state := .member } ∧ ∀ h ∈ f.holders, h.1.station ≠ s.station.number) ∧
    (runOver false member).apply.record = some ⟨1, 0x0A#32, 0x200#32, 2, 1, 1, some 3, false⟩ := by
  refine ⟨?_, ?_, ?_, ?_⟩ <;> decide +kernel

theorem witness_TrainTailCommits :
    (let e : RxEntry := ⟨.trainTail, 3, [0, 0], true, none, true, false⟩
     let s := queue [onBus .trainHead none 0] { runOver false member with train.run := .none }
     Front .trainTail e s ∧ e.continuation = true ∧ e.own = true) ∧
    (let e : RxEntry := ⟨.trainTail, 1, [0, 0], false, none, true, false⟩
     let s := claim63 7 [⟨0, .shared, 9, 6⟩, ⟨31, .shared, 9, 7⟩] [] (notices 46 (runOver true (inState .awaitCopy)))
     Front .trainTail e s ∧ e.own = false ∧ s.station.state = .awaitCopy ∧ NoTags s ∧ s.station.number < 32 ∧
      0 < freePlaces s ∧ (∀ c < 64, ∀ h ∈ (claimAt s c).holders, h.station < 32) ∧
      ∀ c < 64, ((claimAt s c).holders.map (·.station)).Nodup) ∧
    (let e : RxEntry := ⟨.trainTail, 1, [0, 0], false, none, true, false⟩
     let s := queue [ready (.drop 5) none]
      (setTag 0 (tagIn .yielding 1) (setTag 1 (tagIn .sending 2) (tag15 .waiting (runOver true member))))
     Front .trainTail e s ∧ rosterAt s 5 ≠ .absent ∧ s.station.state = .member ∧ (tagAt s 0).phase = some .yielding ∧
      (∀ h ∈ (claimAt s 1).holders, h.station ≠ 3) ∧ (tagAt s 15).phase = some .waiting ∧
      (∀ w ∈ (claimAt s 63).waiters, w.station ≠ 3) ∧ (tagAt s 1).phase = some .sending) := by decide +kernel

/-- A lawful state with a claim, a tag, a queue and a command that waits. -/
def lawful : State :=
  { tag15 .waiting (claim63 7 [⟨5, .sole, 9, 7⟩] [⟨3, .sole, 40⟩] (queue [ready (.roll false) none] member)) with
    pending := [.tick] }

theorem witness_StepKeepsTables :
    TablesLawful lawful ∧ step lawful = .next (after .tick { lawful with pending := [] }) := ⟨by decide +kernel, rfl⟩

theorem witness_StepKeepsClaims :
    ClaimsLawful lawful ∧ (lawful.pending.head? = some .applyTrainClaim → FrontClaimLawful lawful) :=
  ⟨by decide +kernel, by decide +kernel⟩

theorem witness_StepKeepsPlaces : PlacesLawful lawful := by decide +kernel

theorem witness_StepKeepsFrameQueues : QueuesLawful lawful ∧ KeysLawful lawful := by decide +kernel

theorem witness_StepKeepsBusLaws : RunsLawful lawful ∧ QuietLawful lawful := by decide +kernel

theorem witness_OnlyApplicationsChangeClaims :
    exec .tick lawful = .next (after .tick lawful) ∧ lawful.train.run ≠ .ended ∧
      Instr.tick ∉ [Instr.applyAsk, .applyYield, .applyExtend, .applyLapse, .applyCancel, .applyDrop, .applyEnter,
        .applyRoll, .applyTrainHead, .applyTrainClaim, .applyTrainTail] := ⟨rfl, by decide, by decide⟩

theorem witness_PayloadsReadBack :
    255 < 256 ∧ 65535 < 65536 ∧
      (let f : BusFrame := ⟨15#4, 31#5, 127#7, List.replicate 127 255#8, 0#16⟩
       f.payload.length = f.length.toNat ∧ (readFrame (BusFrame.bits f)).isSome = true) ∧
      (let s := sending .trainClaim (List.replicate 111 1#8) member
       s.link.sending = some ⟨.trainClaim, List.replicate 111 1#8⟩ ∧ s.station.number < 32 ∧ 111 < 128) ∧
      (let f : ClaimFields :=
        ⟨255, 255, [(⟨31, .shared, 65535, 255⟩, 65535)], List.replicate 31 ⟨31, .sole, 65535⟩⟩
       f.holders.length < 8 ∧ f.waiters.length < 32 ∧
        (∀ h ∈ f.holders, h.1.station < 32 ∧ h.1.lease < 65536 ∧ h.1.serial < 256 ∧ h.2 < 65536) ∧
        ∀ w ∈ f.waiters, w.station < 32 ∧ w.lease < 65536) := by decide +kernel

theorem witness_RunningDigestIsTheSourceDigest :
    ∀ c < 64, (claimAt lawful c).holders = [] → claimAt lawful c = ClaimRecord.free := by decide +kernel

end Sys2Proof.Tests
end

/-! # Claim records: what keeps one lawful (R2 to R4, R14, R29) -/

section
namespace Sys2Proof.Machine

/-! ## One record -/

/-- A claim record as it may stand while its claim is being handed on: lawful but for the two clauses that promotion
restores, a FREE claim's empty queue with serial 0 and the head's failing the grant test (R12, R14). -/
structure RecordShaped (r : ClaimRecord) : Prop where
  holders : r.holders = [] ∨ holdersShaped r.holders = true
  stations : (r.holders.map (·.station) ++ r.waiters.map (·.station)).Nodup
  slots : ∀ h ∈ r.holders, leaseOutOfRange h.lease = false ∧ h.serial < 256
  queue : ∀ w ∈ r.waiters, leaseOutOfRange w.lease = false
  serial : r.serial < 256

/-- A lawful record is one in shape that promotion leaves as it is. -/
theorem recordLawful_iff (r : ClaimRecord) : RecordLawful r ↔
    RecordShaped r ∧ (r.holders = [] → r.waiters = [] ∧ r.serial = 0) ∧ HeadWaits r := by
  constructor
  · rintro ⟨hh, hf, hn, hs, hq, hb, hw⟩
    exact ⟨⟨hh, hn, hs, hq, hb⟩, hf, hw⟩
  · rintro ⟨⟨hh, hn, hs, hq, hb⟩, hf, hw⟩
    exact ⟨hh, hf, hn, hs, hq, hb, hw⟩

theorem RecordShaped.of_lawful {r : ClaimRecord} (h : RecordLawful r) : RecordShaped r := ((recordLawful_iff r).mp h).1

/-- A held claim needs the shape and a head that waits for a reason; the clause on FREE claims says nothing of it. -/
theorem RecordShaped.lawful_of_held {r : ClaimRecord} (h : RecordShaped r) (hne : r.holders ≠ []) (hw : HeadWaits r) :
    RecordLawful r :=
  (recordLawful_iff r).mpr ⟨h, fun h0 => absurd h0 hne, hw⟩

/-- The record of a FREE claim is lawful (R4, R22). -/
theorem recordLawful_free : RecordLawful ClaimRecord.free := by decide

/-- One slot, or two to four SHARED ones (R2, R115). -/
theorem holdersShaped_iff (hs : List HoldSlot) : holdersShaped hs = true ↔
    hs ≠ [] ∧ hs.length ≤ Config.maxHolders ∧ (hs.length = 1 ∨ ∀ h ∈ hs, h.mode = .shared) := by
  match hs with
  | [] => simp [holdersShaped]
  | [a] => simp [holdersShaped, Config.maxHolders]
  | a :: b :: hs => simp [holdersShaped, and_comm]

/-- A slot's removal leaves the holder list FREE or in shape (R10). -/
theorem holdersShaped_filter (p : HoldSlot → Bool) {hs : List HoldSlot} (h : hs = [] ∨ holdersShaped hs = true) :
    hs.filter p = [] ∨ holdersShaped (hs.filter p) = true := by
  rcases h with rfl | h
  · exact .inl rfl
  obtain ⟨_, hl, hm⟩ := (holdersShaped_iff hs).mp h
  by_cases he : hs.filter p = []
  · exact .inl he
  have hle : (hs.filter p).length ≤ hs.length := List.length_filter_le p hs
  refine .inr ((holdersShaped_iff _).mpr ⟨he, hle.trans hl, ?_⟩)
  rcases hm with h1 | hm
  · have := List.length_pos_iff.mpr he
    exact .inl (by omega)
  · exact .inr fun x hx => hm x (List.mem_of_mem_filter hx)

/-- A change of slots that leaves their modes alone leaves the holder list in shape. -/
theorem holdersShaped_map (f : HoldSlot → HoldSlot) (hf : ∀ x, (f x).mode = x.mode) {hs : List HoldSlot}
    (h : holdersShaped hs = true) : holdersShaped (hs.map f) = true := by
  rw [holdersShaped_iff] at h ⊢
  simpa [hf] using h

/-- A slot that passes the grant test joins the holder list in shape (R6). -/
theorem holdersShaped_concat {hs : List HoldSlot} {x : HoldSlot} (h : hs = [] ∨ holdersShaped hs = true)
    (hg : grantTest hs x.mode = true) : holdersShaped (hs ++ [x]) = true := by
  rw [holdersShaped_iff]
  rcases (grantTest_iff hs x.mode).mp hg with rfl | ⟨hx, hs', hl⟩
  · simp [Config.maxHolders]
  · refine ⟨by simp, by simpa using hl, .inr ?_⟩
    simpa [or_imp, forall_and, hx] using hs'

/-- The grant test looks at the slots' modes only (Table 1-4). -/
theorem grantTest_map (f : HoldSlot → HoldSlot) (hf : ∀ x, (f x).mode = x.mode) (hs : List HoldSlot) (m : Mode) :
    grantTest (hs.map f) m = grantTest hs m := by
  rw [Bool.eq_iff_iff, grantTest_iff, grantTest_iff]
  simp [hf]

/-- A serial's successor is a byte (R4). -/
theorem nextSerial_lt (n : Nat) : nextSerial n < 256 := Nat.mod_lt _ (by decide)

/-- Where a claim is FREE, no head fails the grant test, so none waits (R6, R14). -/
theorem waiters_nil_of_headWaits {r : ClaimRecord} (hw : HeadWaits r) (h : r.holders = []) : r.waiters = [] := by
  cases hq : r.waiters with
  | nil => rfl
  | cons w rest => exact absurd (hw w (by rw [hq]; rfl)) (by simp [h, grantTest])

/-- A grant keeps the shape of a record on which the station stands nowhere yet (R7). -/
theorem RecordShaped.grant {r : ClaimRecord} {w : Waiter} (h : RecordShaped r)
    (hn : (r.holders.map (·.station) ++ w.station :: r.waiters.map (·.station)).Nodup)
    (hl : leaseOutOfRange w.lease = false) (hg : grantTest r.holders w.mode = true) : RecordShaped (r.grant w) where
  holders := .inr (holdersShaped_concat h.holders hg)
  stations := by simpa [ClaimRecord.grant] using hn
  slots := by
    intro x hx
    rcases List.mem_append.mp hx with hx | hx
    · exact h.slots x hx
    · rw [List.mem_singleton.mp hx]
      exact ⟨hl, nextSerial_lt _⟩
  queue := h.queue
  serial := nextSerial_lt _

/-- The head's leaving the queue keeps the shape. -/
theorem RecordShaped.tail {r : ClaimRecord} {w : Waiter} {rest : List Waiter} (h : RecordShaped r)
    (hq : r.waiters = w :: rest) : RecordShaped { r with waiters := rest } where
  holders := h.holders
  stations := by
    refine h.stations.sublist (List.Sublist.append_left ?_ _)
    rw [hq]
    exact List.sublist_cons_self _ _
  slots := h.slots
  queue := fun x hx => h.queue x (by rw [hq]; exact List.mem_cons_of_mem _ hx)
  serial := h.serial

/-- The grant to the head of the queue keeps the shape (R12). -/
theorem RecordShaped.grant_head {r : ClaimRecord} {w : Waiter} {rest : List Waiter} (h : RecordShaped r)
    (hq : r.waiters = w :: rest) (hg : grantTest r.holders w.mode = true) :
    RecordShaped (({ r with waiters := rest } : ClaimRecord).grant w) :=
  (h.tail hq).grant (by simpa [hq] using h.stations) (h.queue w (by simp [hq])) hg

/-- A hold's removal keeps the shape (R10). -/
theorem RecordShaped.filterHolders {r : ClaimRecord} (p : HoldSlot → Bool) (h : RecordShaped r) :
    RecordShaped { r with holders := r.holders.filter p } where
  holders := holdersShaped_filter p h.holders
  stations := h.stations.sublist ((List.filter_sublist.map _).append_right _)
  slots := fun x hx => h.slots x (List.mem_of_mem_filter hx)
  queue := h.queue
  serial := h.serial

/-- A waiter's removal keeps the shape (R33). -/
theorem RecordShaped.filterWaiters {r : ClaimRecord} (p : Waiter → Bool) (h : RecordShaped r) :
    RecordShaped { r with waiters := r.waiters.filter p } where
  holders := h.holders
  stations := h.stations.sublist (List.Sublist.append_left (List.filter_sublist.map _) _)
  slots := h.slots
  queue := fun x hx => h.queue x (List.mem_of_mem_filter hx)
  serial := h.serial

/-- Serial 0 keeps the shape (R4). -/
theorem RecordShaped.zeroSerial {r : ClaimRecord} (h : RecordShaped r) : RecordShaped { r with serial := 0 } :=
  ⟨h.holders, h.stations, h.slots, h.queue, Nat.zero_lt_succ _⟩

/-- A slot as an extension of the hold of `h` leaves it: that hold has lease `l` and serial `n` (R9). -/
def HoldSlot.extended (h l n : Nat) (x : HoldSlot) : HoldSlot :=
  if x.station = h then { x with lease := l, serial := n } else x

@[simp] theorem HoldSlot.extended_mode (h l n : Nat) (x : HoldSlot) : (x.extended h l n).mode = x.mode := by
  unfold HoldSlot.extended; split <;> rfl

@[simp] theorem HoldSlot.extended_station (h l n : Nat) (x : HoldSlot) :
    (x.extended h l n).station = x.station := by
  unfold HoldSlot.extended; split <;> rfl

/-- An extension acts on the record slot by slot (R9). -/
theorem ClaimRecord.extend_eq (r : ClaimRecord) (h l : Nat) : r.extend h l =
    ⟨nextSerial r.serial, r.holders.map (HoldSlot.extended h l (nextSerial r.serial)), r.waiters⟩ := rfl

/-- An extension of a held claim keeps its record lawful: modes, stations and queue stay (R9). -/
theorem RecordLawful.extend {r : ClaimRecord} (h l : Nat) (hr : RecordLawful r) (hne : r.holders ≠ [])
    (hl : leaseOutOfRange l = false) : RecordLawful (r.extend h l) := by
  obtain ⟨hs, _, hw⟩ := (recordLawful_iff r).mp hr
  have hmode := HoldSlot.extended_mode h l (nextSerial r.serial)
  have hslot : ∀ x ∈ r.holders, leaseOutOfRange (x.extended h l (nextSerial r.serial)).lease = false ∧
      (x.extended h l (nextSerial r.serial)).serial < 256 := by
    intro x hx
    unfold HoldSlot.extended
    split
    · exact ⟨hl, nextSerial_lt _⟩
    · exact hs.slots x hx
  rw [ClaimRecord.extend_eq]
  refine RecordShaped.lawful_of_held ⟨.inr ?_, ?_, ?_, hs.queue, nextSerial_lt _⟩ (by simpa using hne) ?_
  · exact holdersShaped_map _ hmode (hs.holders.resolve_left hne)
  · simpa [Function.comp_def] using hs.stations
  · simpa using hslot
  · intro w hm
    rw [grantTest_map _ hmode]
    exact hw w hm

/-- A station that stands nowhere on a claim may join behind its queue: no station stands twice (R29). -/
theorem nodup_stations_concat {hs ws : List Nat} {x : Nat} (hn : (hs ++ ws).Nodup) (hh : x ∉ hs) (hw : x ∉ ws) :
    (hs ++ (ws ++ [x])).Nodup := by
  rw [← List.append_assoc]
  exact List.Nodup.append hn (List.nodup_singleton x) (by simp [hh, hw])

/-- A waiter appended to the queue keeps a held claim's record lawful, if it waits for a reason where it is the head
(R30, R48). -/
theorem RecordLawful.append {r : ClaimRecord} {w : Waiter} (hr : RecordLawful r)
    (hh : w.station ∉ r.holders.map (·.station)) (hw : w.station ∉ r.waiters.map (·.station))
    (hl : leaseOutOfRange w.lease = false) (hg : r.waiters = [] → grantTest r.holders w.mode = false) :
    RecordLawful { r with waiters := r.waiters ++ [w] } := by
  obtain ⟨hs, hfree, hhead⟩ := (recordLawful_iff r).mp hr
  have hheld : r.holders ≠ [] := fun h0 => by simpa [h0, grantTest] using hg (hfree h0).1
  refine RecordShaped.lawful_of_held (r := { r with waiters := r.waiters ++ [w] })
    ⟨hs.holders, ?_, hs.slots, ?_, hs.serial⟩ hheld ?_
  · simpa using nodup_stations_concat hs.stations hh hw
  · simpa [or_imp, forall_and, hl] using hs.queue
  · cases hq : r.waiters with
    | nil => simpa [HeadWaits] using hg hq
    | cons v rest => simpa [HeadWaits, hq] using hhead

/-- The removal of a waiter behind the head keeps the record lawful: the head stays (R33). -/
theorem RecordLawful.filterWaiters {r : ClaimRecord} {h : Nat} (hr : RecordLawful r)
    (hh : ∀ w ∈ r.waiters.head?, w.station ≠ h) :
    RecordLawful { r with waiters := r.waiters.filter (fun w => w.station != h) } := by
  obtain ⟨hs, hfree, hhead⟩ := (recordLawful_iff r).mp hr
  refine (recordLawful_iff _).mpr ⟨hs.filterWaiters _, fun h0 => ⟨by simp [(hfree h0).1], (hfree h0).2⟩, ?_⟩
  cases hq : r.waiters with
  | nil => simp [HeadWaits]
  | cons v rest =>
    have hv : v.station ≠ h := hh v (by rw [hq]; rfl)
    simpa [HeadWaits, hq, hv] using hhead

end Sys2Proof.Machine
end

/-! # What leaves the claim table alone, and what empties it (R1, R18, R42)

Commands, time, the transmit queue and the bus leave every claim record as it was, or empty the claim table with
everything else that a station off the bus holds, or with a copy loaded in part. -/

section
namespace Sys2Proof.Machine

open Sys2Proof (Byte BusFrame FrameEnd TryEnd)

/-- The claim table of `t` is that of `s`, or empty. -/
def KeepsOrClears (s t : State) : Prop := t.replica.claims = s.replica.claims ∨ t.replica.claims = []

theorem KeepsOrClears.of_eq {s t : State} (h : t.replica.claims = s.replica.claims) : KeepsOrClears s t := .inl h

/-- A replica left alone is a claim table left alone. -/
theorem KeepsOrClears.of_replica {s t : State} (h : t.replica = s.replica) : KeepsOrClears s t :=
  .of_eq (congrArg Replica.claims h)

theorem KeepsOrClears.of_cleared {s t : State} (h : t.replica.claims = []) : KeepsOrClears s t := .inr h

theorem KeepsOrClears.refl (s : State) : KeepsOrClears s s := .of_eq rfl

/-- An operation that does either comes after an update that leaves the claim table alone. -/
theorem KeepsOrClears.after {s s1 t : State} (h : KeepsOrClears s1 t) (he : s1.replica.claims = s.replica.claims) :
    KeepsOrClears s t := by
  unfold KeepsOrClears at *
  rwa [he] at h

theorem KeepsOrClears.trans {s s1 t : State} (h1 : KeepsOrClears s s1) (h2 : KeepsOrClears s1 t) :
    KeepsOrClears s t := by
  rcases h1 with h1 | h1
  · exact h2.after h1
  · exact .of_cleared (h2.elim (fun h => h.trans h1) id)

theorem KeepsOrClears.ite {p : Prop} [Decidable p] {s t u : State} (ht : KeepsOrClears s t) (hu : KeepsOrClears s u) :
    KeepsOrClears s (if p then t else u) := by
  split
  · exact ht
  · exact hu

/-- An empty claim table stays empty. -/
theorem KeepsOrClears.cleared {s t : State} (h : KeepsOrClears s t) (he : s.replica.claims = []) :
    t.replica.claims = [] := h.elim (fun h => h.trans he) id

/-! ## The station controller (chapter 5) -/

@[simp] theorem sideline_claims (cause : StateCause) (s : State) : (sideline cause s).replica.claims = [] := by
  simp [sideline]

@[simp] theorem halt_claims (cause : StateCause) (s : State) : (halt cause s).replica.claims = [] := by simp [halt]

@[simp] theorem departureEnds_claims (s : State) : (departureEnds s).replica.claims = [] := by simp [departureEnds]

@[simp] theorem enterEntering_replica (cause : StateCause) (s : State) :
    (enterEntering cause s).replica = s.replica := by
  simp [enterEntering]

@[simp] theorem enterAfresh_replica (cause : StateCause) (s : State) : (enterAfresh cause s).replica = s.replica := by
  simp [enterAfresh]

theorem nextAttempt_keepsOrClears (cause : StateCause) (s : State) : KeepsOrClears s (nextAttempt cause s) :=
  .ite (.of_eq (by simp)) (.of_cleared (by simp))

theorem forgetIfSilent_claims (s : State) (d : Nat) : (forgetIfSilent s d).replica.claims = s.replica.claims := by
  unfold forgetIfSilent
  split <;> simp

theorem copyWaitExpires_keepsOrClears (s : State) : KeepsOrClears s (copyWaitExpires s) :=
  (nextAttempt_keepsOrClears _ _).after (foldl_keeps (·.replica.claims) forgetIfSilent forgetIfSilent_claims _ s)

/-! ## The end of a run (R68, R120, R121) -/

theorem trainReturn_keepsOrClears (counted : Bool) (e : TxEntry) (s : State) :
    KeepsOrClears s (trainReturn counted e s) := by
  unfold trainReturn
  simp only
  split
  · exact .of_eq rfl
  · split
    · exact .of_cleared (sideline_claims _ _)
    · exact .of_eq rfl

theorem returnHead_keepsOrClears (s : State) : KeepsOrClears s (returnHead s) := by
  unfold returnHead
  split
  · split
    · exact trainReturn_keepsOrClears _ _ s
    · exact .refl s
  · exact .refl s

theorem busToIdle_keepsOrClears (s : State) : KeepsOrClears s (busToIdle s) :=
  (returnHead_keepsOrClears _).after (by simp)

/-- A partial copy is discarded with the whole claim table (R121). -/
theorem discardCopy_claims (s : State) : (discardCopy s).replica.claims = [] := by
  have hc : (clearTable (stopLoading s)).replica.claims = [] := clearTable_claims _
  unfold discardCopy
  simp only
  split
  · split
    · exact (copyWaitExpires_keepsOrClears _).cleared hc
    · exact hc
  · simp
  all_goals exact hc

theorem endRun_keepsOrClears (s : State) : KeepsOrClears s (endRun s) := by
  unfold endRun
  simp only
  split
  · exact .of_cleared (discardCopy_claims _)
  · exact .of_eq rfl

theorem settleRun_keepsOrClears (s : State) : KeepsOrClears s (settleRun s) := by
  rcases settleRun_cases s with ⟨_, _, h⟩ | ⟨_, h⟩ <;> rw [h]
  · exact endRun_keepsOrClears s
  · exact .refl s

/-! ## Time (chapter 4) -/

theorem latchIfWarned_replica (before s : State) (c : Nat) : (latchIfWarned before s c).replica = s.replica := by
  unfold latchIfWarned
  (repeat' split) <;> simp

@[simp] theorem tickLeases_replica (s : State) : (tickLeases s).replica = s.replica := by
  unfold tickLeases
  simp only [postPendingWarns_replica]
  exact foldl_keeps (·.replica) (latchIfWarned s) (latchIfWarned_replica s) _ _

@[simp] theorem tick_replica (s : State) : (tick s).replica = s.replica := by
  unfold tick
  simp only
  split
  · rfl
  · exact tickLeases_replica _

@[simp] theorem countIdle_replica (cycles : Nat) (s : State) : (countIdle cycles s).replica = s.replica := by
  unfold countIdle
  split <;> rfl

@[simp] theorem clockCycle_replica (s : State) : (clockCycle s).replica = s.replica := by
  unfold clockCycle
  simp only
  split <;> simp

@[simp] theorem leaseWatchExpiry_replica (s : State) : (leaseWatchExpiry s).replica = s.replica := by
  unfold leaseWatchExpiry
  split <;> simp

@[simp] theorem rollDue_replica (s : State) : (rollDue s).replica = s.replica := by
  unfold rollDue
  split <;> simp

@[simp] theorem silenceExpiry_replica (s : State) : (silenceExpiry s).replica = s.replica := by
  unfold silenceExpiry
  split <;> simp

@[simp] theorem listenTimerExpiry_replica (s : State) : (listenTimerExpiry s).replica = s.replica := by
  unfold listenTimerExpiry
  split <;> simp

theorem copyWaitExpiry_keepsOrClears (s : State) : KeepsOrClears s (copyWaitExpiry s) :=
  .ite (copyWaitExpires_keepsOrClears s) (.refl s)

@[simp] theorem restTimerExpiry_claims (s : State) : (restTimerExpiry s).replica.claims = s.replica.claims := by
  unfold restTimerExpiry
  split <;> simp

/-! ## FRAME_RECEIVE (chapter 8) -/

theorem endFrame_keepsOrClears (e : FrameEnd) (s : State) : KeepsOrClears s (endFrame e s) := by
  cases e with
  | close => exact busToIdle_keepsOrClears s
  | relink => exact .of_eq rfl
  | noEnd => exact .of_eq rfl

theorem refuseFrame_keepsOrClears (counts : Bool) (e : FrameEnd) (s : State) :
    KeepsOrClears s (refuseFrame counts e s) := by
  unfold refuseFrame
  exact .ite (.of_cleared (sideline_claims _ _)) ((endFrame_keepsOrClears e _).after rfl)

theorem takeFrame_keepsOrClears (k : FrameKind) (f : BusFrame) (e : FrameEnd) (s : State) :
    KeepsOrClears s (takeFrame k f e s) :=
  (endFrame_keepsOrClears e _).after rfl

theorem slotsOf_keepsOrClears (f : BusFrame) (otherVeto : Bool) (e : FrameEnd) (s : State) :
    KeepsOrClears s (slotsOf f otherVeto e s) := by
  unfold slotsOf
  simp only
  split
  · exact (refuseFrame_keepsOrClears _ e _).after rfl
  · split
    · exact (takeFrame_keepsOrClears _ f e _).after rfl
    · exact .of_eq rfl

theorem receiveFrame_keepsOrClears (sampled : List Bool) (otherVeto : Bool) (e : FrameEnd) (s : State) :
    KeepsOrClears s (receiveFrame sampled otherVeto e s) := by
  have hs : KeepsOrClears s (settleRun { s with tx.offered := none }) := (settleRun_keepsOrClears _).after rfl
  unfold receiveFrame
  split
  · split
    · simp only
      split
      · exact hs.trans (slotsOf_keepsOrClears _ _ e _)
      · exact hs
    · exact .refl s
  · exact .refl s

/-! ## FRAME_OPEN (chapter 7) -/

@[simp] theorem endIfUsed_replica (t : Nat) (n : Notice) (s : State) : (endIfUsed t n s).replica = s.replica := by
  unfold endIfUsed
  split <;> simp

@[simp] theorem tooLateIfHeld_replica (t : Nat) (s : State) : (tooLateIfHeld t s).replica = s.replica := by
  unfold tooLateIfHeld
  split <;> simp

@[simp] theorem clearExtend_replica (t : Nat) (s : State) : (clearExtend t s).replica = s.replica := rfl

@[simp] theorem staleEffect_replica (e : TxEntry) (s : State) : (staleEffect e s).replica = s.replica := by
  unfold staleEffect
  split
  · simp
  · simp
  · split <;> simp
  · rfl

theorem withdrawIfStale_replica (s : State) (e : TxEntry) : (withdrawIfStale s e).replica = s.replica := by
  unfold withdrawIfStale
  split <;> simp

@[simp] theorem revalidate_replica (s : State) : (revalidate s).replica = s.replica :=
  foldl_keeps (·.replica) withdrawIfStale withdrawIfStale_replica _ s

@[simp] theorem offer_replica (s : State) : (offer s).replica = s.replica := rfl

@[simp] theorem pullOffered_replica (s : State) : (pullOffered s).replica = s.replica := by
  unfold pullOffered
  split <;> rfl

@[simp] theorem openFrame_replica (pull : Bool) (s : State) : (openFrame pull s).replica = s.replica := by
  unfold openFrame
  (repeat' split) <;> simp

theorem frameOpen_keepsOrClears (elapsed : Nat) (pull : Bool) (s : State) :
    KeepsOrClears s (frameOpen elapsed pull s) := by
  have hs : KeepsOrClears s (settleRun (countIdle (elapsed * cyclesPerBit s) s)) :=
    (settleRun_keepsOrClears _).after (by simp)
  exact hs.trans (.of_replica (openFrame_replica pull _))

/-! ## TRY_OUTCOME and the line events (chapters 7 and 8) -/

@[simp] theorem limitEffect_replica (f : TxFrame) (binding : Option Nat) (s : State) :
    (limitEffect f binding s).replica = s.replica := by
  unfold limitEffect
  (repeat' split) <;> simp

@[simp] theorem atLimit_replica (e : TxEntry) (s : State) : (atLimit e s).replica = s.replica := by
  simp [atLimit]

theorem returnEntry_keepsOrClears (counted : Bool) (e : TxEntry) (s : State) :
    KeepsOrClears s (returnEntry counted e s) := by
  unfold returnEntry
  split
  · split
    · exact .of_eq rfl
    · exact trainReturn_keepsOrClears false e s
  · split
    · exact .of_eq rfl
    · split
      · exact .of_eq (by simp [readyAgain])
      · split
        · exact .of_eq (by simp)
        · exact .of_eq rfl

theorem returnTry_keepsOrClears (counted : Bool) (s : State) : KeepsOrClears s (returnTry counted s) := by
  unfold returnTry
  split
  · exact (returnEntry_keepsOrClears counted _ _).after rfl
  · exact .of_eq rfl

theorem afterStall_keepsOrClears (linesHigh : Bool) (s : State) : KeepsOrClears s (afterStall linesHigh s) :=
  .ite (busToIdle_keepsOrClears s) (.of_eq rfl)

theorem afterBreak_keepsOrClears (rise : Bool) (s : State) : KeepsOrClears s (afterBreak rise s) :=
  .ite (busToIdle_keepsOrClears s) (.of_eq rfl)

theorem afterEnd_keepsOrClears (e : TryEnd) (s : State) : KeepsOrClears s (afterEnd e s) := by
  cases e with
  | frameEnd ending => exact endFrame_keepsOrClears ending s
  | stalled linesHigh => exact afterStall_keepsOrClears linesHigh s
  | broken rise => exact afterBreak_keepsOrClears rise s

theorem afterOwn_keepsOrClears (e : TryEnd) (s : State) : KeepsOrClears s (afterOwn e s) :=
  .ite (busToIdle_keepsOrClears s) (afterEnd_keepsOrClears e s)

theorem acceptSingle_keepsOrClears (o : OwnFrame) (e : TxEntry) (ending : TryEnd) (s : State) :
    KeepsOrClears s (acceptSingle o e ending s) := by
  unfold acceptSingle
  simp only
  split
  · exact (afterOwn_keepsOrClears ending _).after rfl
  · exact (afterOwn_keepsOrClears ending _).after rfl

theorem acceptTrain_keepsOrClears (o : OwnFrame) (ending : TryEnd) (s : State) :
    KeepsOrClears s (acceptTrain o ending s) := by
  unfold acceptTrain
  simp only
  split
  · exact (afterOwn_keepsOrClears ending _).after rfl
  · split
    · exact .of_eq rfl
    · exact (afterOwn_keepsOrClears ending _).after rfl

theorem acceptTry_keepsOrClears (o : OwnFrame) (ending : TryEnd) (s : State) :
    KeepsOrClears s (acceptTry o ending s) := by
  unfold acceptTry
  split
  · split
    · exact acceptTrain_keepsOrClears o ending s
    · exact acceptSingle_keepsOrClears o _ ending s
  · exact (afterOwn_keepsOrClears ending _).after rfl

theorem reportUnheard_keepsOrClears (s : State) : KeepsOrClears s (reportUnheard s) :=
  .ite (.of_cleared (sideline_claims _ s)) (.refl s)

theorem reportClash_keepsOrClears (s : State) : KeepsOrClears s (reportClash s) :=
  .ite (.of_cleared (halt_claims _ s)) (.refl s)

theorem trySlots_keepsOrClears (o : OwnFrame) (vetoLow heardLow : Bool) (ending : TryEnd) (s : State) :
    KeepsOrClears s (trySlots o vetoLow heardLow ending s) := by
  refine KeepsOrClears.trans ?_ (reportUnheard_keepsOrClears _)
  split
  · exact (acceptTry_keepsOrClears o ending _).after rfl
  · exact ((returnTry_keepsOrClears true _).trans (afterOwn_keepsOrClears ending _)).after rfl

theorem tryClashed_keepsOrClears (e : FrameEnd) (s : State) : KeepsOrClears s (tryClashed e s) :=
  (((returnTry_keepsOrClears true _).trans (endFrame_keepsOrClears e _)).trans (reportClash_keepsOrClears _)).after rfl

theorem tryCut_keepsOrClears (o : OwnFrame) (vetoLow : Option Bool) (ending : TryEnd) (s : State) :
    KeepsOrClears s (tryCut o vetoLow ending s) :=
  .ite ((acceptTry_keepsOrClears o ending _).after rfl)
    ((returnTry_keepsOrClears true s).trans (afterEnd_keepsOrClears ending _))

theorem tryLost_keepsOrClears (o : OwnFrame) (ending : TryEnd) (s : State) :
    KeepsOrClears s (tryLost o ending s) := by
  have hr : KeepsOrClears s
      (returnTry (o.kind == .trainClaim || o.kind == .trainTail) { s with link.chain := false }) :=
    (returnTry_keepsOrClears _ _).after rfl
  cases ending with
  | frameEnd _ => exact hr
  | stalled linesHigh => exact hr.trans (afterEnd_keepsOrClears (.stalled linesHigh) _)
  | broken rise => exact hr.trans (afterEnd_keepsOrClears (.broken rise) _)

theorem endTry_keepsOrClears (o : OwnFrame) (sampled : List Bool) (ending : TryEnd) (s : State) :
    KeepsOrClears s (endTry o sampled ending s) := by
  unfold endTry
  split
  · exact tryLost_keepsOrClears o _ s
  · exact tryClashed_keepsOrClears _ s
  · exact tryCut_keepsOrClears o none _ s
  · exact tryCut_keepsOrClears o none _ s
  · exact .refl s
  · exact tryCut_keepsOrClears o _ _ s
  · exact tryCut_keepsOrClears o _ _ s
  · exact trySlots_keepsOrClears o _ _ _ s

theorem tryOutcome_keepsOrClears (sampled : List Bool) (ending : TryEnd) (s : State) :
    KeepsOrClears s (tryOutcome sampled ending s) := by
  unfold tryOutcome
  split
  · exact endTry_keepsOrClears _ sampled ending s
  · exact .refl s

theorem cutFrame_keepsOrClears (sampled : List Bool) (ending : TryEnd) (s : State) :
    KeepsOrClears s (cutFrame sampled ending s) := by
  unfold cutFrame
  split
  · simp only
    split
    · exact (tryOutcome_keepsOrClears sampled ending _).after rfl
    · exact (afterEnd_keepsOrClears ending _).after rfl
  · exact .refl s

theorem lineStuck_keepsOrClears (s : State) : KeepsOrClears s (lineStuck s) :=
  .ite (.of_cleared (sideline_claims _ s)) (.refl s)

theorem busIdleReturn_keepsOrClears (s : State) : KeepsOrClears s (busIdleReturn s) :=
  .ite (busToIdle_keepsOrClears s) (.refl s)

@[simp] theorem lineFallWithoutOpen_replica (s : State) : (lineFallWithoutOpen s).replica = s.replica := by
  unfold lineFallWithoutOpen
  split <;> rfl

/-! ## Commands (chapter 9) -/

/-- A command leaves the claim table alone or empties it where its effect does, taken or not (R160). -/
theorem takeCommand_keepsOrClears (c : Command) {body : List Byte → State → State}
    (hb : ∀ fs s, KeepsOrClears s (body fs s)) (s : State) : KeepsOrClears s (takeCommand c body s) := by
  rcases takeCommand_cases c body s with ⟨_, _, h⟩ | ⟨_, h⟩ <;> rw [h]
  · exact (hb _ _).after rfl
  · exact .refl s

@[simp] theorem deny_replica (c : Command) (r : DenyReason) (s : State) : (deny c r s).replica = s.replica := rfl

theorem takeSetup_replica (fs : List Byte) (s : State) : (takeSetup fs s).replica = s.replica := by
  unfold takeSetup
  (repeat' split) <;> rfl

theorem takeGo_claims (fs : List Byte) (s : State) : (takeGo fs s).replica.claims = s.replica.claims := by
  unfold takeGo
  split <;> simp

theorem takeLeave_replica (fs : List Byte) (s : State) : (takeLeave fs s).replica = s.replica := by
  unfold takeLeave
  split <;> simp

/-- RESTART empties the claim table (R89). -/
theorem takeRestart_claims (fs : List Byte) (s : State) : (takeRestart fs s).replica.claims = [] := by
  simp [takeRestart]

theorem takeMask_replica (fs : List Byte) (s : State) : (takeMask fs s).replica = s.replica := by
  unfold takeMask
  split <;> rfl

theorem takeQuery_replica (fs : List Byte) (s : State) : (takeQuery fs s).replica = s.replica := by
  unfold takeQuery
  split <;> rfl

theorem takeAcquire_replica (fs : List Byte) (s : State) : (takeAcquire fs s).replica = s.replica := by
  unfold takeAcquire
  simp only
  (repeat' split) <;> simp

/-- The checks that RELEASE, EXTEND and CANCEL share leave the replica alone where their effect does (R161). -/
theorem onTag_replica (c : Command) (t : Nat) (inRange : Bool) {act : State → State}
    (ha : ∀ s, (act s).replica = s.replica) (s : State) : (onTag c t inRange act s).replica = s.replica := by
  unfold onTag
  (repeat' split)
  · rfl
  · rfl
  · rfl
  · exact ha s

theorem takeRelease_replica (fs : List Byte) (s : State) : (takeRelease fs s).replica = s.replica := by
  refine onTag_replica .release _ _ (fun s => ?_) s
  split <;> simp

theorem takeExtend_replica (fs : List Byte) (s : State) : (takeExtend fs s).replica = s.replica := by
  refine onTag_replica .extend _ _ (fun s => ?_) s
  split <;> simp

theorem takeCancel_replica (fs : List Byte) (s : State) : (takeCancel fs s).replica = s.replica := by
  refine onTag_replica .cancel _ _ (fun s => ?_) s
  (repeat' split) <;> simp

/-! ## The host port's bytes (chapters 9 and 10) -/

@[simp] theorem expireAssembly_replica (s : State) : (expireAssembly s).replica = s.replica := by
  unfold expireAssembly
  split
  · exact postUnreserved_replica _ _
  · rfl

@[simp] theorem latchByte_replica (b : Byte) (s : State) : (latchByte b s).replica = s.replica := by
  unfold latchByte
  (repeat' split) <;> simp

@[simp] theorem writeByte_replica (b : Byte) (selected readLow : Bool) (s : State) :
    (writeByte b selected readLow s).replica = s.replica := by
  unfold writeByte
  simp only
  split <;> simp

@[simp] theorem finishReading_replica (n : Notice) (s : State) : (finishReading n s).replica = s.replica := by
  unfold finishReading
  simp only
  split <;> simp

@[simp] theorem readNext_replica (r : Reading) (s : State) : (readNext r s).replica = s.replica := by
  unfold readNext
  simp only
  split <;> simp

@[simp] theorem readByte_replica (selected writeLow : Bool) (s : State) :
    (readByte selected writeLow s).replica = s.replica := by
  unfold readByte consumeByte
  simp only
  (repeat' split) <;> simp

theorem resetRelease_keepsOrClears (straps : BitVec 5) (s : State) : KeepsOrClears s (resetRelease straps s) :=
  .ite (.of_cleared rfl) (.refl s)

end Sys2Proof.Machine
end

/-! # The applications keep every claim record lawful (chapters 1 to 3, R14) -/

section
namespace Sys2Proof.Machine

/-! ## One claim after an operation -/

/-- The claim records decide; nothing else of the state does. -/
theorem ClaimsLawful.congr {s t : State} (h : ClaimsLawful s) (he : t.replica.claims = s.replica.claims) :
    ClaimsLawful t := by
  intro c hc
  have hct : claimAt t c = claimAt s c := by simp only [claimAt, he]
  rw [hct]
  exact h c hc

/-- An empty claim table is lawful: every claim reads as FREE (R22). -/
theorem claimsLawful_of_cleared {s : State} (h : s.replica.claims = []) : ClaimsLawful s := by
  intro c _
  have hc : claimAt s c = ClaimRecord.free := by rw [claimAt, h]; rfl
  rw [hc]
  exact recordLawful_free

/-- What leaves the claim table alone or empties it keeps it lawful. -/
theorem KeepsOrClears.lawful {s t : State} (h : KeepsOrClears s t) (hs : ClaimsLawful s) : ClaimsLawful t :=
  h.elim hs.congr claimsLawful_of_cleared

/-- An operation that touches the record of claim `c` only, and leaves that one lawful, keeps the claim table lawful. -/
theorem ClaimsLawful.of_claim {s t : State} (c : Nat) (h : ClaimsLawful s) (ho : ∀ b ≠ c, claimAt t b = claimAt s b)
    (hc : c < Config.claimCount → RecordLawful (claimAt t c)) : ClaimsLawful t := by
  intro b hb
  by_cases hbc : b = c
  · exact hbc ▸ hc (hbc ▸ hb)
  · rw [ho b hbc]
    exact h b hb

/-- A lawful record written over any other keeps the claim table lawful. -/
theorem ClaimsLawful.setClaim {s : State} (c : Nat) {r : ClaimRecord} (h : ClaimsLawful s) (hr : RecordLawful r) :
    ClaimsLawful (setClaim c r s) :=
  h.of_claim c (fun b hb => by rw [claimAt_setClaim, if_neg hb]) (fun _ => by rwa [claimAt_setClaim_same])

/-! ## Promotion (R11, R12) -/

/-- Each grant by promotion keeps the record's shape. -/
theorem promoteQueue_shaped (c : Nat) : ∀ (q : List Waiter) (s : State), (claimAt s c).waiters = q →
    RecordShaped (claimAt s c) → RecordShaped (claimAt (promoteQueue c q s) c)
  | [], _, _, h => h
  | w :: rest, s, hq, h => by
    unfold promoteQueue
    split
    · rename_i hg
      have hr : claimAt (promoteHead c w rest s) c = ({ claimAt s c with waiters := rest } : ClaimRecord).grant w := by
        rw [claimAt_promoteHead, if_pos rfl]
      exact promoteQueue_shaped c rest _ (by rw [hr]; rfl) (by rw [hr]; exact h.grant_head hq hg)
    · exact h

/-- A claim left without holders has serial 0, and any other keeps its serial (R4). -/
theorem claimAt_freeSerial_same (c : Nat) (s : State) : claimAt (freeSerial c s) c =
    if (claimAt s c).holders = [] then { claimAt s c with serial := 0 } else claimAt s c := by
  unfold freeSerial
  split <;> simp

/-- Promotion makes a lawful record of any that is in shape (R12, R14). -/
theorem promote_recordLawful (c : Nat) (s : State) (h : RecordShaped (claimAt s c)) :
    RecordLawful (claimAt (promote c s) c) := by
  have hw := promote_headWaits c s
  have hq := promoteQueue_shaped c _ s rfl h
  unfold promote at hw ⊢
  rw [claimAt_freeSerial_same] at hw ⊢
  split at hw
  · rename_i hf
    rw [if_pos hf]
    exact (recordLawful_iff _).mpr ⟨hq.zeroSerial, fun _ => ⟨waiters_nil_of_headWaits hw hf, rfl⟩, hw⟩
  · rename_i hf
    rw [if_neg hf]
    exact hq.lawful_of_held hf hw

/-- Promotion on a claim in shape keeps the claim table lawful, whatever the operation before did to that claim. -/
theorem ClaimsLawful.promote {s t : State} (c : Nat) (h : ClaimsLawful s) (ho : ∀ b ≠ c, claimAt t b = claimAt s b)
    (hc : c < Config.claimCount → RecordShaped (claimAt t c)) : ClaimsLawful (promote c t) :=
  h.of_claim c (fun b hb => by rw [claimAt_promote_other c b t hb, ho b hb])
    (fun hlt => promote_recordLawful c t (hc hlt))

/-! ## The removal of a hold and of a waiter (R10, R33) -/

theorem removeHold_shaped {c : Nat} {s : State} (h : Nat) (hs : RecordShaped (claimAt s c)) :
    RecordShaped (claimAt (removeHold c h s) c) := by
  rw [claimAt_removeHold, if_pos rfl]
  exact hs.filterHolders _

theorem removeWaiter_shaped {c : Nat} {s : State} (h : Nat) (hs : RecordShaped (claimAt s c)) :
    RecordShaped (claimAt (removeWaiter c h s) c) := by
  rw [claimAt_removeWaiter, if_pos rfl]
  exact hs.filterWaiters _

theorem claimAt_removeHold_other {c b : Nat} (h : Nat) (s : State) (hb : b ≠ c) :
    claimAt (removeHold c h s) b = claimAt s b := by
  rw [claimAt_removeHold, if_neg hb]

theorem claimAt_removeWaiter_other {c b : Nat} (h : Nat) (s : State) (hb : b ≠ c) :
    claimAt (removeWaiter c h s) b = claimAt s b := by
  rw [claimAt_removeWaiter, if_neg hb]

/-- The head of the queue is another station's (R33). -/
theorem head_ne_of_isHead {s : State} {c h : Nat} (hn : isHead s c h = false) :
    ∀ w ∈ (claimAt s c).waiters.head?, w.station ≠ h := by
  intro w hw
  unfold isHead at hn
  split at hn
  · rename_i hq
    simp [hq] at hw
  · rename_i v _ hq
    have hv : v = w := by simpa [hq] using hw
    simpa [hv] using hn

/-- A waiter behind the head leaves a lawful table lawful. -/
theorem ClaimsLawful.removeWaiter {s : State} {c h : Nat} (hs : ClaimsLawful s) (hn : isHead s c h = false) :
    ClaimsLawful (removeWaiter c h s) := by
  refine hs.of_claim c (fun b hb => claimAt_removeWaiter_other h s hb) (fun hc => ?_)
  rw [claimAt_removeWaiter, if_pos rfl]
  exact RecordLawful.filterWaiters (hs c hc) (head_ne_of_isHead hn)

/-- A hold's removal with promotion keeps the claim table lawful (R10, R12). -/
theorem ClaimsLawful.removeAndPromote {s : State} (c h : Nat) (hs : ClaimsLawful s) :
    ClaimsLawful (removeAndPromote c h s) :=
  hs.promote c (fun _ hb => claimAt_removeHold_other h s hb) (fun hc => removeHold_shaped h (.of_lawful (hs c hc)))

/-- A waiter's leaving, with promotion where it was the head, keeps the claim table lawful (R33, R34). -/
theorem ClaimsLawful.leaveQueue {s : State} (c h : Nat) (hs : ClaimsLawful s) : ClaimsLawful (leaveQueue c h s) := by
  unfold Machine.leaveQueue
  split
  · exact hs.promote c (fun _ hb => claimAt_removeWaiter_other h s hb)
      (fun hc => removeWaiter_shaped h (.of_lawful (hs c hc)))
  · rename_i hn
    exact hs.removeWaiter (Bool.not_eq_true _ ▸ hn)

/-- The purge of one claim keeps the claim table lawful: promotion runs where a hold or the head left, and else the
head stays (R16). -/
theorem ClaimsLawful.purgeClaim {s : State} (d c : Nat) (hs : ClaimsLawful s) : ClaimsLawful (purgeClaim d s c) := by
  unfold Machine.purgeClaim
  extract_lets wasHead held s1 s2
  have ho1 : ∀ b ≠ c, claimAt s1 b = claimAt s b := fun b hb => by
    simp only [s1]; split
    · exact claimAt_removeWaiter_other d s hb
    · rfl
  have hc1 : c < Config.claimCount → RecordShaped (claimAt s1 c) := fun hc => by
    simp only [s1]; split
    · exact removeWaiter_shaped d (.of_lawful (hs c hc))
    · exact .of_lawful (hs c hc)
  have ho2 : ∀ b ≠ c, claimAt s2 b = claimAt s b := fun b hb => by
    simp only [s2]; split
    · rw [claimAt_removeHold_other d s1 hb, ho1 b hb]
    · exact ho1 b hb
  have hc2 : c < Config.claimCount → RecordShaped (claimAt s2 c) := fun hc => by
    simp only [s2]; split
    · exact removeHold_shaped d (hc1 hc)
    · exact hc1 hc
  split
  · exact hs.promote c ho2 hc2
  · rename_i hn
    obtain ⟨hheld, hhead⟩ : held = false ∧ wasHead = false := by simpa using hn
    have h2 : s2 = s1 := if_neg (by simp [hheld])
    rw [h2]
    simp only [s1]
    split
    · exact hs.removeWaiter hhead
    · exact hs

/-- A purge keeps the claim table lawful (R16). -/
theorem ClaimsLawful.purge {s : State} (d : Nat) (hs : ClaimsLawful s) : ClaimsLawful (purge d s) :=
  List.foldlRecOn _ _ hs fun _ ht c _ => ht.purgeClaim d c

/-! ## ASK (R48, R49) -/

/-- A station that neither holds a claim nor waits on it stands nowhere in its record. -/
theorem not_mem_stations {s : State} {c d : Nat} (hh : holdsClaim s c d = false) (hw : waitsOn s c d = false) :
    d ∉ (claimAt s c).holders.map (·.station) ∧ d ∉ (claimAt s c).waiters.map (·.station) := by
  simpa [holdsClaim, waitsOn] using And.intro hh hw

/-- A grant finds the sender nowhere on the claim, no queue, and the grant test passed (R48). -/
theorem askDecision_eq_grant {a : AskFields} {d : Nat} {s : State} (h : askDecision a d s = .grant) :
    (holdsClaim s a.claim d = false ∧ waitsOn s a.claim d = false) ∧
      (claimAt s a.claim).waiters = [] ∧ grantTest (claimAt s a.claim).holders a.mode = true := by
  unfold askDecision at h
  split at h
  · cases h
  split at h
  · cases h
  rename_i _ hd
  split at h
  · rename_i hg
    exact ⟨by simpa using hd, hg⟩
  · split at h
    · cases h
    · split at h <;> cases h

/-- A queued sender stands nowhere on the claim, and fails the grant test where it will be the head (R48). -/
theorem askDecision_eq_queued {a : AskFields} {d : Nat} {s : State} (h : askDecision a d s = .queued) :
    (holdsClaim s a.claim d = false ∧ waitsOn s a.claim d = false) ∧
      ((claimAt s a.claim).waiters = [] → grantTest (claimAt s a.claim).holders a.mode = false) := by
  unfold askDecision at h
  split at h
  · cases h
  split at h
  · cases h
  rename_i _ hd
  split at h
  · cases h
  · rename_i hg
    exact ⟨by simpa using hd, fun hq => by simpa [hq] using hg⟩

/-- The outcome's effect on the sender's tag leaves the replica alone (R49). -/
theorem toAskTag_replica (e : RxEntry) {act : Nat → State → State}
    (ha : ∀ t s, (act t s).replica = s.replica) (s : State) : (toAskTag e act s).replica = s.replica := by
  unfold toAskTag
  split
  · split
    · exact ha _ s
    · rfl
  · rfl

theorem tagAskGranted_replica (serial t : Nat) (s : State) : (tagAskGranted serial t s).replica = s.replica := by
  unfold tagAskGranted
  simp only
  split <;> simp

theorem tagAskQueued_replica (claim position t : Nat) (s : State) :
    (tagAskQueued claim position t s).replica = s.replica := by
  unfold tagAskQueued
  simp only
  split <;> simp

/-- A grant to an ASK keeps the claim table lawful (R7, R48). -/
theorem ClaimsLawful.grant_ask {s : State} {c : Nat} {w : Waiter} (hs : ClaimsLawful s)
    (hn : holdsClaim s c w.station = false ∧ waitsOn s c w.station = false) (hq : (claimAt s c).waiters = [])
    (hl : leaseOutOfRange w.lease = false) (hg : grantTest (claimAt s c).holders w.mode = true) :
    ClaimsLawful (grant c w s) := by
  refine hs.of_claim c (fun b hb => by rw [claimAt_grant, if_neg hb]) (fun hc => ?_)
  have hr := RecordShaped.of_lawful (hs c hc)
  obtain ⟨hh, hw⟩ := not_mem_stations hn.1 hn.2
  rw [claimAt_grant, if_pos rfl]
  refine (hr.grant ?_ hl hg).lawful_of_held (by simp [ClaimRecord.grant]) (by simp [HeadWaits, ClaimRecord.grant, hq])
  simpa [hq] using nodup_stations_concat hr.stations hh hw

/-- An ASK that is queued keeps the claim table lawful (R30, R48). -/
theorem ClaimsLawful.appendWaiter {s : State} {c : Nat} {w : Waiter} (hs : ClaimsLawful s)
    (hn : holdsClaim s c w.station = false ∧ waitsOn s c w.station = false)
    (hl : leaseOutOfRange w.lease = false)
    (hg : (claimAt s c).waiters = [] → grantTest (claimAt s c).holders w.mode = false) :
    ClaimsLawful (appendWaiter c w s) := by
  refine hs.of_claim c (fun b hb => by rw [Machine.appendWaiter, claimAt_setClaim, if_neg hb]) (fun hc => ?_)
  obtain ⟨hh, hw⟩ := not_mem_stations hn.1 hn.2
  rw [Machine.appendWaiter, claimAt_setClaim_same]
  exact RecordLawful.append (hs c hc) hh hw hl hg

theorem askEffect_lawful {a : AskFields} {e : RxEntry} {s : State} (hs : ClaimsLawful s)
    (hl : leaseOutOfRange a.lease = false) : ClaimsLawful (askEffect a e (askDecision a e.sender s) s) := by
  have tagOnly : ∀ {t : State} {act : Nat → State → State}, (∀ n u, (act n u).replica = u.replica) →
      ClaimsLawful t → ClaimsLawful (toAskTag e act t) := fun ha ht =>
    ht.congr (congrArg Replica.claims (toAskTag_replica e ha _))
  cases ho : askDecision a e.sender s with
  | outOfTurn => exact tagOnly (fun t u => endTag_replica t _ u) hs
  | duplicate => exact tagOnly (fun t u => endTag_replica t _ u) hs
  | busy => exact tagOnly (fun t u => endTag_replica t _ u) hs
  | poolFull => exact tagOnly (fun t u => endTag_replica t _ u) hs
  | grant =>
    obtain ⟨hn, hq, hg⟩ := askDecision_eq_grant ho
    exact tagOnly (tagAskGranted_replica _) (hs.grant_ask hn hq hl hg)
  | queued =>
    obtain ⟨hn, hg⟩ := askDecision_eq_queued ho
    exact tagOnly (tagAskQueued_replica _ _) (hs.appendWaiter hn hl hg)

theorem askBody_lawful (e : RxEntry) (s : State) (hs : ClaimsLawful s) : ClaimsLawful (askBody e s) := by
  unfold askBody
  split
  · split
    · rename_i h
      exact askEffect_lawful hs (by simp_all [AskFields.inRange])
    · exact hs
  · exact hs

/-! ## Frames that name a hold or a waiter (R51 to R55) -/

@[simp] theorem endTagFor_replica (c : Nat) (ps : List Phase) (n : Nat → Notice) (s : State) :
    (endTagFor c ps n s).replica = s.replica := by
  unfold endTagFor
  split <;> simp

@[simp] theorem tagExtended_replica (c l serial : Nat) (s : State) :
    (tagExtended c l serial s).replica = s.replica := by
  unfold tagExtended
  split <;> simp

@[simp] theorem staleExtend_replica (e : RxEntry) (s : State) : (staleExtend e s).replica = s.replica := by
  unfold staleExtend
  split <;> simp

@[simp] theorem staleCancel_replica (e : RxEntry) (s : State) : (staleCancel e s).replica = s.replica := by
  unfold staleCancel
  split <;> simp

/-- What a frame does to this station's own tag, where it is this station's, keeps the claim table as it is. -/
theorem ClaimsLawful.thenOwn {p : Prop} [Decidable p] {s : State} {f : State → State} (hs : ClaimsLawful s)
    (hf : (f s).replica = s.replica) : ClaimsLawful (if p then f s else s) := by
  split
  · exact hs.congr (congrArg Replica.claims hf)
  · exact hs

theorem yieldBody_lawful (e : RxEntry) (s : State) (hs : ClaimsLawful s) : ClaimsLawful (yieldBody e s) := by
  unfold yieldBody
  split
  · split
    · exact (hs.removeAndPromote _ _).thenOwn (endTagFor_replica _ _ _ _)
    · exact hs
  · exact hs

theorem lapseBody_lawful (e : RxEntry) (s : State) (hs : ClaimsLawful s) : ClaimsLawful (lapseBody e s) := by
  unfold lapseBody
  split
  · split
    · exact (hs.removeAndPromote _ _).thenOwn (endTagFor_replica _ _ _ _)
    · exact hs
  · exact hs

/-- A reference that matches names a hold, so the claim is not FREE (R5). -/
theorem holders_ne_nil_of_refMatches {s : State} {c h serial : Nat} (hr : refMatches s c h serial = true) :
    (claimAt s c).holders ≠ [] := by
  intro h0
  simp [refMatches, slotOf, h0] at hr

/-- An extension of a held claim keeps the claim table lawful (R9). -/
theorem ClaimsLawful.extendHold {s : State} {c : Nat} (h : Nat) {l : Nat} (hs : ClaimsLawful s)
    (hne : (claimAt s c).holders ≠ []) (hl : leaseOutOfRange l = false) : ClaimsLawful (extendHold c h l s) := by
  refine hs.of_claim c (fun b hb => by rw [claimAt_extendHold, if_neg hb]) (fun hc => ?_)
  rw [claimAt_extendHold, if_pos rfl]
  exact RecordLawful.extend h l (hs c hc) hne hl

theorem extendBody_lawful (e : RxEntry) (s : State) (hs : ClaimsLawful s) : ClaimsLawful (extendBody e s) := by
  unfold extendBody
  split
  · split
    · split
      · rename_i h
        obtain ⟨⟨_, hl⟩, hr⟩ : (_ ∧ leaseOutOfRange _ = false) ∧ refMatches s _ _ _ = true := by
          simpa using h
        exact (hs.extendHold e.sender (holders_ne_nil_of_refMatches hr) hl).thenOwn (tagExtended_replica _ _ _ _)
      · exact hs.congr (by simp)
    · exact hs
  · exact hs

theorem cancelBody_lawful (e : RxEntry) (s : State) (hs : ClaimsLawful s) : ClaimsLawful (cancelBody e s) := by
  unfold cancelBody
  split
  · split
    · split
      · exact (hs.leaveQueue _ _).thenOwn (endTagFor_replica _ _ _ _)
      · exact hs.congr (by simp)
    · exact hs
  · exact hs

/-! ## DROP and ENTER (R57 to R61) -/

@[simp] theorem unlist_claims (d : Nat) (s : State) : (unlist d s).replica.claims = s.replica.claims := by
  simp [unlist]

@[simp] theorem listFresh_claims (d : Nat) (r : RosterEntry) (s : State) :
    (listFresh d r s).replica.claims = s.replica.claims := by
  simp [listFresh]

theorem droppedSelf_keepsOrClears (sender : Nat) (s : State) : KeepsOrClears s (droppedSelf sender s) := by
  unfold droppedSelf
  split
  · exact .of_cleared (by simp)
  · exact .of_eq (by simp)

theorem dropShared_lawful (d sender : Nat) (s : State) (hs : ClaimsLawful s) :
    ClaimsLawful (dropShared d sender s) := by
  have hp : ClaimsLawful (unlist d (purge d s)) := (hs.purge d).congr (by simp)
  unfold dropShared
  split
  · exact hs
  · simp only
    split
    · exact (droppedSelf_keepsOrClears sender _).lawful hp
    · exact hp

theorem dropLearned_keepsOrClears (d : Nat) (s : State) : KeepsOrClears s (dropLearned d s) := by
  have h1 : KeepsOrClears s (if rosterAt s d = .absent then s else unlist d s) := .ite (.refl s) (.of_eq (by simp))
  exact .ite (h1.trans (nextAttempt_keepsOrClears _ _)) h1

theorem dropBody_lawful (e : RxEntry) (s : State) (hs : ClaimsLawful s) : ClaimsLawful (dropBody e s) := by
  unfold dropBody
  split
  · split
    · exact hs
    · split
      · exact dropShared_lawful _ e.sender s hs
      · exact (dropLearned_keepsOrClears _ s).lawful hs
  · exact hs

theorem enterShared_lawful (d : Nat) (s : State) (hs : ClaimsLawful s) : ClaimsLawful (enterShared d s) := by
  refine ClaimsLawful.congr ?_ (listFresh_claims d .joining _)
  split
  · exact hs
  · exact (hs.purge d).congr (by simp)

@[simp] theorem found_claims (s : State) : (found s).replica.claims = [] := by simp [found]

@[simp] theorem joinWait_replica (s : State) : (joinWait s).replica = s.replica := by simp [joinWait]

theorem enterLearned_keepsOrClears (d : Nat) (s : State) : KeepsOrClears s (enterLearned d s) := by
  have h1 : KeepsOrClears s (if rosterAt s d = .absent then s else unlist d s) := .ite (.refl s) (.of_eq (by simp))
  have h2 : ∀ r, KeepsOrClears s (listFresh d r (if rosterAt s d = .absent then s else unlist d s)) :=
    fun r => h1.trans (.of_eq (listFresh_claims d r _))
  exact .ite (.ite (.of_cleared (found_claims _)) ((h2 _).trans (.of_eq (by rw [joinWait_replica])))) (h2 _)

theorem enterBody_lawful (e : RxEntry) (s : State) (hs : ClaimsLawful s) : ClaimsLawful (enterBody e s) := by
  unfold enterBody
  split
  · exact enterShared_lawful _ s hs
  · exact (enterLearned_keepsOrClears _ s).lawful hs

/-! ## ROLL (R62 to R65) -/

@[simp] theorem learnRoll_claims (d : Nat) (joining : Bool) (s : State) :
    (learnRoll d joining s).replica.claims = s.replica.claims := by
  unfold learnRoll
  split <;> simp

/-- A diverged MEMBER empties its claim table (R65). -/
@[simp] theorem diverge_claims (d : Nat) (s : State) : (diverge d s).replica.claims = [] := by
  simp [diverge, clearRoster]

theorem compareRoll_keepsOrClears (d : Nat) (dig : BitVec 16) (s : State) : KeepsOrClears s (compareRoll d dig s) := by
  unfold compareRoll
  split
  · exact .of_cleared (diverge_claims d s)
  · split
    · exact .of_eq rfl
    · exact .refl s

theorem rollBody_keepsOrClears (e : RxEntry) (s : State) : KeepsOrClears s (rollBody e s) := by
  unfold rollBody
  split
  · split
    · exact .refl s
    · split
      · exact .of_eq (learnRoll_claims _ _ s)
      · split
        · exact compareRoll_keepsOrClears _ _ s
        · exact .refl s
  · exact .refl s

/-! ## Train frames (R111 to R119) -/

/-- A loading station empties its claim table at the head (R114). -/
@[simp] theorem loadHead_claims (h : HeadFields) (s : State) : (loadHead h s).replica.claims = [] := by simp [loadHead]

theorem trainHeadBody_keepsOrClears (e : RxEntry) (s : State) : KeepsOrClears s (trainHeadBody e s) := by
  unfold trainHeadBody
  split
  · exact .ite (.of_cleared (loadHead_claims _ _)) (.ite (.of_cleared (discardCopy_claims _)) (.of_eq rfl))
  · exact .refl s

theorem loadHold_replica (c : Nat) (s : State) (h : HoldSlot × Nat) : (loadHold c s h).replica = s.replica := by
  unfold loadHold
  simp only
  split <;> simp

/-- A loaded record is written as it was carried (R115). -/
theorem loadClaim_replica (f : ClaimFields) (s : State) : (loadClaim f s).replica =
    (setClaim f.claim ⟨f.serial, f.holders.map (·.1), f.waiters⟩ s).replica :=
  foldl_keeps (·.replica) (loadHold f.claim) (loadHold_replica f.claim) _ _

theorem trainClaimBody_lawful (e : RxEntry) (s : State) (hs : ClaimsLawful s)
    (he : ∀ f ∈ parseClaim e.payload, RecordLawful ⟨f.serial, f.holders.map (·.1), f.waiters⟩) :
    ClaimsLawful (trainClaimBody e s) := by
  unfold trainClaimBody
  split
  · rename_i r f _ hf
    split
    · exact (hs.setClaim f.claim (he f hf)).congr (congrArg Replica.claims (loadClaim_replica f _))
    · exact hs
  · exact hs

theorem commitStation_claims (joining : BitVec 32) (s : State) (d : Nat) :
    (commitStation joining s d).replica.claims = s.replica.claims := by
  unfold commitStation
  split <;> simp

@[simp] theorem commitRoster_claims (joining : BitVec 32) (s : State) :
    (commitRoster joining s).replica.claims = s.replica.claims :=
  foldl_keeps (·.replica.claims) (commitStation joining) (commitStation_claims joining) _ s

theorem startLoadedOn_replica (s : State) (c : Nat) : (startLoadedOn s c).replica = s.replica :=
  foldl_keeps (·.replica) (startLoaded c) (fun s h => startWatchAt_replica c h.station h.lease h.serial _ s) _ s

@[simp] theorem loaderReady_replica (s : State) : (loaderReady s).replica = s.replica := rfl

theorem joinCommit_replica (s : State) : (joinCommit s).replica = s.replica := by
  unfold joinCommit
  rw [moveTo_replica, loaderReady_replica]
  exact foldl_keeps (·.replica) startLoadedOn startLoadedOn_replica _ s

theorem reconcileTag_replica (s : State) (t : Nat) : (reconcileTag s t).replica = s.replica := by
  unfold reconcileTag
  extract_lets stays
  split
  · rfl
  · exact endTagIfUsed_replica .copy s t

theorem founderCommit_replica (s : State) : (founderCommit s).replica = s.replica := by
  unfold founderCommit
  rw [moveTo_replica]
  exact foldl_keeps (·.replica) reconcileTag reconcileTag_replica _ _

@[simp] theorem loaderCommit_replica (s : State) : (loaderCommit s).replica = s.replica := by
  unfold loaderCommit
  split
  · exact joinCommit_replica s
  · exact founderCommit_replica s
  all_goals rfl

/-- The commit changes the roster only (R117). -/
theorem trainTailBody_claims (e : RxEntry) (s : State) : (trainTailBody e s).replica.claims = s.replica.claims := by
  unfold trainTailBody sourceCommit
  split
  · simp only
    (repeat' split) <;> simp
  · rfl

/-! ## What comes before a frame's own rule (R41, R43, R111) -/

@[simp] theorem commonSteps_replica (e : RxEntry) (s : State) : (commonSteps e s).replica = s.replica := by
  unfold commonSteps
  simp only
  (repeat' split) <;> simp

theorem beforeApply_keepsOrClears (e : RxEntry) (s : State) : KeepsOrClears s (beforeApply e s) :=
  .ite (.refl s) (settleRun_keepsOrClears s)

@[simp] theorem commonSteps_apply (e : RxEntry) (s : State) : (commonSteps e s).apply = s.apply := by
  unfold commonSteps
  simp only
  (repeat' split) <;> simp

/-- An application keeps the claim table lawful where its rule does, on the state that the rule is given (R41, R43). -/
theorem applyEntry_lawful {body : RxEntry → State → State} {s : State} (hs : ClaimsLawful s)
    (hb : ∀ e rest t, s.apply.rx = e :: rest → t.apply = ⟨rest, s.apply.record⟩ → ClaimsLawful t →
      ClaimsLawful (body e t)) : ClaimsLawful (applyEntry body s) := by
  unfold applyEntry
  split
  · exact hs
  · rename_i e rest hrx
    exact hb e rest _ hrx (commonSteps_apply e _) (hs.congr (congrArg Replica.claims (commonSteps_replica e _)))

/-- The application of the oldest frame keeps the claim table lawful where its rule does (R41). -/
theorem applyFront_lawful {k : FrameKind} {body : RxEntry → State → State}
    (hb : ∀ e t, ClaimsLawful t → ClaimsLawful (body e t)) (s : State) (hs : ClaimsLawful s) :
    ClaimsLawful (applyFront k body s) := by
  unfold applyFront
  split
  · exact hs
  · split
    · exact applyEntry_lawful ((beforeApply_keepsOrClears _ s).lawful hs) (fun e _ t _ _ ht => hb e t ht)
    · exact hs

/-- Without a pending-train record a TRAIN-CLAIM does nothing (R111). -/
theorem trainClaimBody_of_no_record (e : RxEntry) {s : State} (h : s.apply.record = none) : trainClaimBody e s = s := by
  simp [trainClaimBody, h]

/-- The application of a TRAIN-CLAIM keeps the claim table lawful where the record it carries is lawful. One that is no
continuation ends the pending-train record and is not loaded (R111, R115). -/
theorem applyTrainClaim_lawful (s : State) (hs : ClaimsLawful s) (hf : FrontClaimLawful s) :
    ClaimsLawful (applyFront .trainClaim trainClaimBody s) := by
  unfold applyFront
  split
  · exact hs
  · rename_i e rest hrx
    split
    · rename_i hk
      refine applyEntry_lawful ((beforeApply_keepsOrClears e s).lawful hs) (fun e' rest' t hrx' ht hl => ?_)
      by_cases hc : e.continuation = true
      · obtain rfl : e = e' := by
          rw [beforeApply, if_pos hc, hrx] at hrx'
          exact (List.cons.inj hrx').1
        exact trainClaimBody_lawful e t hl (hf e (by rw [hrx]; rfl) hk.2)
      · have hn : t.apply.record = none := by
          rw [ht, beforeApply, if_neg hc]
        rwa [trainClaimBody_of_no_record e' hn]
    · exact hs

end Sys2Proof.Machine
end

/-! # Claim records: the obligations -/

section
namespace Sys2Proof.Machine

open Sys2Proof (Byte Instr)

/-! ## Every step (R14) -/

/-- A step's next state has a lawful claim table where its meaning keeps it so; with RESETn low there is nothing to
keep (R88). -/
theorem claimsLawful_of_next {f : State → State} {s t : State}
    (h : (.next (powered f s) : Host.Outcome State Fault Refusal) = .next t) (hs : ClaimsLawful s)
    (hf : ClaimsLawful (f s)) : ClaimsLawful t := by
  obtain rfl := Host.Outcome.next.inj h
  unfold powered
  split
  · exact hs
  · exact hf

/-- The same for a meaning that leaves the claim table alone or empties it. -/
theorem KeepsOrClears.next {f : State → State} {s t : State} (hf : KeepsOrClears s (f s))
    (h : (.next (powered f s) : Host.Outcome State Fault Refusal) = .next t) (hs : ClaimsLawful s) :
    ClaimsLawful t :=
  claimsLawful_of_next h hs (hf.lawful hs)

/-- Every command keeps the claim table lawful; a TRAIN-CLAIM that is applied is taken to carry a lawful record. -/
theorem exec_keeps_claimsLawful (i : Instr) (s t : State) (hs : ClaimsLawful s)
    (hf : i = .applyTrainClaim → FrontClaimLawful s) (h : exec i s = .next t) : ClaimsLawful t := by
  cases i with
  | hardReset =>
    obtain rfl := Host.Outcome.next.inj h
    exact claimsLawful_of_cleared rfl
  | resetRelease straps =>
    obtain rfl := Host.Outcome.next.inj h
    exact (resetRelease_keepsOrClears straps s).lawful hs
  | commandByteWrite b selected readLow =>
    exact (KeepsOrClears.of_replica (writeByte_replica b selected readLow s)).next h hs
  | assemblyAgeExpiry => exact (KeepsOrClears.of_replica (expireAssembly_replica s)).next h hs
  | noticeByteRead selected writeLow =>
    exact (KeepsOrClears.of_replica (readByte_replica selected writeLow s)).next h hs
  | setup => exact (takeCommand_keepsOrClears .setup (fun fs u => .of_replica (takeSetup_replica fs u)) s).next h hs
  | go => exact (takeCommand_keepsOrClears .go (fun fs u => .of_eq (takeGo_claims fs u)) s).next h hs
  | leave => exact (takeCommand_keepsOrClears .leave (fun fs u => .of_replica (takeLeave_replica fs u)) s).next h hs
  | restart =>
    exact (takeCommand_keepsOrClears .restart (fun fs u => .of_cleared (takeRestart_claims fs u)) s).next h hs
  | status => exact (takeCommand_keepsOrClears .status (body := takeStatus) (fun _ _ => .of_eq rfl) s).next h hs
  | mask => exact (takeCommand_keepsOrClears .mask (fun fs u => .of_replica (takeMask_replica fs u)) s).next h hs
  | query => exact (takeCommand_keepsOrClears .query (fun fs u => .of_replica (takeQuery_replica fs u)) s).next h hs
  | survey => exact (takeCommand_keepsOrClears .survey (body := takeSurvey) (fun _ _ => .of_eq rfl) s).next h hs
  | acquire =>
    exact (takeCommand_keepsOrClears .acquire (fun fs u => .of_replica (takeAcquire_replica fs u)) s).next h hs
  | release =>
    exact (takeCommand_keepsOrClears .release (fun fs u => .of_replica (takeRelease_replica fs u)) s).next h hs
  | extend => exact (takeCommand_keepsOrClears .extend (fun fs u => .of_replica (takeExtend_replica fs u)) s).next h hs
  | cancel => exact (takeCommand_keepsOrClears .cancel (fun fs u => .of_replica (takeCancel_replica fs u)) s).next h hs
  | tick => exact (KeepsOrClears.of_replica (tick_replica s)).next h hs
  | leaseWatchExpiry => exact (KeepsOrClears.of_replica (leaseWatchExpiry_replica s)).next h hs
  | rollDue => exact (KeepsOrClears.of_replica (rollDue_replica s)).next h hs
  | silenceExpiry => exact (KeepsOrClears.of_replica (silenceExpiry_replica s)).next h hs
  | listenTimerExpiry => exact (KeepsOrClears.of_replica (listenTimerExpiry_replica s)).next h hs
  | copyWaitExpiry => exact (copyWaitExpiry_keepsOrClears s).next h hs
  | restTimerExpiry => exact (KeepsOrClears.of_eq (restTimerExpiry_claims s)).next h hs
  | owedFrameQueue => exact (KeepsOrClears.of_replica (fillOwed_replica s)).next h hs
  | warnPost => exact (KeepsOrClears.of_replica (postPendingWarns_replica s)).next h hs
  | frameOpen elapsed pull => exact (frameOpen_keepsOrClears elapsed pull s).next h hs
  | frameReceive sampled otherVeto ending => exact (receiveFrame_keepsOrClears sampled otherVeto ending s).next h hs
  | tryOutcome lines => exact (tryOutcome_keepsOrClears lines.bits lines.ending s).next h hs
  | stall lines => exact (cutFrame_keepsOrClears lines.bits (.stalled lines.ending) s).next h hs
  | frameBreak lines => exact (cutFrame_keepsOrClears lines.bits (.broken lines.ending) s).next h hs
  | lineStuck => exact (lineStuck_keepsOrClears s).next h hs
  | trainRunEnd => exact (settleRun_keepsOrClears s).next h hs
  | applyAsk => exact claimsLawful_of_next h hs (applyFront_lawful askBody_lawful s hs)
  | applyYield => exact claimsLawful_of_next h hs (applyFront_lawful yieldBody_lawful s hs)
  | applyExtend => exact claimsLawful_of_next h hs (applyFront_lawful extendBody_lawful s hs)
  | applyLapse => exact claimsLawful_of_next h hs (applyFront_lawful lapseBody_lawful s hs)
  | applyCancel => exact claimsLawful_of_next h hs (applyFront_lawful cancelBody_lawful s hs)
  | applyDrop => exact claimsLawful_of_next h hs (applyFront_lawful dropBody_lawful s hs)
  | applyEnter => exact claimsLawful_of_next h hs (applyFront_lawful enterBody_lawful s hs)
  | applyRoll =>
    exact claimsLawful_of_next h hs (applyFront_lawful (fun e u => (rollBody_keepsOrClears e u).lawful) s hs)
  | applyTrainHead =>
    exact claimsLawful_of_next h hs (applyFront_lawful (fun e u => (trainHeadBody_keepsOrClears e u).lawful) s hs)
  | applyTrainClaim => exact claimsLawful_of_next h hs (applyTrainClaim_lawful s hs (hf rfl))
  | applyTrainTail =>
    exact claimsLawful_of_next h hs (applyFront_lawful (fun e u hu => hu.congr (trainTailBody_claims e u)) s hs)
  | busIdleReturn => exact (busIdleReturn_keepsOrClears s).next h hs
  | lineFallWithoutOpen => exact (KeepsOrClears.of_replica (lineFallWithoutOpen_replica s)).next h hs

/-- Settles O53: the front command keeps every claim record lawful, and so does the REFCLK cycle of an empty queue. -/
theorem stepKeepsClaims : Obligations.StepKeepsClaims := by
  refine ⟨claimsLawful_of_cleared rfl, fun s t hs hf h => ?_⟩
  unfold step at h
  split at h
  · rename_i i rest hp
    exact exec_keeps_claimsLawful i { s with pending := rest } t hs (fun hi => hf (by rw [hp, hi]; rfl)) h
  · exact (KeepsOrClears.of_replica (clockCycle_replica s)).next h hs

/-! ## QUERY (R19) -/

/-- A complete QUERY with a free place is taken (R160). -/
theorem exec_query_taken {s : State} {c : Byte} (hp : Powered s) (ha : s.port.assembler = [0x03#8, c])
    (hf : 0 < freePlaces s) : exec .query s = .next (takeQuery [c] (taken s)) := by
  have hc : completeCommand s.port.assembler = some .query := by rw [ha]; rfl
  have hr : roomFor .query s = true := decide_eq_true hf
  show Host.Outcome.next (powered (takeCommand .query takeQuery) s) = _
  rw [powered_high _ hp, takeCommand, if_pos ⟨hc, hr⟩, ha]
  rfl

/-- QUERY of a claim that does not exist is denied (R161). -/
theorem takeQuery_out_of_range {c : Byte} (h : 64 ≤ c.toNat) (s : State) :
    takeQuery [c] s = push (.denied 0x03#8 .range) s :=
  if_pos h

/-- QUERY of a claim posts its RECORD (R19). -/
theorem takeQuery_in_range {c : Byte} (h : c.toNat < 64) (s : State) :
    takeQuery [c] s = push (.record (recordReply c.toNat s)) s :=
  if_neg (Nat.not_le.mpr h)

/-- The states that share the claim table are MEMBER and LEAVING (R45). -/
theorem sharing_iff (st : StationState) : st.sharing = true ↔ st = .member ∨ st = .leaving := by
  cases st <;> decide

/-- The record as it stands, where the station shares the claim table (R19). -/
theorem recordReply_of_sharing {s : State} (h : s.station.state = .member ∨ s.station.state = .leaving) (c : Nat) :
    recordReply c s = ⟨c, claimState (claimAt s c).holders, (claimAt s c).serial,
      (claimAt s c).holders.map (fun h => (h, ticksLeft s c h.station)), (claimAt s c).waiters⟩ :=
  if_pos ((sharing_iff _).mpr h)

/-- FREE with serial 0, no holders and no waiters, in every other state (R19). -/
theorem recordReply_of_not_sharing {s : State} (hm : s.station.state ≠ .member) (hl : s.station.state ≠ .leaving)
    (c : Nat) : recordReply c s = ⟨c, .free, 0, [], []⟩ :=
  if_neg (fun h => ((sharing_iff _).mp h).elim hm hl)

/-- Settles O14: by the claim number's range, then by whether the station's state shares the claim table. -/
theorem queryReportsTheClaim : Obligations.QueryReportsTheClaim := by
  intro s c hp ha hf
  rw [exec_query_taken hp ha hf]
  refine ⟨fun h => ?_, fun h hs => ?_, fun h hm hl => ?_⟩
  · rw [takeQuery_out_of_range h]
  · rw [takeQuery_in_range h, recordReply_of_sharing (s := taken s) hs]
    rfl
  · rw [takeQuery_in_range h, recordReply_of_not_sharing (s := taken s) hm hl]

end Sys2Proof.Machine
end

/-! # Requests for a tag: the obligations -/

section
namespace Sys2Proof.Machine

open Sys2Proof (Byte)

/-! ## Taking a request (R160, R161) -/

/-- A complete command with its room is taken: its body acts on the state whose assembler is empty (R160). -/
theorem takeCommand_taken {c : Command} {s : State} (hc : completeCommand s.port.assembler = some c)
    (hr : roomFor c s = true) (body : List Byte → State → State) :
    takeCommand c body s = body s.port.assembler.tail (taken s) :=
  if_pos ⟨hc, hr⟩

/-- A request that passes the shared checks of state, range and tag in use is left to its own effect (R161). -/
theorem onTag_inUse {s : State} {t : Nat} (hs : s.station.state = .member ∨ s.station.state = .leaving)
    (ht : t < 16) {inRange : Bool} (hin : inRange = true) (hu : (tagAt s t).inUse = true) (c : Command)
    (act : State → State) : onTag c t inRange act s = act s := by
  have hshare : s.station.state.sharing = true := (sharing_iff _).mpr hs
  have hrange : ¬ (Config.tagCount ≤ t ∨ inRange = false) := by simpa [hin, Config.tagCount] using ht
  rw [onTag, if_neg (by simp [hshare]), if_neg hrange, if_neg (by simp [hu])]

/-! ## EXTEND (R170) -/

/-- A complete EXTEND with a free place and a bound place is taken (R160). -/
theorem exec_extend_taken {s : State} {tg lh ll : Byte} (hp : Powered s)
    (ha : s.port.assembler = [0x22#8, tg, lh, ll]) (hr : roomFor .extend s = true) :
    exec .extend s = .next (takeExtend [tg, lh, ll] (taken s)) := by
  have hc : completeCommand s.port.assembler = some .extend := by rw [ha]; rfl
  show Host.Outcome.next (powered (takeCommand .extend takeExtend) s) = _
  rw [powered_high _ hp, takeCommand_taken hc hr, ha]
  rfl

/-- EXTEND of a tag in use, with a lease in range, goes by the tag's phase and its extend-in-flight flag (R170). -/
theorem takeExtend_inUse {s : State} {tg lh ll : Byte}
    (hs : s.station.state = .member ∨ s.station.state = .leaving) (ht : tg.toNat < 16) (hl : u16 lh ll ≤ 4095)
    (hu : (tagAt s tg.toNat).inUse = true) :
    takeExtend [tg, lh, ll] s =
      if (tagAt s tg.toNat).phase ≠ some .held ∨ (tagAt s tg.toNat).extendInFlight = true then
        deny .extend .wrongPhase s
      else enqueue (.extend (tagAt s tg.toNat).claim (leaseOrDefault s (u16 lh ll))) (some tg.toNat)
        (setTag tg.toNat { tagAt s tg.toNat with extendInFlight := true } s) := by
  have hlease : decide (u16 lh ll ≤ Config.maxLease) = true := decide_eq_true hl
  unfold takeExtend
  exact onTag_inUse hs ht hlease hu .extend _

/-- Settles O18: the taken command passes the shared checks, then by whether the tag is HELD with no extension in
flight. -/
theorem extendQueuesRenewal : Obligations.ExtendQueuesRenewal := by
  intro s tg lh ll hp ha hr hs ht hl hu lease
  rw [exec_extend_taken hp ha hr, takeExtend_inUse (s := taken s) hs ht hl hu]
  refine ⟨fun hheld hidle => ?_, fun hbusy => ?_⟩
  · have hfree : ¬ ((tagAt s tg.toNat).phase ≠ some .held ∨ (tagAt s tg.toNat).extendInFlight = true) := by
      simp [hheld, hidle]
    exact congrArg _ (if_neg hfree)
  · exact congrArg _ (if_pos hbusy)

end Sys2Proof.Machine
end

/-! # Notices read: the obligations -/

section
namespace Sys2Proof.Machine

/-! ## The choice of the notice read first (R182) -/

/-- The ranks are those of the three classes (Table 10-1). -/
theorem Notice.rank_le_two (n : Notice) : n.rank ≤ 2 := by
  cases n <;> simp [Notice.rank]

/-- Nothing of rank `k` is found exactly where no entry has that rank. -/
theorem takeRank_eq_none_iff {k : Nat} {es : List Notice} : takeRank k es = none ↔ ∀ m ∈ es, m.rank ≠ k := by
  induction es with
  | nil => simp [takeRank]
  | cons e es ih => by_cases he : e.rank = k <;> simp [takeRank, he, ih]

/-- What is found of rank `k` is the oldest entry of that rank; the others keep their order. -/
theorem takeRank_eq_some {k : Nat} {es rest : List Notice} {n : Notice} (h : takeRank k es = some (n, rest)) :
    ∃ older younger, es = older ++ n :: younger ∧ rest = older ++ younger ∧ n.rank = k ∧
      ∀ m ∈ older, m.rank ≠ k := by
  induction es generalizing rest with
  | nil => simp [takeRank] at h
  | cons e es ih =>
    by_cases he : e.rank = k
    · obtain ⟨rfl, rfl⟩ : e = n ∧ es = rest := by simpa [takeRank, he] using h
      exact ⟨[], es, rfl, rfl, he, by simp⟩
    · obtain ⟨rest', h', rfl⟩ : ∃ rest', takeRank k es = some (n, rest') ∧ e :: rest' = rest := by
        simpa [takeRank, he] using h
      obtain ⟨older, younger, rfl, rfl, hn, holder⟩ := ih h'
      exact ⟨e :: older, younger, rfl, rfl, hn, by simpa [he] using holder⟩

/-- `rest` is `es` without `n`, the oldest entry of the highest class that holds any (R182). -/
def OldestOfHighest (es : List Notice) (n : Notice) (rest : List Notice) : Prop :=
  ∃ older younger, es = older ++ n :: younger ∧ rest = older ++ younger ∧
    (∀ m ∈ older, n.rank < m.rank) ∧ ∀ m ∈ younger, n.rank ≤ m.rank

/-- Where no entry is of a class higher than `k`, the first of rank `k` is the oldest of the highest class. -/
theorem takeRank_oldestOfHighest {k : Nat} {es rest : List Notice} {n : Notice}
    (h : takeRank k es = some (n, rest)) (hk : ∀ m ∈ es, k ≤ m.rank) : OldestOfHighest es n rest := by
  obtain ⟨older, younger, rfl, rfl, rfl, holder⟩ := takeRank_eq_some h
  refine ⟨older, younger, rfl, rfl, fun m hm => ?_, fun m hm => hk m (by simp [hm])⟩
  exact lt_of_le_of_ne (hk m (by simp [hm])) (holder m hm).symm

/-- A choice is the oldest entry of the highest class: each class is looked at after the higher ones were found
empty (R182). -/
theorem chooseNotice_oldestOfHighest {es rest : List Notice} {n : Notice} (h : chooseNotice es = some (n, rest)) :
    OldestOfHighest es n rest := by
  unfold chooseNotice at h
  split at h
  next _ halert =>
    obtain rfl := Option.some.inj h
    exact takeRank_oldestOfHighest halert fun m _ => m.rank.zero_le
  next hnoAlert =>
    have hpos : ∀ m ∈ es, 1 ≤ m.rank := fun m hm => Nat.pos_of_ne_zero (takeRank_eq_none_iff.mp hnoAlert m hm)
    split at h
    next _ hresult =>
      obtain rfl := Option.some.inj h
      exact takeRank_oldestOfHighest hresult hpos
    next hnoResult =>
      exact takeRank_oldestOfHighest h fun m hm =>
        lt_of_le_of_ne (hpos m hm) (takeRank_eq_none_iff.mp hnoResult m hm).symm

/-- With no entry to choose, the queue is empty: every notice is of one of the three classes. -/
theorem eq_nil_of_chooseNotice_eq_none {es : List Notice} (h : chooseNotice es = none) : es = [] := by
  unfold chooseNotice at h
  split at h
  next => cases h
  next hnoAlert =>
    split at h
    next => cases h
    next hnoResult =>
      refine List.eq_nil_iff_forall_not_mem.mpr fun m hm => ?_
      have h0 : m.rank ≠ 0 := takeRank_eq_none_iff.mp hnoAlert m hm
      have h1 : m.rank ≠ 1 := takeRank_eq_none_iff.mp hnoResult m hm
      have h2 : m.rank ≠ 2 := takeRank_eq_none_iff.mp h m hm
      have hle : m.rank ≤ 2 := m.rank_le_two
      omega

/-! ## The byte read (R157, R158) -/

/-- No notice is a kind byte alone (Table 11-4). -/
theorem Notice.one_lt_length_bytes (n : Notice) : 1 < n.bytes.length := by
  cases n <;> simp [Notice.bytes, recordBytes, rosterBytes, statusBytes]

/-- The first read of a notice drives its first byte and leaves more to read. -/
theorem readNext_first (n : Notice) (s : State) :
    ∃ b, n.bytes.head? = some b ∧
      readNext ⟨n, 0⟩ s = { s with port.dataOut := b, port.reading := some ⟨n, 1⟩ } := by
  have hmore : 0 + 1 < n.bytes.length := n.one_lt_length_bytes
  refine ⟨n.bytes.getD 0 0#8, ?_, if_pos hmore⟩
  rw [List.head?_eq_getElem?, List.getD_eq_getElem?_getD, List.getElem?_eq_getElem (by omega), Option.getD_some]

/-- With no notice being read, the chosen one leaves the queue and its first byte is driven. -/
theorem consumeByte_chosen {s : State} {n : Notice} {rest : List Notice} (hr : s.port.reading = none)
    (hc : chooseNotice s.notices.entries = some (n, rest)) :
    ∃ b, n.bytes.head? = some b ∧ consumeByte s =
      { s with notices.entries := rest, port.dataOut := b, port.reading := some ⟨n, 1⟩ } := by
  obtain ⟨b, hb, hread⟩ := readNext_first n { s with notices.entries := rest, port.reading := some ⟨n, 0⟩ }
  refine ⟨b, hb, ?_⟩
  rw [consumeByte, hr]
  simp only [hc]
  exact hread

/-- A read in a cycle of its own, in which HWSn was never low, consumes a byte and nothing else (R157). -/
theorem exec_noticeByteRead_unspoiled {s : State} (hp : Powered s) (hr : s.port.readSpoiled = false) :
    exec (.noticeByteRead true false) s = .next (consumeByte s) := by
  have hsame : { s with port.readSpoiled := false, port.writeSpoiled := s.port.writeSpoiled || (true && false) } = s := by
    rw [Bool.true_and, Bool.or_false, ← hr]
  show Host.Outcome.next (powered (readByte true false) s) = _
  rw [powered_high _ hp, readByte, hsame, hr]
  rfl

/-- Settles O5: an entry waits, so the choice finds one, the oldest of the highest class, and the read drives its first
byte. -/
theorem noticeChosenIsOldestOfHighestClass : Obligations.NoticeChosenIsOldestOfHighestClass := by
  intro s hp hspoiled hreading hne
  cases hc : chooseNotice s.notices.entries with
  | none => exact absurd (eq_nil_of_chooseNotice_eq_none hc) hne
  | some p =>
    obtain ⟨n, rest⟩ := p
    obtain ⟨older, younger, hes, rfl, holder, hyounger⟩ := chooseNotice_oldestOfHighest hc
    obtain ⟨b, hb, hread⟩ := consumeByte_chosen hreading hc
    refine ⟨n, older, younger, b, hes, holder, hyounger, hb, ?_⟩
    rw [exec_noticeByteRead_unspoiled hp hspoiled, hread]

end Sys2Proof.Machine
end

/-! # The form of the tables (log entry 15)

Each table is written by `Table.set`, changed value by value, or emptied; so every operation keeps its form. -/

section
namespace Sys2Proof.Machine

open Sys2Proof (Byte BusFrame FrameEnd TryEnd Instr)

/-- A property that each step of a fold keeps holds after the fold. -/
theorem foldl_preserves {α : Type} {P : State → Prop} {f : State → α → State} (hf : ∀ s a, P s → P (f s a))
    (l : List α) {s : State} (h : P s) : P (l.foldl f s) :=
  List.foldlRecOn l f h fun t ht a _ => hf t a ht

/-- The tables decide; nothing else of the state does. -/
theorem TablesLawful.congr {s t : State} (h : TablesLawful s) (hr : t.replica = s.replica) (ht : t.tags = s.tags)
    (hw : t.watch.watches = s.watch.watches) (hs : t.watch.silence = s.watch.silence)
    (hk : t.train.carried = s.train.carried) : TablesLawful t := by
  unfold TablesLawful
  rwa [hr, ht, hw, hs, hk]

/-! ## The writes of one entry -/

theorem setClaim_tables (c : Nat) (r : ClaimRecord) {s : State} (h : TablesLawful s) : TablesLawful (setClaim c r s) := by
  obtain ⟨hc, hr, ht, hw, hs, hk⟩ := h
  exact ⟨Table.wf_set _ _ c r hc, hr, ht, hw, hs, hk⟩

theorem setRoster_tables (d : Nat) (e : RosterEntry) {s : State} (h : TablesLawful s) :
    TablesLawful (setRoster d e s) := by
  obtain ⟨hc, hr, ht, hw, hs, hk⟩ := h
  exact ⟨hc, Table.wf_set _ _ d e hr, ht, hw, hs, hk⟩

theorem setTag_tables (t : Nat) (v : Tag) {s : State} (h : TablesLawful s) : TablesLawful (setTag t v s) := by
  obtain ⟨hc, hr, ht, hw, hs, hk⟩ := h
  exact ⟨hc, hr, Table.wf_set _ _ t v ht, hw, hs, hk⟩

theorem setWatch_tables (c d : Nat) (w : Option Watch) {s : State} (h : TablesLawful s) :
    TablesLawful (setWatch c d w s) := by
  obtain ⟨hc, hr, ht, hw, hs, hk⟩ := h
  exact ⟨hc, hr, ht, Table.wf_set _ _ _ w hw, hs, hk⟩

theorem setSilence_tables (d : Nat) (v : Option Nat) {s : State} (h : TablesLawful s) :
    TablesLawful (setSilence d v s) := by
  unfold setSilence
  split
  · exact h
  · obtain ⟨hc, hr, ht, hw, hs, hk⟩ := h
    exact ⟨hc, hr, ht, hw, Table.wf_set _ _ d v hs, hk⟩

/-! ## Notices, tags and the transmit queue -/

theorem countDrop_tables {s : State} (h : TablesLawful s) : TablesLawful (countDrop s) := by
  unfold countDrop
  (repeat' split) <;> exact h

theorem postUnreserved_tables (n : Notice) {s : State} (h : TablesLawful s) : TablesLawful (postUnreserved n s) := by
  unfold postUnreserved
  split
  · exact h
  · exact countDrop_tables h

theorem postPendingWarn_tables (s : State) (t : Nat) (h : TablesLawful s) : TablesLawful (postPendingWarn s t) := by
  unfold postPendingWarn
  split
  · exact setTag_tables t _ h
  · exact h

theorem postPendingWarns_tables {s : State} (h : TablesLawful s) : TablesLawful (postPendingWarns s) := by
  unfold postPendingWarns
  exact foldl_preserves (P := TablesLawful) postPendingWarn_tables _ h

theorem moveTo_tables (st : StationState) (cause : StateCause) {s : State} (h : TablesLawful s) :
    TablesLawful (moveTo st cause s) := by
  unfold moveTo postState
  exact postUnreserved_tables _ (h.congr rfl rfl rfl rfl rfl)

theorem endTag_tables (t : Nat) (n : Notice) {s : State} (h : TablesLawful s) : TablesLawful (endTag t n s) := by
  have h1 := setTag_tables t Tag.free (s := push n (withdrawBound t s)) (h.congr rfl rfl rfl rfl rfl)
  unfold endTag
  dsimp only
  exact postPendingWarns_tables (h1.congr rfl rfl rfl rfl rfl)

theorem endTagIfUsed_tables (cause : TagCause) (s : State) (t : Nat) (h : TablesLawful s) :
    TablesLawful (endTagIfUsed cause s t) := by
  unfold endTagIfUsed
  split
  · exact endTag_tables t _ h
  · exact h

theorem endTags_tables (cause : TagCause) {s : State} (h : TablesLawful s) : TablesLawful (endTags cause s) := by
  unfold endTags
  exact foldl_preserves (P := TablesLawful) (endTagIfUsed_tables cause) _ h

theorem queueInternal_tables (s : State) (f : TxFrame) (h : TablesLawful s) : TablesLawful (queueInternal s f) := by
  unfold queueInternal
  split <;> exact h

theorem fillOwed_tables {s : State} (h : TablesLawful s) : TablesLawful (fillOwed s) := by
  unfold fillOwed
  exact foldl_preserves (P := TablesLawful) queueInternal_tables _ h

/-! ## Watches and claim records -/

theorem latchWarn_tables (c : Nat) {s : State} (h : TablesLawful s) : TablesLawful (latchWarn c s) := by
  unfold latchWarn
  split
  · exact postPendingWarns_tables (setTag_tables _ _ h)
  · exact h

theorem clearLatch_tables (c : Nat) {s : State} (h : TablesLawful s) : TablesLawful (clearLatch c s) := by
  unfold clearLatch
  split
  · exact setTag_tables _ _ h
  · exact h

theorem startWatchAt_tables (c d l n v : Nat) {s : State} (h : TablesLawful s) :
    TablesLawful (startWatchAt c d l n v s) := by
  unfold startWatchAt
  split
  · exact latchWarn_tables c (setWatch_tables c d _ h)
  · exact setWatch_tables c d _ h

theorem removeWatch_tables (c d : Nat) {s : State} (h : TablesLawful s) : TablesLawful (removeWatch c d s) := by
  unfold removeWatch
  simp only
  split
  · exact clearLatch_tables c (setWatch_tables c d none h)
  · exact setWatch_tables c d none h

theorem grant_tables (c : Nat) (w : Waiter) {s : State} (h : TablesLawful s) : TablesLawful (grant c w s) := by
  unfold grant startWatch
  exact startWatchAt_tables _ _ _ _ _ (setClaim_tables c _ h)

theorem promoteHead_tables (c : Nat) (w : Waiter) (rest : List Waiter) {s : State} (h : TablesLawful s) :
    TablesLawful (promoteHead c w rest s) := by
  have hg : TablesLawful (grant c w (setClaim c { claimAt s c with waiters := rest } s)) :=
    grant_tables c w (setClaim_tables c _ h)
  unfold promoteHead
  simp only
  split
  · split
    · exact (setTag_tables _ _ hg).congr rfl rfl rfl rfl rfl
    · exact hg
  · exact hg

theorem promoteQueue_tables (c : Nat) : ∀ (q : List Waiter) {s : State}, TablesLawful s →
    TablesLawful (promoteQueue c q s)
  | [], _, h => h
  | w :: rest, s, h => by
    unfold promoteQueue
    split
    · exact promoteQueue_tables c rest (promoteHead_tables c w rest h)
    · exact h

theorem promote_tables (c : Nat) {s : State} (h : TablesLawful s) : TablesLawful (promote c s) := by
  have hq := promoteQueue_tables c (claimAt s c).waiters h
  unfold promote freeSerial
  split
  · exact setClaim_tables c _ hq
  · exact hq

theorem extendHold_tables (c d l : Nat) {s : State} (h : TablesLawful s) : TablesLawful (extendHold c d l s) := by
  have h1 : TablesLawful (withdrawLapse c d (setClaim c ((claimAt s c).extend d l) s)) := setClaim_tables c _ h
  unfold extendHold
  refine startWatchAt_tables _ _ _ _ _ ?_
  split
  · exact clearLatch_tables c h1
  · exact h1

theorem removeHold_tables (c d : Nat) {s : State} (h : TablesLawful s) : TablesLawful (removeHold c d s) := by
  unfold removeHold
  exact (removeWatch_tables c d (setClaim_tables c _ h)).congr rfl rfl rfl rfl rfl

theorem purgeClaim_tables (d : Nat) (s : State) (c : Nat) (h : TablesLawful s) : TablesLawful (purgeClaim d s c) := by
  unfold purgeClaim
  extract_lets wasHead held s1 s2
  have h1 : TablesLawful s1 := by
    simp only [s1]; split
    · exact setClaim_tables c _ h
    · exact h
  have h2 : TablesLawful s2 := by
    simp only [s2]; split
    · exact removeHold_tables c d h1
    · exact h1
  split
  · exact promote_tables c h2
  · exact h2

theorem purge_tables (d : Nat) {s : State} (h : TablesLawful s) : TablesLawful (purge d s) := by
  unfold purge
  exact foldl_preserves (P := TablesLawful) (purgeClaim_tables d) _ h

theorem clearTable_tables {s : State} (h : TablesLawful s) : TablesLawful (clearTable s) := by
  obtain ⟨_, hr, ht, _, hs, _⟩ := h
  exact ⟨rfl, hr, Table.wf_map _ _ _ ht, rfl, hs, rfl⟩

theorem clearRoster_tables {s : State} (h : TablesLawful s) : TablesLawful (clearRoster s) := by
  obtain ⟨hc, _, ht, hw, _, hk⟩ := h
  exact ⟨hc, rfl, ht, hw, rfl, hk⟩

/-! ## The station controller (chapter 5) -/

/-- A station off the bus keeps its tags only. -/
theorem leaveBus_tables {s : State} (h : TablesLawful s) : TablesLawful (leaveBus s) := by
  obtain ⟨_, _, ht, _, _, _⟩ := h
  exact ⟨rfl, rfl, ht, rfl, rfl, rfl⟩

theorem sideline_tables (cause : StateCause) {s : State} (h : TablesLawful s) : TablesLawful (sideline cause s) := by
  have h1 := endTags_tables .sidelined h
  unfold sideline
  generalize endTags .sidelined s = u at h1 ⊢
  exact moveTo_tables _ _ ((leaveBus_tables h1).congr rfl rfl rfl rfl rfl)

theorem halt_tables (cause : StateCause) {s : State} (h : TablesLawful s) : TablesLawful (halt cause s) := by
  unfold halt
  exact moveTo_tables _ _ (leaveBus_tables (endTags_tables .sidelined h))

theorem departureEnds_tables {s : State} (h : TablesLawful s) : TablesLawful (departureEnds s) := by
  have h1 := endTags_tables .left h
  unfold departureEnds
  generalize endTags .left s = u at h1 ⊢
  exact moveTo_tables _ _ ((leaveBus_tables h1).congr rfl rfl rfl rfl rfl)

theorem enterEntering_tables (cause : StateCause) {s : State} (h : TablesLawful s) :
    TablesLawful (enterEntering cause s) := by
  obtain ⟨hc, hr, ht, _, hs, hk⟩ := h
  unfold enterEntering postState
  dsimp only
  refine postUnreserved_tables _ (TablesLawful.congr (queueInternal_tables _ .enter ?_) rfl rfl rfl rfl rfl)
  exact ⟨hc, hr, ht, rfl, hs, hk⟩

theorem enterAfresh_tables (cause : StateCause) {s : State} (h : TablesLawful s) :
    TablesLawful (enterAfresh cause s) := by
  unfold enterAfresh
  exact enterEntering_tables cause (h.congr rfl rfl rfl rfl rfl)

theorem nextAttempt_tables (cause : StateCause) {s : State} (h : TablesLawful s) :
    TablesLawful (nextAttempt cause s) := by
  unfold nextAttempt
  split
  · exact enterEntering_tables cause h
  · exact halt_tables .noCopy h

theorem forgetIfSilent_tables (s : State) (d : Nat) (h : TablesLawful s) : TablesLawful (forgetIfSilent s d) := by
  unfold forgetIfSilent
  split
  · exact setSilence_tables d none (setRoster_tables d .absent h)
  · exact h

theorem copyWaitExpires_tables {s : State} (h : TablesLawful s) : TablesLawful (copyWaitExpires s) := by
  unfold copyWaitExpires
  exact nextAttempt_tables .copyWait (foldl_preserves (P := TablesLawful) forgetIfSilent_tables _ h)

/-! ## The end of a run (R68, R120, R121) -/

theorem trainReturn_tables (counted : Bool) (e : TxEntry) {s : State} (h : TablesLawful s) :
    TablesLawful (trainReturn counted e s) := by
  unfold trainReturn
  simp only
  split
  · exact h
  · split
    · exact sideline_tables .sendJam (h.congr rfl rfl rfl rfl rfl)
    · exact h

theorem busToIdle_tables {s : State} (h : TablesLawful s) : TablesLawful (busToIdle s) := by
  unfold busToIdle returnHead
  split
  · split
    · exact trainReturn_tables true _ (h.congr rfl rfl rfl rfl rfl)
    · exact h.congr rfl rfl rfl rfl rfl
  · exact h.congr rfl rfl rfl rfl rfl

theorem discardCopy_tables {s : State} (h : TablesLawful s) : TablesLawful (discardCopy s) := by
  have hc : TablesLawful (clearTable (stopLoading s)) := clearTable_tables (h.congr rfl rfl rfl rfl rfl)
  unfold discardCopy
  simp only
  split
  · split
    · exact copyWaitExpires_tables hc
    · exact hc
  · exact enterAfresh_tables .copy (endTags_tables .copy hc)
  all_goals exact hc

theorem settleRun_tables {s : State} (h : TablesLawful s) : TablesLawful (settleRun s) := by
  unfold settleRun endRun
  simp only
  split
  · split
    · exact discardCopy_tables (h.congr rfl rfl rfl rfl rfl)
    · exact h
  · exact h

/-! ## Time (chapter 4) -/

theorem latchIfWarned_tables (before s : State) (c : Nat) (h : TablesLawful s) :
    TablesLawful (latchIfWarned before s c) := by
  unfold latchIfWarned
  split
  · split
    · exact setTag_tables _ _ h
    · exact h
  · exact h

theorem tickLeases_tables {s : State} (h : TablesLawful s) : TablesLawful (tickLeases s) := by
  have h1 : TablesLawful { s with watch.watches := Table.map none (tickWatch s) s.watch.watches } := by
    obtain ⟨hc, hr, ht, hw, hs, hk⟩ := h
    exact ⟨hc, hr, ht, Table.wf_map _ _ _ hw, hs, hk⟩
  unfold tickLeases
  dsimp only
  exact postPendingWarns_tables (foldl_preserves (P := TablesLawful) (latchIfWarned_tables s) _ h1)

theorem tickSilence_tables {s : State} (h : TablesLawful s) : TablesLawful (tickSilence s) := by
  obtain ⟨hc, hr, ht, hw, hs, hk⟩ := h
  exact ⟨hc, hr, ht, hw, Table.wf_map _ _ _ hs, hk⟩

theorem tick_tables {s : State} (h : TablesLawful s) : TablesLawful (tick s) := by
  unfold tick
  simp only
  split
  · exact h
  · exact tickLeases_tables (tickSilence_tables (h.congr rfl rfl rfl rfl rfl))

theorem countIdle_tables (cycles : Nat) {s : State} (h : TablesLawful s) : TablesLawful (countIdle cycles s) := by
  unfold countIdle
  split <;> exact h

theorem clockCycle_tables {s : State} (h : TablesLawful s) : TablesLawful (clockCycle s) := by
  have h1 := countIdle_tables 1 h
  unfold clockCycle
  simp only
  split
  · exact tick_tables h1
  · exact h1

theorem listenTimerExpiry_tables {s : State} (h : TablesLawful s) : TablesLawful (listenTimerExpiry s) := by
  unfold listenTimerExpiry
  split
  · exact enterEntering_tables .listened (h.congr rfl rfl rfl rfl rfl)
  · exact h

theorem restTimerExpiry_tables {s : State} (h : TablesLawful s) : TablesLawful (restTimerExpiry s) := by
  unfold restTimerExpiry
  split
  · obtain ⟨hc, _, ht, hw, hs, hk⟩ := h
    exact moveTo_tables _ _ ⟨hc, rfl, ht, hw, hs, hk⟩
  · exact h

/-! ## The bus (chapters 7 and 8) -/

theorem endFrame_tables (e : FrameEnd) {s : State} (h : TablesLawful s) : TablesLawful (endFrame e s) := by
  cases e with
  | close => exact busToIdle_tables h
  | relink => exact h
  | noEnd => exact h

theorem refuseFrame_tables (counts : Bool) (e : FrameEnd) {s : State} (h : TablesLawful s) :
    TablesLawful (refuseFrame counts e s) := by
  unfold refuseFrame
  extract_lets link s1
  have h1 : TablesLawful s1 := h.congr rfl rfl rfl rfl rfl
  split
  · exact sideline_tables .vetoRun h1
  · exact endFrame_tables e h1

theorem slotsOf_tables (f : BusFrame) (otherVeto : Bool) (e : FrameEnd) {s : State} (h : TablesLawful s) :
    TablesLawful (slotsOf f otherVeto e s) := by
  unfold slotsOf
  simp only
  split
  · exact refuseFrame_tables _ e (h.congr rfl rfl rfl rfl rfl)
  · split
    · unfold takeFrame
      exact endFrame_tables e (h.congr rfl rfl rfl rfl rfl)
    · exact h.congr rfl rfl rfl rfl rfl

theorem receiveFrame_tables (sampled : List Bool) (otherVeto : Bool) (e : FrameEnd) {s : State}
    (h : TablesLawful s) : TablesLawful (receiveFrame sampled otherVeto e s) := by
  have hs : TablesLawful (settleRun { s with tx.offered := none }) := settleRun_tables (h.congr rfl rfl rfl rfl rfl)
  unfold receiveFrame
  split
  · split
    · simp only
      split
      · exact slotsOf_tables _ otherVeto e hs
      · exact hs
    · exact h
  · exact h

theorem endIfUsed_tables (t : Nat) (n : Notice) {s : State} (h : TablesLawful s) : TablesLawful (endIfUsed t n s) := by
  unfold endIfUsed
  split
  · exact endTag_tables t n h
  · exact h

theorem tooLateIfHeld_tables (t : Nat) {s : State} (h : TablesLawful s) : TablesLawful (tooLateIfHeld t s) := by
  unfold tooLateIfHeld
  split
  · exact postUnreserved_tables _ h
  · exact h

theorem clearExtend_tables (t : Nat) {s : State} (h : TablesLawful s) : TablesLawful (clearExtend t s) :=
  setTag_tables t _ h

theorem withdrawIfStale_tables (s : State) (e : TxEntry) (h : TablesLawful s) : TablesLawful (withdrawIfStale s e) := by
  have hr : TablesLawful (setEntries (s.tx.entries.filter (fun x => x != e)) s) := h
  unfold withdrawIfStale staleEffect
  split
  · split
    · exact endIfUsed_tables _ _ hr
    · exact tooLateIfHeld_tables _ hr
    · split
      · exact clearExtend_tables _ hr
      · exact hr
    · exact hr
  · exact h

theorem pullOffered_tables {s : State} (h : TablesLawful s) : TablesLawful (pullOffered s) := by
  unfold pullOffered
  split <;> exact h

theorem openFrame_tables (pull : Bool) {s : State} (h : TablesLawful s) : TablesLawful (openFrame pull s) := by
  have hr : TablesLawful (revalidate s) := by
    unfold revalidate
    exact foldl_preserves (P := TablesLawful) withdrawIfStale_tables _ h
  unfold openFrame
  split
  · split
    · exact pullOffered_tables h
    · split
      · exact pullOffered_tables (hr.congr rfl rfl rfl rfl rfl)
      · exact hr.congr rfl rfl rfl rfl rfl
  · exact h

theorem limitEffect_tables (f : TxFrame) (binding : Option Nat) {s : State} (h : TablesLawful s) :
    TablesLawful (limitEffect f binding s) := by
  unfold limitEffect
  split
  · split
    · exact endIfUsed_tables _ _ h
    · split
      · exact setTag_tables _ _ h
      · exact h
    · split
      · exact setTag_tables _ _ h
      · exact tooLateIfHeld_tables _ h
    · split
      · exact clearExtend_tables _ h
      · exact h
    · exact h
  · split
    · split
      · exact queueInternal_tables s .enter h
      · exact h
    · split
      · exact queueInternal_tables s _ h
      · exact h
    · exact h

theorem returnEntry_tables (counted : Bool) (e : TxEntry) {s : State} (h : TablesLawful s) :
    TablesLawful (returnEntry counted e s) := by
  unfold returnEntry
  split
  · split
    · exact h
    · exact trainReturn_tables false e h
  · split
    · exact h
    · split
      · exact endTag_tables _ _ (h.congr rfl rfl rfl rfl rfl)
      · split
        · unfold atLimit
          exact limitEffect_tables _ _ (postUnreserved_tables _ (h.congr rfl rfl rfl rfl rfl))
        · exact h

theorem returnTry_tables (counted : Bool) {s : State} (h : TablesLawful s) : TablesLawful (returnTry counted s) := by
  unfold returnTry
  split
  · exact returnEntry_tables counted _ (h.congr rfl rfl rfl rfl rfl)
  · exact h

theorem afterEnd_tables (e : TryEnd) {s : State} (h : TablesLawful s) : TablesLawful (afterEnd e s) := by
  cases e with
  | frameEnd ending => exact endFrame_tables ending h
  | stalled linesHigh =>
    cases linesHigh with
    | true => exact busToIdle_tables h
    | false => exact h
  | broken rise =>
    cases rise with
    | true => exact busToIdle_tables h
    | false => exact h

theorem afterOwn_tables (e : TryEnd) {s : State} (h : TablesLawful s) : TablesLawful (afterOwn e s) := by
  unfold afterOwn
  split
  · exact busToIdle_tables h
  · exact afterEnd_tables e h

theorem acceptTry_tables (o : OwnFrame) (ending : TryEnd) {s : State} (h : TablesLawful s) :
    TablesLawful (acceptTry o ending s) := by
  unfold acceptTry acceptTrain acceptSingle
  simp only
  split
  · split
    · split
      · exact afterOwn_tables ending (h.congr rfl rfl rfl rfl rfl)
      · split
        · exact h.congr rfl rfl rfl rfl rfl
        · exact afterOwn_tables ending (h.congr rfl rfl rfl rfl rfl)
    · split <;> exact afterOwn_tables ending (h.congr rfl rfl rfl rfl rfl)
  · exact afterOwn_tables ending (h.congr rfl rfl rfl rfl rfl)

theorem reportUnheard_tables {s : State} (h : TablesLawful s) : TablesLawful (reportUnheard s) := by
  unfold reportUnheard
  split
  · exact sideline_tables .unheardRun h
  · exact h

theorem reportClash_tables {s : State} (h : TablesLawful s) : TablesLawful (reportClash s) := by
  unfold reportClash
  split
  · exact halt_tables .clashRun h
  · exact h

theorem trySlots_tables (o : OwnFrame) (vetoLow heardLow : Bool) (ending : TryEnd) {s : State} (h : TablesLawful s) :
    TablesLawful (trySlots o vetoLow heardLow ending s) := by
  unfold trySlots
  refine reportUnheard_tables ?_
  split
  · exact acceptTry_tables o ending (h.congr rfl rfl rfl rfl rfl)
  · exact afterOwn_tables ending (returnTry_tables true (h.congr rfl rfl rfl rfl rfl))

theorem tryClashed_tables (e : FrameEnd) {s : State} (h : TablesLawful s) : TablesLawful (tryClashed e s) := by
  unfold tryClashed
  exact reportClash_tables (endFrame_tables e (returnTry_tables true (h.congr rfl rfl rfl rfl rfl)))

theorem tryCut_tables (o : OwnFrame) (vetoLow : Option Bool) (ending : TryEnd) {s : State} (h : TablesLawful s) :
    TablesLawful (tryCut o vetoLow ending s) := by
  unfold tryCut
  split
  · exact acceptTry_tables o ending (h.congr rfl rfl rfl rfl rfl)
  · exact afterEnd_tables ending (returnTry_tables true h)

theorem tryLost_tables (o : OwnFrame) (ending : TryEnd) {s : State} (h : TablesLawful s) :
    TablesLawful (tryLost o ending s) := by
  have hr : TablesLawful
      (returnTry (o.kind == .trainClaim || o.kind == .trainTail) { s with link.chain := false }) :=
    returnTry_tables _ (h.congr rfl rfl rfl rfl rfl)
  cases ending with
  | frameEnd _ => exact hr
  | stalled linesHigh => exact afterEnd_tables (.stalled linesHigh) hr
  | broken rise => exact afterEnd_tables (.broken rise) hr

theorem tryOutcome_tables (sampled : List Bool) (ending : TryEnd) {s : State} (h : TablesLawful s) :
    TablesLawful (tryOutcome sampled ending s) := by
  unfold tryOutcome endTry
  split
  · split
    · exact tryLost_tables _ _ h
    · exact tryClashed_tables _ h
    · exact tryCut_tables _ none _ h
    · exact tryCut_tables _ none _ h
    · exact h
    · exact tryCut_tables _ _ _ h
    · exact tryCut_tables _ _ _ h
    · exact trySlots_tables _ _ _ _ h
  · exact h

theorem cutFrame_tables (sampled : List Bool) (ending : TryEnd) {s : State} (h : TablesLawful s) :
    TablesLawful (cutFrame sampled ending s) := by
  unfold cutFrame
  split
  · simp only
    split
    · exact tryOutcome_tables sampled ending (h.congr rfl rfl rfl rfl rfl)
    · exact afterEnd_tables ending (h.congr rfl rfl rfl rfl rfl)
  · exact h

/-! ## Commands and the host port's bytes (chapters 9 and 10) -/

/-- A command keeps the tables in their form where its effect does, taken or not (R160). -/
theorem takeCommand_tables (c : Command) {body : List Byte → State → State}
    (hb : ∀ fs s, TablesLawful s → TablesLawful (body fs s)) {s : State} (h : TablesLawful s) :
    TablesLawful (takeCommand c body s) := by
  unfold takeCommand
  split
  · exact hb _ _ (h.congr rfl rfl rfl rfl rfl)
  · exact h

theorem takeGo_tables (fs : List Byte) (s : State) (h : TablesLawful s) : TablesLawful (takeGo fs s) := by
  unfold takeGo
  split
  · exact h
  · obtain ⟨hc, _, ht, hw, hs, hk⟩ := h
    exact moveTo_tables _ _ ⟨hc, rfl, ht, hw, hs, hk⟩

theorem takeLeave_tables (fs : List Byte) (s : State) (h : TablesLawful s) : TablesLawful (takeLeave fs s) := by
  unfold takeLeave
  split
  · exact h
  · exact moveTo_tables _ _ (queueInternal_tables _ _ (h.congr rfl rfl rfl rfl rfl))

theorem takeRestart_tables (fs : List Byte) (s : State) (_ : TablesLawful s) : TablesLawful (takeRestart fs s) := by
  unfold takeRestart
  dsimp only
  exact moveTo_tables _ _ ⟨rfl, rfl, rfl, rfl, rfl, rfl⟩

theorem takeSetup_tables (fs : List Byte) (s : State) (h : TablesLawful s) : TablesLawful (takeSetup fs s) := by
  unfold takeSetup
  (repeat' split) <;> exact h

theorem takeMask_tables (fs : List Byte) (s : State) (h : TablesLawful s) : TablesLawful (takeMask fs s) := by
  unfold takeMask
  split <;> exact h

theorem takeQuery_tables (fs : List Byte) (s : State) (h : TablesLawful s) : TablesLawful (takeQuery fs s) := by
  unfold takeQuery
  split <;> exact h

theorem takeAcquire_tables (fs : List Byte) (s : State) (h : TablesLawful s) : TablesLawful (takeAcquire fs s) := by
  unfold takeAcquire
  extract_lets t q lease claim l taken
  have ht : TablesLawful taken := setTag_tables t _ h
  split
  · exact h
  · split
    · exact h
    · split
      · exact h
      · split
        · exact endTag_tables t _ ht
        · exact ht

theorem onTag_tables (c : Command) (t : Nat) (inRange : Bool) {act : State → State}
    (ha : ∀ s, TablesLawful s → TablesLawful (act s)) {s : State} (h : TablesLawful s) :
    TablesLawful (onTag c t inRange act s) := by
  unfold onTag
  (repeat' split)
  · exact h
  · exact h
  · exact h
  · exact ha s h

theorem takeRelease_tables (fs : List Byte) (s : State) (h : TablesLawful s) : TablesLawful (takeRelease fs s) := by
  refine onTag_tables .release _ _ (fun s h => ?_) h
  split
  · exact h
  · exact setTag_tables _ _ h

theorem takeExtend_tables (fs : List Byte) (s : State) (h : TablesLawful s) : TablesLawful (takeExtend fs s) := by
  refine onTag_tables .extend _ _ (fun s h => ?_) h
  split
  · exact h
  · exact setTag_tables _ _ h

theorem takeCancel_tables (fs : List Byte) (s : State) (h : TablesLawful s) : TablesLawful (takeCancel fs s) := by
  refine onTag_tables .cancel _ _ (fun s h => ?_) h
  split
  · split
    · exact h
    · split
      · exact endTag_tables _ _ h
      · exact setTag_tables _ _ h
  · exact setTag_tables _ _ h
  · exact h

theorem expireAssembly_tables {s : State} (h : TablesLawful s) : TablesLawful (expireAssembly s) := by
  unfold expireAssembly
  split
  · exact postUnreserved_tables _ (h.congr rfl rfl rfl rfl rfl)
  · exact h

theorem latchByte_tables (b : Byte) {s : State} (h : TablesLawful s) : TablesLawful (latchByte b s) := by
  unfold latchByte
  split
  · exact postUnreserved_tables _ h
  · split
    · split
      · exact h
      · exact postUnreserved_tables _ h
    · exact h

theorem writeByte_tables (b : Byte) (selected readLow : Bool) {s : State} (h : TablesLawful s) :
    TablesLawful (writeByte b selected readLow s) := by
  unfold writeByte
  simp only
  split
  · exact latchByte_tables b (expireAssembly_tables (h.congr rfl rfl rfl rfl rfl))
  · exact h

theorem readNext_tables (r : Reading) {s : State} (h : TablesLawful s) : TablesLawful (readNext r s) := by
  unfold readNext finishReading
  simp only
  split
  · exact h
  · split <;> exact postPendingWarns_tables (h.congr rfl rfl rfl rfl rfl)

theorem readByte_tables (selected writeLow : Bool) {s : State} (h : TablesLawful s) :
    TablesLawful (readByte selected writeLow s) := by
  unfold readByte consumeByte
  simp only
  split
  · split
    · exact readNext_tables _ (h.congr rfl rfl rfl rfl rfl)
    · split
      · exact readNext_tables _ (h.congr rfl rfl rfl rfl rfl)
      · exact h
  · exact h

/-! ## The applications (chapters 3 and 6) -/

theorem toAskTag_tables (e : RxEntry) {act : Nat → State → State} (ha : ∀ t s, TablesLawful s → TablesLawful (act t s))
    {s : State} (h : TablesLawful s) : TablesLawful (toAskTag e act s) := by
  unfold toAskTag
  split
  · split
    · exact ha _ s h
    · exact h
  · exact h

theorem tagAskGranted_tables (serial t : Nat) (s : State) (h : TablesLawful s) :
    TablesLawful (tagAskGranted serial t s) := by
  have h1 : TablesLawful (tagGranted t serial s) := (setTag_tables t _ h).congr rfl rfl rfl rfl rfl
  unfold tagAskGranted
  simp only
  split
  · exact postUnreserved_tables _ (setTag_tables t _ h1)
  · exact h1

theorem tagAskQueued_tables (claim position t : Nat) (s : State) (h : TablesLawful s) :
    TablesLawful (tagAskQueued claim position t s) := by
  have h1 := postUnreserved_tables (.queued t position)
    (setTag_tables t { tagAt s t with phase := some .waiting } h)
  unfold tagAskQueued
  simp only
  split
  · exact (setTag_tables t _ h1).congr rfl rfl rfl rfl rfl
  · exact h1

theorem askBody_tables (e : RxEntry) (s : State) (h : TablesLawful s) : TablesLawful (askBody e s) := by
  unfold askBody
  split
  · split
    · unfold askEffect
      split
      · exact toAskTag_tables e (fun t s => endTag_tables t _) h
      · exact toAskTag_tables e (fun t s => endTag_tables t _) h
      · exact toAskTag_tables e (fun t s => endTag_tables t _) h
      · exact toAskTag_tables e (fun t s => endTag_tables t _) h
      · exact toAskTag_tables e (tagAskGranted_tables _) (grant_tables _ _ h)
      · exact toAskTag_tables e (tagAskQueued_tables _ _) (setClaim_tables _ _ h)
    · exact h
  · exact h

theorem endTagFor_tables (c : Nat) (ps : List Phase) (n : Nat → Notice) {s : State} (h : TablesLawful s) :
    TablesLawful (endTagFor c ps n s) := by
  unfold endTagFor
  split
  · exact endTag_tables _ _ h
  · exact h

theorem removeAndPromote_tables (c d : Nat) {s : State} (h : TablesLawful s) :
    TablesLawful (removeAndPromote c d s) := promote_tables c (removeHold_tables c d h)

theorem yieldBody_tables (e : RxEntry) (s : State) (h : TablesLawful s) : TablesLawful (yieldBody e s) := by
  unfold yieldBody
  split
  · split
    · simp only
      split
      · exact endTagFor_tables _ _ _ (removeAndPromote_tables _ _ h)
      · exact removeAndPromote_tables _ _ h
    · exact h
  · exact h

theorem lapseBody_tables (e : RxEntry) (s : State) (h : TablesLawful s) : TablesLawful (lapseBody e s) := by
  unfold lapseBody
  split
  · split
    · simp only
      split
      · exact endTagFor_tables _ _ _ (removeAndPromote_tables _ _ h)
      · exact removeAndPromote_tables _ _ h
    · exact h
  · exact h

theorem tagExtended_tables (c l serial : Nat) {s : State} (h : TablesLawful s) :
    TablesLawful (tagExtended c l serial s) := by
  unfold tagExtended
  split
  · exact postUnreserved_tables _ (setTag_tables _ _ h)
  · exact h

theorem extendBody_tables (e : RxEntry) (s : State) (h : TablesLawful s) : TablesLawful (extendBody e s) := by
  unfold extendBody staleExtend
  split
  · split
    · split
      · simp only
        split
        · exact tagExtended_tables _ _ _ (extendHold_tables _ _ _ h)
        · exact extendHold_tables _ _ _ h
      · split
        · exact clearExtend_tables _ h
        · exact h
    · exact h
  · exact h

theorem leaveQueue_tables (c d : Nat) {s : State} (h : TablesLawful s) : TablesLawful (leaveQueue c d s) := by
  have hr : TablesLawful (removeWaiter c d s) := setClaim_tables c _ h
  unfold leaveQueue
  split
  · exact promote_tables c hr
  · exact hr

theorem cancelBody_tables (e : RxEntry) (s : State) (h : TablesLawful s) : TablesLawful (cancelBody e s) := by
  unfold cancelBody staleCancel
  split
  · split
    · split
      · simp only
        split
        · exact endTagFor_tables _ _ _ (leaveQueue_tables _ _ h)
        · exact leaveQueue_tables _ _ h
      · split
        · exact tooLateIfHeld_tables _ h
        · exact h
    · exact h
  · exact h

theorem unlist_tables (d : Nat) {s : State} (h : TablesLawful s) : TablesLawful (unlist d s) :=
  setSilence_tables d none (setRoster_tables d .absent h)

theorem listFresh_tables (d : Nat) (r : RosterEntry) {s : State} (h : TablesLawful s) :
    TablesLawful (listFresh d r s) := setSilence_tables d _ (setRoster_tables d r h)

theorem dropBody_tables (e : RxEntry) (s : State) (h : TablesLawful s) : TablesLawful (dropBody e s) := by
  unfold dropBody
  split
  · split
    · exact h
    · split
      · unfold dropShared droppedSelf
        simp only
        have hu := fun d => unlist_tables d (purge_tables d h)
        split
        · exact h
        · split
          · split
            · exact departureEnds_tables (hu _)
            · exact enterAfresh_tables .evicted (endTags_tables .dropped (hu _))
          · exact hu _
      · unfold dropLearned
        extract_lets s1
        have h1 : TablesLawful s1 := by
          simp only [s1]; split
          · exact h
          · exact unlist_tables _ h
        split
        · exact nextAttempt_tables .dropped h1
        · exact h1
  · exact h

theorem found_tables {s : State} (h : TablesLawful s) : TablesLawful (found s) := by
  unfold found
  exact moveTo_tables _ _ ((clearTable_tables h).congr rfl rfl rfl rfl rfl)

theorem joinWait_tables {s : State} (h : TablesLawful s) : TablesLawful (joinWait s) := by
  unfold joinWait
  exact moveTo_tables _ _ (h.congr rfl rfl rfl rfl rfl)

theorem enterBody_tables (e : RxEntry) (s : State) (h : TablesLawful s) : TablesLawful (enterBody e s) := by
  unfold enterBody
  split
  · unfold enterShared
    refine listFresh_tables _ _ ?_
    split
    · exact h
    · exact unlist_tables _ (purge_tables _ h)
  · unfold enterLearned
    extract_lets s1 founds s2
    have h1 : TablesLawful s1 := by
      simp only [s1]; split
      · exact h
      · exact unlist_tables _ h
    have h2 : TablesLawful s2 := listFresh_tables _ _ h1
    split
    · split
      · exact found_tables h2
      · exact joinWait_tables h2
    · exact h2

theorem learnRoll_tables (d : Nat) (joining : Bool) {s : State} (h : TablesLawful s) :
    TablesLawful (learnRoll d joining s) := by
  unfold learnRoll
  split
  · exact listFresh_tables d _ h
  · exact listFresh_tables d _ h
  · exact setRoster_tables d _ h
  · exact h

theorem rollBody_tables (e : RxEntry) (s : State) (h : TablesLawful s) : TablesLawful (rollBody e s) := by
  unfold rollBody compareRoll
  split
  · split
    · exact h
    · split
      · exact learnRoll_tables _ _ h
      · split
        · split
          · unfold diverge
            dsimp only
            exact learnRoll_tables _ false (enterAfresh_tables .diverged
              (endTags_tables .diverged ((clearRoster_tables (clearTable_tables h)).congr rfl rfl rfl rfl rfl)))
          · split <;> exact h
        · exact h
  · exact h

/-- A table built from the numbers in rising order is in its form where no value is the default. -/
theorem Table.wf_filterMap {α : Type} [DecidableEq α] (d : α) (g : Nat → Option (Nat × α))
    (hg : ∀ n p, g n = some p → p.1 = n ∧ p.2 ≠ d) : ∀ (l : List Nat), l.Pairwise (· < ·) →
    Table.wf d (l.filterMap g) = true
  | [], _ => rfl
  | n :: l, h => by
    obtain ⟨hn, hl⟩ := List.pairwise_cons.mp h
    have ih := Table.wf_filterMap d g hg l hl
    cases hgn : g n with
    | none => rwa [List.filterMap_cons_none hgn]
    | some p =>
      rw [List.filterMap_cons_some hgn]
      obtain ⟨hp, hv⟩ := hg n p hgn
      refine (Table.wf_cons d p.1 p.2 _).mpr ⟨hv, fun q hq => ?_, ih⟩
      obtain ⟨m, hm, hgm⟩ := List.mem_filterMap.mp hq
      rw [hp, (hg m q hgm).1]
      exact hn m hm

/-- The roster of a TRAIN-HEAD's masks lists the stations in rising order (R114). -/
theorem rosterOf_wf (members joining : BitVec 32) : Table.wf RosterEntry.absent (rosterOf members joining) = true := by
  refine Table.wf_filterMap _ _ (fun n p hp => ?_) _ List.pairwise_lt_range
  split at hp
  · obtain rfl := Option.some.inj hp
    exact ⟨rfl, by simp⟩
  · split at hp
    · obtain rfl := Option.some.inj hp
      exact ⟨rfl, by simp⟩
    · cases hp

/-- The silence counters follow the order of the roster (R114). -/
theorem silenceOf_wf (self : Nat) : ∀ (roster : Table RosterEntry), Table.wf RosterEntry.absent roster = true →
    Table.wf none (silenceOf self roster) = true
  | [], _ => rfl
  | (d, e) :: t, h => by
    obtain ⟨_, hlt, hwf⟩ := (Table.wf_cons _ d e t).mp h
    have ih := silenceOf_wf self t hwf
    unfold silenceOf at ih ⊢
    rw [List.filter_cons]
    split
    · refine (Table.wf_cons none d (some 0) _).mpr ⟨by simp, fun p hp => ?_, ih⟩
      obtain ⟨q, hq, rfl⟩ := List.mem_map.mp hp
      exact hlt q (List.mem_of_mem_filter hq)
    · exact ih

theorem loadHead_tables (hd : HeadFields) {s : State} (h : TablesLawful s) : TablesLawful (loadHead hd s) := by
  obtain ⟨hc, _, ht, hw, _, hk⟩ := clearTable_tables h
  exact ⟨hc, rosterOf_wf _ _, ht, hw, silenceOf_wf _ _ (rosterOf_wf _ _), hk⟩

theorem trainHeadBody_tables (e : RxEntry) (s : State) (h : TablesLawful s) : TablesLawful (trainHeadBody e s) := by
  unfold trainHeadBody
  split
  · simp only
    split
    · exact loadHead_tables _ (h.congr rfl rfl rfl rfl rfl)
    · split
      · exact discardCopy_tables (h.congr rfl rfl rfl rfl rfl)
      · exact h.congr rfl rfl rfl rfl rfl
  · exact h

theorem loadHold_tables (c : Nat) (s : State) (x : HoldSlot × Nat) (h : TablesLawful s) :
    TablesLawful (loadHold c s x) := by
  have h1 : TablesLawful { s with train.carried := Table.set 0 s.train.carried (watchKey c x.1.station) x.2 } := by
    obtain ⟨hc, hr, ht, hw, hs, hk⟩ := h
    exact ⟨hc, hr, ht, hw, hs, Table.wf_set _ _ _ _ hk⟩
  unfold loadHold
  simp only
  split
  · exact startWatchAt_tables _ _ _ _ _ h1
  · exact h1

theorem trainClaimBody_tables (e : RxEntry) (s : State) (h : TablesLawful s) : TablesLawful (trainClaimBody e s) := by
  unfold trainClaimBody
  split
  · simp only
    split
    · unfold loadClaim
      exact foldl_preserves (P := TablesLawful) (loadHold_tables _) _ (setClaim_tables _ _ (h.congr rfl rfl rfl rfl rfl))
    · exact h
  · exact h

theorem commitStation_tables (joining : BitVec 32) (s : State) (d : Nat) (h : TablesLawful s) :
    TablesLawful (commitStation joining s d) := by
  unfold commitStation
  split
  · exact setRoster_tables d .member h
  · exact h

theorem loaderReady_tables {s : State} (h : TablesLawful s) : TablesLawful (loaderReady s) := by
  obtain ⟨hc, hr, ht, hw, hs, _⟩ := h
  exact ⟨hc, hr, ht, hw, hs, rfl⟩

theorem startLoadedOn_tables (s : State) (c : Nat) (h : TablesLawful s) : TablesLawful (startLoadedOn s c) := by
  unfold startLoadedOn startLoaded
  exact foldl_preserves (P := TablesLawful) (fun _ _ hs => startWatchAt_tables _ _ _ _ _ hs) _ h

theorem reconcileTag_tables (s : State) (t : Nat) (h : TablesLawful s) : TablesLawful (reconcileTag s t) := by
  unfold reconcileTag
  extract_lets stays
  split
  · exact h
  · exact endTagIfUsed_tables .copy s t h

theorem loaderCommit_tables {s : State} (h : TablesLawful s) : TablesLawful (loaderCommit s) := by
  unfold loaderCommit
  split
  · unfold joinCommit
    exact moveTo_tables _ _ (loaderReady_tables (foldl_preserves (P := TablesLawful) startLoadedOn_tables _ h))
  · unfold founderCommit
    exact moveTo_tables _ _
      (foldl_preserves (P := TablesLawful) reconcileTag_tables _ ((loaderReady_tables h).congr rfl rfl rfl rfl rfl))
  all_goals exact h

theorem trainTailBody_tables (e : RxEntry) (s : State) (h : TablesLawful s) : TablesLawful (trainTailBody e s) := by
  unfold trainTailBody
  split
  · rename_i r _
    have h1 : TablesLawful (commitRoster r.joining { s with apply.record := none }) := by
      unfold commitRoster
      exact foldl_preserves (P := TablesLawful) (commitStation_tables r.joining) _ (h.congr rfl rfl rfl rfl rfl)
    have h2 : TablesLawful (if e.own then sourceCommit (commitRoster r.joining { s with apply.record := none })
        else commitRoster r.joining { s with apply.record := none }) := by
      split
      · exact h1.congr rfl rfl rfl rfl rfl
      · exact h1
    simp only
    split
    · exact loaderCommit_tables h2
    · exact h2
  · exact h

/-- The application of the oldest frame keeps the tables in their form where its rule does (R41). -/
theorem applyFront_tables {k : FrameKind} {body : RxEntry → State → State}
    (hb : ∀ e t, TablesLawful t → TablesLawful (body e t)) {s : State} (h : TablesLawful s) :
    TablesLawful (applyFront k body s) := by
  have hbefore : ∀ e, TablesLawful (beforeApply e s) := fun e => by
    unfold beforeApply
    split
    · exact h
    · exact (settleRun_tables h).congr rfl rfl rfl rfl rfl
  have hcommon : ∀ e t, TablesLawful t → TablesLawful (commonSteps e t) := fun e t ht => by
    unfold commonSteps
    extract_lets t1
    have h1 : TablesLawful t1 := by
      simp only [t1]; split
      · exact ht
      · exact setSilence_tables _ _ ht
    split <;> exact h1.congr rfl rfl rfl rfl rfl
  unfold applyFront applyEntry
  split
  · exact h
  · split
    · split
      · exact hbefore _
      · exact hb _ _ (hcommon _ _ ((hbefore _).congr rfl rfl rfl rfl rfl))
    · exact h

/-! ## Every step -/

/-- A step's next state meets a law where the step's meaning keeps it; with RESETn low nothing acts (R88). -/
theorem next_keeps {P : State → Prop} {f : State → State} {s t : State} (hs : P s) (hf : P (f s))
    (h : (.next (powered f s) : Host.Outcome State Fault Refusal) = .next t) : P t := by
  obtain rfl := Host.Outcome.next.inj h
  unfold powered
  split
  · exact hs
  · exact hf

theorem exec_keeps_tablesLawful (i : Instr) (s t : State) (hs : TablesLawful s) (h : exec i s = .next t) :
    TablesLawful t := by
  cases i with
  | hardReset =>
    obtain rfl := Host.Outcome.next.inj h
    exact ⟨rfl, rfl, rfl, rfl, rfl, rfl⟩
  | resetRelease straps =>
    obtain rfl := Host.Outcome.next.inj h
    unfold resetRelease
    split
    · exact ⟨rfl, rfl, rfl, rfl, rfl, rfl⟩
    · exact hs
  | commandByteWrite b selected readLow => exact next_keeps hs (writeByte_tables b selected readLow hs) h
  | assemblyAgeExpiry => exact next_keeps hs (expireAssembly_tables hs) h
  | noticeByteRead selected writeLow => exact next_keeps hs (readByte_tables selected writeLow hs) h
  | setup => exact next_keeps hs (takeCommand_tables .setup takeSetup_tables hs) h
  | go => exact next_keeps hs (takeCommand_tables .go takeGo_tables hs) h
  | leave => exact next_keeps hs (takeCommand_tables .leave takeLeave_tables hs) h
  | restart => exact next_keeps hs (takeCommand_tables .restart takeRestart_tables hs) h
  | status => exact next_keeps hs (takeCommand_tables .status (body := takeStatus) (fun _ _ h => h) hs) h
  | mask => exact next_keeps hs (takeCommand_tables .mask takeMask_tables hs) h
  | query => exact next_keeps hs (takeCommand_tables .query takeQuery_tables hs) h
  | survey => exact next_keeps hs (takeCommand_tables .survey (body := takeSurvey) (fun _ _ h => h) hs) h
  | acquire => exact next_keeps hs (takeCommand_tables .acquire takeAcquire_tables hs) h
  | release => exact next_keeps hs (takeCommand_tables .release takeRelease_tables hs) h
  | extend => exact next_keeps hs (takeCommand_tables .extend takeExtend_tables hs) h
  | cancel => exact next_keeps hs (takeCommand_tables .cancel takeCancel_tables hs) h
  | tick => exact next_keeps hs (tick_tables hs) h
  | leaseWatchExpiry =>
    refine next_keeps hs ?_ h
    unfold leaseWatchExpiry
    split
    · exact fillOwed_tables hs
    · exact hs
  | rollDue =>
    refine next_keeps hs ?_ h
    unfold rollDue
    split
    · exact fillOwed_tables hs
    · exact hs
  | silenceExpiry =>
    refine next_keeps hs ?_ h
    unfold silenceExpiry
    split
    · exact fillOwed_tables hs
    · exact hs
  | listenTimerExpiry => exact next_keeps hs (listenTimerExpiry_tables hs) h
  | copyWaitExpiry =>
    refine next_keeps hs ?_ h
    unfold copyWaitExpiry
    split
    · exact copyWaitExpires_tables hs
    · exact hs
  | restTimerExpiry => exact next_keeps hs (restTimerExpiry_tables hs) h
  | owedFrameQueue => exact next_keeps hs (fillOwed_tables hs) h
  | warnPost => exact next_keeps hs (postPendingWarns_tables hs) h
  | frameOpen elapsed pull =>
    exact next_keeps (f := frameOpen elapsed pull) hs
      (openFrame_tables pull (settleRun_tables (countIdle_tables (elapsed * cyclesPerBit s) hs))) h
  | frameReceive sampled otherVeto ending => exact next_keeps hs (receiveFrame_tables sampled otherVeto ending hs) h
  | tryOutcome lines => exact next_keeps hs (tryOutcome_tables lines.bits lines.ending hs) h
  | stall lines => exact next_keeps hs (cutFrame_tables lines.bits (.stalled lines.ending) hs) h
  | frameBreak lines => exact next_keeps hs (cutFrame_tables lines.bits (.broken lines.ending) hs) h
  | lineStuck =>
    refine next_keeps hs ?_ h
    unfold lineStuck
    split
    · exact sideline_tables .lineStuck hs
    · exact hs
  | trainRunEnd => exact next_keeps hs (settleRun_tables hs) h
  | applyAsk => exact next_keeps hs (applyFront_tables askBody_tables hs) h
  | applyYield => exact next_keeps hs (applyFront_tables yieldBody_tables hs) h
  | applyExtend => exact next_keeps hs (applyFront_tables extendBody_tables hs) h
  | applyLapse => exact next_keeps hs (applyFront_tables lapseBody_tables hs) h
  | applyCancel => exact next_keeps hs (applyFront_tables cancelBody_tables hs) h
  | applyDrop => exact next_keeps hs (applyFront_tables dropBody_tables hs) h
  | applyEnter => exact next_keeps hs (applyFront_tables enterBody_tables hs) h
  | applyRoll => exact next_keeps hs (applyFront_tables rollBody_tables hs) h
  | applyTrainHead => exact next_keeps hs (applyFront_tables trainHeadBody_tables hs) h
  | applyTrainClaim => exact next_keeps hs (applyFront_tables trainClaimBody_tables hs) h
  | applyTrainTail => exact next_keeps hs (applyFront_tables trainTailBody_tables hs) h
  | busIdleReturn =>
    refine next_keeps hs ?_ h
    unfold busIdleReturn
    split
    · exact busToIdle_tables hs
    · exact hs
  | lineFallWithoutOpen =>
    refine next_keeps hs ?_ h
    unfold lineFallWithoutOpen
    split <;> exact hs

/-- Settles O52: the front command keeps every table in its form, and so does the REFCLK cycle of an empty queue. -/
theorem stepKeepsTables : Obligations.StepKeepsTables := by
  intro s t hs h
  unfold step at h
  split at h
  · rename_i i rest _
    exact exec_keeps_tablesLawful i { s with pending := rest } t hs h
  · exact next_keeps hs (clockCycle_tables hs) h

end Sys2Proof.Machine
end

/-! # The places of the queues of frames (R39, R40, R123, R124)

Most operations take frames out of the queues or leave them alone. What puts a frame in is named once, in `QueueLaw`:
a law that allows for it is kept by every step. -/

section
namespace Sys2Proof.Machine

open Sys2Proof (Byte BusFrame FrameEnd TryEnd Instr)

/-! ## Holding less -/

/-- What of an entry stays while its try goes on: the frame and the tag it is bound to. -/
def TxEntry.identity (e : TxEntry) : TxFrame × Option Nat := (e.frame, e.binding)

/-- `t` holds no frame that `s` does not hold, and sends nothing that `s` does not send. -/
structure HoldsLess (s t : State) : Prop where
  entries : (t.tx.entries.map TxEntry.identity).Sublist (s.tx.entries.map TxEntry.identity)
  rx : t.apply.rx.Sublist s.apply.rx
  sending : t.link.sending = s.link.sending ∨ t.link.sending = none

theorem HoldsLess.of_eq {s t : State} (ht : t.tx.entries = s.tx.entries) (ha : t.apply.rx = s.apply.rx)
    (hl : t.link.sending = s.link.sending) : HoldsLess s t :=
  ⟨by rw [ht], by rw [ha], .inl hl⟩

theorem HoldsLess.refl (s : State) : HoldsLess s s := .of_eq rfl rfl rfl

theorem HoldsLess.trans {s t u : State} (h1 : HoldsLess s t) (h2 : HoldsLess t u) : HoldsLess s u where
  entries := h2.entries.trans h1.entries
  rx := h2.rx.trans h1.rx
  sending := by
    rcases h2.sending with h | h
    · rw [h]; exact h1.sending
    · exact .inr h

/-- With both frame queues empty and nothing sent there is nothing left to hold. -/
theorem HoldsLess.of_empty {s t : State} (ht : t.tx.entries = []) (ha : t.apply.rx = [])
    (hl : t.link.sending = none) : HoldsLess s t :=
  ⟨by simp [ht], by simp [ha], .inr hl⟩

/-- Only the entries of the transmit queue have become fewer. -/
theorem HoldsLess.of_entries {s t : State}
    (he : (t.tx.entries.map TxEntry.identity).Sublist (s.tx.entries.map TxEntry.identity))
    (ha : t.apply.rx = s.apply.rx) (hl : t.link.sending = s.link.sending) : HoldsLess s t :=
  ⟨he, by rw [ha], .inl hl⟩

theorem HoldsLess.ite {p : Prop} [Decidable p] {s t u : State} (ht : HoldsLess s t) (hu : HoldsLess s u) :
    HoldsLess s (if p then t else u) := by
  split
  · exact ht
  · exact hu

/-- A fold of operations that hold less holds less. -/
theorem foldl_holdsLess {α : Type} {f : State → α → State} (hf : ∀ s a, HoldsLess s (f s a)) (l : List α) (s : State) :
    HoldsLess s (l.foldl f s) :=
  foldl_preserves (P := HoldsLess s) (fun t a h => h.trans (hf t a)) l (.refl s)

/-- A change of entries that leaves frames and bindings alone. -/
theorem map_identity {f : TxEntry → TxEntry} (hf : ∀ e, (f e).identity = e.identity) (es : List TxEntry) :
    (es.map f).map TxEntry.identity = es.map TxEntry.identity := by
  simp [Function.comp_def, hf]

theorem map_identity_filter (p : TxEntry → Bool) (es : List TxEntry) :
    ((es.filter p).map TxEntry.identity).Sublist (es.map TxEntry.identity) :=
  List.filter_sublist.map _

theorem withdrawBound_holdsLess (n : Nat) (s : State) : HoldsLess s (withdrawBound n s) := by
  refine .of_entries ?_ rfl rfl
  have hd : ∀ e : TxEntry, (if e.binding = some n then { e with dead := true } else e).identity = e.identity :=
    fun e => by split <;> rfl
  show (List.map TxEntry.identity (List.map _ _)).Sublist _
  rw [map_identity hd]
  exact map_identity_filter _ _

theorem withdrawReady_holdsLess (p : TxFrame → Bool) (s : State) : HoldsLess s (withdrawReady p s) :=
  .of_entries (map_identity_filter _ _) rfl rfl

theorem endTag_holdsLess (n : Nat) (m : Notice) (s : State) : HoldsLess s (endTag n m s) :=
  (withdrawBound_holdsLess n s).trans (.of_eq (by simp [endTag]) (by simp) (by simp))

theorem endTagIfUsed_holdsLess (cause : TagCause) (s : State) (n : Nat) : HoldsLess s (endTagIfUsed cause s n) :=
  .ite (endTag_holdsLess n _ s) (.refl s)

theorem endTags_holdsLess (cause : TagCause) (s : State) : HoldsLess s (endTags cause s) :=
  foldl_holdsLess (endTagIfUsed_holdsLess cause) _ s

theorem endIfUsed_holdsLess (n : Nat) (m : Notice) (s : State) : HoldsLess s (endIfUsed n m s) :=
  .ite (endTag_holdsLess n m s) (.refl s)

theorem endTagFor_holdsLess (c : Nat) (ps : List Phase) (m : Nat → Notice) (s : State) :
    HoldsLess s (endTagFor c ps m s) := by
  unfold endTagFor
  split
  · exact endTag_holdsLess _ _ s
  · exact .refl s

theorem postUnreserved_holdsLess (m : Notice) (s : State) : HoldsLess s (postUnreserved m s) :=
  .of_eq (by simp) (by simp) (by simp)

theorem moveTo_holdsLess (st : StationState) (cause : StateCause) (s : State) : HoldsLess s (moveTo st cause s) :=
  .of_eq (by simp) (by simp) (by simp)

theorem tooLateIfHeld_holdsLess (n : Nat) (s : State) : HoldsLess s (tooLateIfHeld n s) :=
  .ite (postUnreserved_holdsLess _ s) (.refl s)

theorem postPendingWarns_holdsLess (s : State) : HoldsLess s (postPendingWarns s) :=
  .of_eq (by simp) (by simp) (by simp)

theorem setSilence_holdsLess (d : Nat) (v : Option Nat) (s : State) : HoldsLess s (setSilence d v s) :=
  .of_eq (by simp) (by simp) (by simp)

theorem unlist_holdsLess (d : Nat) (s : State) : HoldsLess s (unlist d s) :=
  .of_eq (by simp [unlist]) (by simp [unlist]) (by simp [unlist])

theorem listFresh_holdsLess (d : Nat) (r : RosterEntry) (s : State) : HoldsLess s (listFresh d r s) :=
  .of_eq (by simp [listFresh]) (by simp [listFresh]) (by simp [listFresh])

theorem removeHold_holdsLess (c h : Nat) (s : State) : HoldsLess s (removeHold c h s) := by
  unfold removeHold withdrawLapse
  have h1 : HoldsLess s (removeWatch c h
      (setClaim c { claimAt s c with holders := (claimAt s c).holders.filter (fun x => x.station != h) } s)) :=
    .of_eq (by simp) (by simp) (by simp)
  exact h1.trans (withdrawReady_holdsLess _ _)

theorem promote_holdsLess (c : Nat) (s : State) : HoldsLess s (promote c s) :=
  .of_eq (by simp) (by simp) (by simp)

theorem purgeClaim_holdsLess (d : Nat) (s : State) (c : Nat) : HoldsLess s (purgeClaim d s c) := by
  unfold purgeClaim
  extract_lets wasHead held s1 s2
  have h1 : HoldsLess s s1 := .ite (.of_eq rfl rfl rfl) (.refl s)
  have h2 : HoldsLess s s2 := h1.trans (.ite (removeHold_holdsLess c d s1) (.refl s1))
  exact h2.trans (.ite (promote_holdsLess c s2) (.refl s2))

theorem purge_holdsLess (d : Nat) (s : State) : HoldsLess s (purge d s) := foldl_holdsLess (purgeClaim_holdsLess d) _ s

theorem extendHold_holdsLess (c h l : Nat) (s : State) : HoldsLess s (extendHold c h l s) := by
  unfold extendHold withdrawLapse
  extract_lets s1 s2
  have h0 : HoldsLess s (setClaim c ((claimAt s c).extend h l) s) := .of_eq rfl rfl rfl
  have h1 : HoldsLess s s1 := h0.trans (withdrawReady_holdsLess _ _)
  have h2 : HoldsLess s1 s2 := .ite (.of_eq (by simp) (by simp) (by simp)) (.refl s1)
  exact (h1.trans h2).trans (.of_eq (by simp) (by simp) (by simp))

theorem clearTable_holdsLess (s : State) : HoldsLess s (clearTable s) :=
  (withdrawReady_holdsLess (fun f => f.kind == .lapse) s).trans (.of_eq rfl rfl rfl)

/-! ## The station controller (chapter 5) -/

@[simp] theorem leaveBus_link (s : State) :
    (leaveBus s).link = ⟨.notReceiving, 0, none, false, none, false, false, 0, 0, 0⟩ := rfl

theorem sideline_holdsLess (cause : StateCause) (s : State) : HoldsLess s (sideline cause s) :=
  .of_empty (by simp [sideline]) (by simp [sideline]) (by simp [sideline])

theorem halt_holdsLess (cause : StateCause) (s : State) : HoldsLess s (halt cause s) :=
  .of_empty (by simp [halt]) (by simp [halt]) (by simp [halt])

theorem departureEnds_holdsLess (s : State) : HoldsLess s (departureEnds s) :=
  .of_empty (by simp [departureEnds]) (by simp [departureEnds]) (by simp [departureEnds])

theorem forgetIfSilent_holdsLess (s : State) (d : Nat) : HoldsLess s (forgetIfSilent s d) :=
  .ite (unlist_holdsLess d s) (.refl s)

/-! ## The end of a run (R68, R120, R121) -/

/-- The entry ON_BUS stands READY again under the same frame and binding. -/
theorem readyAgain_holdsLess (counted : Bool) (s : State) : HoldsLess s (readyAgain counted s) := by
  refine .of_entries ?_ rfl rfl
  have hr : ∀ e : TxEntry, (if e.onBus then { e with onBus := false, retries := retriesAfter counted e }
      else e).identity = e.identity := fun e => by split <;> rfl
  show (List.map TxEntry.identity (List.map _ _)).Sublist _
  rw [map_identity hr]

theorem withoutOnBus_holdsLess (s : State) : HoldsLess s (setEntries (withoutOnBus s) s) :=
  .of_entries (map_identity_filter _ _) rfl rfl

theorem trainReturn_holdsLess (counted : Bool) (e : TxEntry) (s : State) : HoldsLess s (trainReturn counted e s) := by
  have h1 : HoldsLess s { s with train.composer := none, train.failed := false } := .of_eq rfl rfl rfl
  exact h1.trans (.ite (withoutOnBus_holdsLess _) (.ite (sideline_holdsLess _ _) (readyAgain_holdsLess _ _)))

theorem busToIdle_holdsLess (s : State) : HoldsLess s (busToIdle s) := by
  have h1 : HoldsLess s (idleBus s) := .of_eq rfl rfl rfl
  unfold busToIdle returnHead
  refine h1.trans ?_
  split
  · exact .ite (trainReturn_holdsLess _ _ _) (.refl _)
  · exact .refl _

/-! ## Time (chapter 4) -/

theorem latchIfWarned_holdsLess (before s : State) (c : Nat) : HoldsLess s (latchIfWarned before s c) := by
  unfold latchIfWarned
  (repeat' split) <;> exact .of_eq rfl rfl rfl

theorem tickLeases_holdsLess (s : State) : HoldsLess s (tickLeases s) := by
  have h1 : HoldsLess s { s with watch.watches := Table.map none (tickWatch s) s.watch.watches } := .of_eq rfl rfl rfl
  exact (h1.trans (foldl_holdsLess (latchIfWarned_holdsLess s) _ _)).trans (postPendingWarns_holdsLess _)

theorem tick_holdsLess (s : State) : HoldsLess s (tick s) := by
  have h1 : HoldsLess s (tickTimers { s with watch.tickCount := 0 }) := .of_eq rfl rfl rfl
  have h2 : HoldsLess (tickTimers { s with watch.tickCount := 0 })
      (tickSilence (tickTimers { s with watch.tickCount := 0 })) := .of_eq rfl rfl rfl
  exact .ite h1 ((h1.trans h2).trans (tickLeases_holdsLess _))

theorem countIdle_holdsLess (cycles : Nat) (s : State) : HoldsLess s (countIdle cycles s) :=
  .ite (.of_eq rfl rfl rfl) (.refl s)

theorem clockCycle_holdsLess (s : State) : HoldsLess s (clockCycle s) := by
  have h1 := countIdle_holdsLess 1 s
  unfold clockCycle
  generalize countIdle 1 s = u at h1 ⊢
  exact .ite (h1.trans (tick_holdsLess u)) (h1.trans (.of_eq rfl rfl rfl))

theorem restTimerExpiry_holdsLess (s : State) : HoldsLess s (restTimerExpiry s) := by
  unfold restTimerExpiry
  split
  · exact .of_eq (by simp) (by simp) (by simp)
  · exact .refl s

/-! ## The end of a frame and of a try (chapters 7 and 8) -/

theorem endFrame_holdsLess (e : FrameEnd) (s : State) : HoldsLess s (endFrame e s) := by
  cases e with
  | close => exact busToIdle_holdsLess s
  | relink => exact .of_eq rfl rfl rfl
  | noEnd => exact .of_eq rfl rfl rfl

theorem refuseFrame_holdsLess (counts : Bool) (e : FrameEnd) (s : State) : HoldsLess s (refuseFrame counts e s) := by
  unfold refuseFrame
  extract_lets link s1
  have h1 : HoldsLess s s1 := .of_eq rfl rfl rfl
  exact h1.trans (.ite (sideline_holdsLess _ s1) (endFrame_holdsLess e s1))

theorem afterEnd_holdsLess (e : TryEnd) (s : State) : HoldsLess s (afterEnd e s) := by
  cases e with
  | frameEnd ending => exact endFrame_holdsLess ending s
  | stalled linesHigh => exact .ite (busToIdle_holdsLess s) (.of_eq rfl rfl rfl)
  | broken rise => exact .ite (busToIdle_holdsLess s) (.of_eq rfl rfl rfl)

theorem afterOwn_holdsLess (e : TryEnd) (s : State) : HoldsLess s (afterOwn e s) :=
  .ite (busToIdle_holdsLess s) (afterEnd_holdsLess e s)

theorem reportUnheard_holdsLess (s : State) : HoldsLess s (reportUnheard s) := .ite (sideline_holdsLess _ s) (.refl s)

theorem reportClash_holdsLess (s : State) : HoldsLess s (reportClash s) := .ite (halt_holdsLess _ s) (.refl s)

theorem staleEffect_holdsLess (e : TxEntry) (s : State) : HoldsLess s (staleEffect e s) := by
  unfold staleEffect
  split
  · exact endIfUsed_holdsLess _ _ s
  · exact tooLateIfHeld_holdsLess _ s
  · exact .ite (.of_eq rfl rfl rfl) (.refl s)
  · exact .refl s

theorem withdrawIfStale_holdsLess (s : State) (e : TxEntry) : HoldsLess s (withdrawIfStale s e) := by
  have h1 : HoldsLess s (setEntries (s.tx.entries.filter (fun x => x != e)) s) :=
    .of_entries (map_identity_filter _ _) rfl rfl
  exact .ite (h1.trans (staleEffect_holdsLess e _)) (.refl s)

theorem offer_holdsLess (s : State) : HoldsLess s (offer s) := .of_eq rfl rfl rfl

theorem revalidate_holdsLess (s : State) : HoldsLess s (revalidate s) := foldl_holdsLess withdrawIfStale_holdsLess _ s

/-! ## The host port's bytes (chapters 9 and 10) -/

theorem expireAssembly_holdsLess (s : State) : HoldsLess s (expireAssembly s) := by
  unfold expireAssembly
  split
  · exact .of_eq (by simp [clearAssembler]) (by simp [clearAssembler]) (by simp [clearAssembler])
  · exact .refl s

theorem latchByte_holdsLess (b : Byte) (s : State) : HoldsLess s (latchByte b s) :=
  .ite (postUnreserved_holdsLess _ s)
    (.ite (.ite (.of_eq rfl rfl rfl) (postUnreserved_holdsLess _ s)) (.of_eq rfl rfl rfl))

theorem writeByte_holdsLess (b : Byte) (selected readLow : Bool) (s : State) :
    HoldsLess s (writeByte b selected readLow s) := by
  unfold writeByte
  extract_lets port s1
  have h1 : HoldsLess s s1 := .of_eq rfl rfl rfl
  exact .ite ((h1.trans (expireAssembly_holdsLess s1)).trans (latchByte_holdsLess b _)) h1

theorem readNext_holdsLess (r : Reading) (s : State) : HoldsLess s (readNext r s) := by
  unfold readNext finishReading
  simp only
  split
  · exact .of_eq rfl rfl rfl
  · split
    all_goals
      refine HoldsLess.trans ?_ (postPendingWarns_holdsLess _)
      exact .of_eq rfl rfl rfl

theorem readByte_holdsLess (selected writeLow : Bool) (s : State) : HoldsLess s (readByte selected writeLow s) := by
  unfold readByte consumeByte
  simp only
  split
  · split
    · refine HoldsLess.trans ?_ (readNext_holdsLess _ _)
      exact .of_eq rfl rfl rfl
    · split
      · refine HoldsLess.trans ?_ (readNext_holdsLess _ _)
        exact .of_eq rfl rfl rfl
      · exact .of_eq rfl rfl rfl
  · exact .of_eq rfl rfl rfl

/-! ## Laws that allow for what puts a frame in -/

/-- `P` is a law of the queues of frames, and `Room` says what a bound frame's queuing asks for. -/
structure QueueLaw (P Room : State → Prop) : Prop where
  /-- nothing is lost by holding less -/
  less : ∀ {s t}, HoldsLess s t → P s → P t
  roomLess : ∀ {s t}, HoldsLess s t → Room s → Room t
  /-- an internal frame is queued where its key is not present and an internal place is free (R124, R133) -/
  internal : ∀ s f, P s → P (queueInternal s f)
  /-- a bound frame is queued with room (R123) -/
  bound : ∀ {s} f n, Room s → P s → P (enqueue f (some n) s)
  roomOf : ∀ {s}, boundHeld s < Config.boundPlaces → Room s
  /-- the application of an own bound frame gives up its place (R123) -/
  applied : ∀ {s : State} {e rest}, s.apply.rx = e :: rest → e.own = true → e.binding.isSome = true → P s →
    Room { s with apply.rx := rest }
  /-- an own frame that is no train frame goes from its entry to the receive queue (R149) -/
  accepted : ∀ {s t : State} {e : TxEntry} {r : RxEntry}, onBusEntry s = some e → s.link.sending.isSome = true →
    r.own = true → r.binding = e.binding → r.kind.isTrain = false →
    t.tx.entries.map TxEntry.identity = (withoutOnBus s).map TxEntry.identity → t.apply.rx = s.apply.rx ++ [r] →
    t.link.sending = none → P s → P t
  /-- an own train frame enters the receive queue (R149) -/
  acceptedTrain : ∀ {s t : State} {r : RxEntry}, s.link.sending.isSome = true → r.binding = none →
    r.kind.isTrain = true → t.tx.entries.map TxEntry.identity = s.tx.entries.map TxEntry.identity →
    t.apply.rx = s.apply.rx ++ [r] → t.link.sending = none → P s → P t
  /-- a frame is sent while the receive queue has room (R39, R108) -/
  sent : ∀ {s t : State}, s.apply.rx.length < Config.rxSize →
    t.tx.entries.map TxEntry.identity = s.tx.entries.map TxEntry.identity → t.apply.rx = s.apply.rx → P s → P t
  /-- another station's frame enters the receive queue with room (R148) -/
  received : ∀ {s t : State} {r : RxEntry}, s.apply.rx.length < Config.rxSize → s.link.sending = none → r.own = false →
    t.tx.entries = s.tx.entries → t.apply.rx = s.apply.rx ++ [r] → t.link.sending = none → P s → P t

variable {P Room : State → Prop}

namespace QueueLaw

/-- Entries, receive queue and what is sent decide. -/
theorem congr (law : QueueLaw P Room) {s t : State} (hp : P s) (ht : t.tx.entries = s.tx.entries)
    (ha : t.apply.rx = s.apply.rx) (hl : t.link.sending = s.link.sending) : P t :=
  law.less (.of_eq ht ha hl) hp

theorem fillOwed (law : QueueLaw P Room) {s : State} (hp : P s) : P (fillOwed s) := by
  unfold Machine.fillOwed
  exact foldl_preserves (P := P) law.internal _ hp

theorem enterEntering (law : QueueLaw P Room) (cause : StateCause) {s : State} (hp : P s) :
    P (enterEntering cause s) := by
  unfold Machine.enterEntering postState
  dsimp only
  refine law.less (postUnreserved_holdsLess _ _) (law.congr (law.internal _ .enter ?_) rfl rfl rfl)
  exact law.less (HoldsLess.of_entries (map_identity_filter _ _) rfl rfl) hp

theorem enterAfresh (law : QueueLaw P Room) (cause : StateCause) {s : State} (hp : P s) :
    P (enterAfresh cause s) := by
  have h1 : P { s with station.attempts := 1 } := law.congr hp rfl rfl rfl
  unfold Machine.enterAfresh
  exact law.enterEntering cause h1

theorem nextAttempt (law : QueueLaw P Room) (cause : StateCause) {s : State} (hp : P s) : P (nextAttempt cause s) := by
  have h1 : P { s with station.attempts := s.station.attempts + 1 } := law.congr hp rfl rfl rfl
  unfold Machine.nextAttempt
  split
  · exact law.enterEntering cause h1
  · exact law.less (halt_holdsLess .noCopy s) hp

theorem copyWaitExpires (law : QueueLaw P Room) {s : State} (hp : P s) : P (copyWaitExpires s) := by
  unfold Machine.copyWaitExpires
  exact law.nextAttempt .copyWait (law.less (foldl_holdsLess forgetIfSilent_holdsLess _ s) hp)

theorem discardCopy (law : QueueLaw P Room) {s : State} (hp : P s) : P (discardCopy s) := by
  have hs : HoldsLess s (stopLoading s) := .of_eq rfl rfl rfl
  have hc : P (clearTable (stopLoading s)) := law.less (hs.trans (clearTable_holdsLess _)) hp
  unfold Machine.discardCopy
  simp only
  split
  · split
    · exact law.copyWaitExpires hc
    · exact hc
  · exact law.enterAfresh .copy (law.less (endTags_holdsLess .copy _) hc)
  all_goals exact hc

theorem settleRun (law : QueueLaw P Room) {s : State} (hp : P s) : P (settleRun s) := by
  unfold Machine.settleRun endRun
  simp only
  split
  · split
    · exact law.discardCopy (law.congr hp rfl rfl rfl)
    · exact law.congr hp rfl rfl rfl
  · exact hp

end QueueLaw
end Sys2Proof.Machine
end

/-! # Every step keeps the laws of the queues of frames (R39, R40, R123, R124) -/

section
namespace Sys2Proof.Machine

open Sys2Proof (Byte BusFrame FrameEnd TryEnd Instr)

/-! ## Applications that only take frames away -/

theorem toAskTag_holdsLess (e : RxEntry) {act : Nat → State → State} (ha : ∀ n s, HoldsLess s (act n s)) (s : State) :
    HoldsLess s (toAskTag e act s) := by
  unfold toAskTag
  split
  · exact .ite (ha _ s) (.refl s)
  · exact .refl s

theorem tagAskGranted_holdsLess (serial n : Nat) (s : State) : HoldsLess s (tagAskGranted serial n s) := by
  unfold tagAskGranted
  extract_lets s1
  have h1 : HoldsLess s s1 := .of_eq rfl rfl rfl
  refine h1.trans (.ite ?_ (.refl s1))
  refine HoldsLess.trans ?_ (postUnreserved_holdsLess _ _)
  exact .of_eq rfl rfl rfl

theorem removeAndPromote_holdsLess (c h : Nat) (s : State) : HoldsLess s (removeAndPromote c h s) :=
  (removeHold_holdsLess c h s).trans (promote_holdsLess c _)

theorem yieldBody_holdsLess (e : RxEntry) (s : State) : HoldsLess s (yieldBody e s) := by
  unfold yieldBody
  split
  · rename_i c serial _
    have h1 := removeAndPromote_holdsLess c e.sender s
    exact .ite (h1.trans (.ite (endTagFor_holdsLess _ _ _ _) (.refl _))) (.refl s)
  · exact .refl s

theorem lapseBody_holdsLess (e : RxEntry) (s : State) : HoldsLess s (lapseBody e s) := by
  unfold lapseBody
  split
  · rename_i c h serial _
    have h1 := removeAndPromote_holdsLess c h s
    exact .ite (h1.trans (.ite (endTagFor_holdsLess _ _ _ _) (.refl _))) (.refl s)
  · exact .refl s

theorem tagExtended_holdsLess (c l serial : Nat) (s : State) : HoldsLess s (tagExtended c l serial s) := by
  unfold tagExtended
  split
  · exact .of_eq (by simp) (by simp) (by simp)
  · exact .refl s

theorem staleExtend_holdsLess (e : RxEntry) (s : State) : HoldsLess s (staleExtend e s) := by
  unfold staleExtend
  split
  · exact .of_eq rfl rfl rfl
  · exact .refl s

theorem extendBody_holdsLess (e : RxEntry) (s : State) : HoldsLess s (extendBody e s) := by
  unfold extendBody
  split
  · rename_i c serial l _
    have h1 := extendHold_holdsLess c e.sender l s
    exact .ite (.ite (h1.trans (.ite (tagExtended_holdsLess _ _ _ _) (.refl _))) (staleExtend_holdsLess e s)) (.refl s)
  · exact .refl s

theorem leaveQueue_holdsLess (c h : Nat) (s : State) : HoldsLess s (leaveQueue c h s) := by
  have h1 : HoldsLess s (removeWaiter c h s) := .of_eq rfl rfl rfl
  exact .ite (h1.trans (promote_holdsLess c _)) h1

theorem staleCancel_holdsLess (e : RxEntry) (s : State) : HoldsLess s (staleCancel e s) := by
  unfold staleCancel
  split
  · exact tooLateIfHeld_holdsLess _ s
  · exact .refl s

theorem cancelBody_holdsLess (e : RxEntry) (s : State) : HoldsLess s (cancelBody e s) := by
  unfold cancelBody
  split
  · rename_i c _
    have h1 := leaveQueue_holdsLess c e.sender s
    exact .ite (.ite (h1.trans (.ite (endTagFor_holdsLess _ _ _ _) (.refl _))) (staleCancel_holdsLess e s)) (.refl s)
  · exact .refl s

theorem unlistIfListed_holdsLess (d : Nat) (s : State) :
    HoldsLess s (if rosterAt s d = .absent then s else unlist d s) :=
  .ite (.refl s) (unlist_holdsLess d s)

theorem found_holdsLess (s : State) : HoldsLess s (found s) := by
  unfold found
  refine HoldsLess.trans ?_ (moveTo_holdsLess _ _ _)
  exact (clearTable_holdsLess s).trans (.of_eq rfl rfl rfl)

theorem joinWait_holdsLess (s : State) : HoldsLess s (joinWait s) := by
  unfold joinWait
  refine HoldsLess.trans ?_ (moveTo_holdsLess _ _ _)
  exact .of_eq rfl rfl rfl

theorem enterBody_holdsLess (e : RxEntry) (s : State) : HoldsLess s (enterBody e s) := by
  unfold enterBody enterShared enterLearned
  extract_lets s1 founds s2
  have hs : HoldsLess s (if rosterAt s e.sender = .absent then s else unlist e.sender (purge e.sender s)) :=
    .ite (.refl s) ((purge_holdsLess e.sender s).trans (unlist_holdsLess e.sender _))
  have h2 : HoldsLess s s2 := (unlistIfListed_holdsLess e.sender s).trans (listFresh_holdsLess _ _ s1)
  exact .ite (hs.trans (listFresh_holdsLess _ _ _))
    (.ite (.ite (h2.trans (found_holdsLess s2)) (h2.trans (joinWait_holdsLess s2))) h2)

theorem learnRoll_holdsLess (d : Nat) (joining : Bool) (s : State) : HoldsLess s (learnRoll d joining s) := by
  unfold learnRoll
  split
  · exact listFresh_holdsLess _ _ s
  · exact listFresh_holdsLess _ _ s
  · exact .of_eq rfl rfl rfl
  · exact .refl s

theorem loadHead_holdsLess (h : HeadFields) (s : State) : HoldsLess s (loadHead h s) := by
  unfold loadHead
  exact (clearTable_holdsLess s).trans (.of_eq rfl rfl rfl)

theorem loadHold_holdsLess (c : Nat) (s : State) (h : HoldSlot × Nat) : HoldsLess s (loadHold c s h) := by
  unfold loadHold
  extract_lets train s1
  have h1 : HoldsLess s s1 := .of_eq rfl rfl rfl
  exact .ite (h1.trans (.of_eq (by simp) (by simp) (by simp))) h1

theorem trainClaimBody_holdsLess (e : RxEntry) (s : State) : HoldsLess s (trainClaimBody e s) := by
  unfold trainClaimBody loadClaim
  split
  · rename_i r f _ _
    extract_lets _ s1
    have h1 : HoldsLess s s1 := .of_eq rfl rfl rfl
    have h2 : HoldsLess s1 (setClaim f.claim ⟨f.serial, f.holders.map (·.1), f.waiters⟩ s1) := .of_eq rfl rfl rfl
    exact .ite ((h1.trans h2).trans (foldl_holdsLess (loadHold_holdsLess f.claim) _ _)) h1
  · exact .refl s

theorem commitRoster_holdsLess (joining : BitVec 32) (s : State) : HoldsLess s (commitRoster joining s) := by
  unfold commitRoster commitStation
  exact foldl_holdsLess (fun t d => by split <;> exact .of_eq rfl rfl rfl) _ s

theorem sourceCommit_holdsLess (s : State) : HoldsLess s (sourceCommit s) :=
  .of_entries (map_identity_filter _ _) rfl rfl

theorem startLoadedOn_holdsLess (s : State) (c : Nat) : HoldsLess s (startLoadedOn s c) := by
  unfold startLoadedOn startLoaded
  exact foldl_holdsLess (fun _ _ => .of_eq (by simp) (by simp) (by simp)) _ s

theorem reconcileTag_holdsLess (s : State) (n : Nat) : HoldsLess s (reconcileTag s n) := by
  unfold reconcileTag
  extract_lets stays
  exact .ite (.refl s) (endTagIfUsed_holdsLess .copy s n)

theorem supersedeDrops_holdsLess (s : State) : HoldsLess s (supersedeDrops s) := by
  refine .of_entries ?_ rfl rfl
  unfold supersedeDrops
  show (List.map TxEntry.identity (List.map _ _)).Sublist _
  rw [map_identity]
  intro e
  split
  · split <;> rfl
  · rfl

theorem loaderReady_holdsLess (s : State) : HoldsLess s (loaderReady s) := .of_eq rfl rfl rfl

theorem loaderCommit_holdsLess (s : State) : HoldsLess s (loaderCommit s) := by
  unfold loaderCommit
  split
  · unfold joinCommit
    refine HoldsLess.trans ?_ (moveTo_holdsLess _ _ _)
    exact (foldl_holdsLess startLoadedOn_holdsLess _ s).trans (loaderReady_holdsLess _)
  · unfold founderCommit
    refine HoldsLess.trans ?_ (moveTo_holdsLess _ _ _)
    exact ((loaderReady_holdsLess s).trans (supersedeDrops_holdsLess _)).trans (foldl_holdsLess reconcileTag_holdsLess _ _)
  all_goals exact .refl s

theorem trainTailBody_holdsLess (e : RxEntry) (s : State) : HoldsLess s (trainTailBody e s) := by
  unfold trainTailBody
  split
  · rename_i r _
    extract_lets _ s1 s2
    have h0 : HoldsLess s { s with apply.record := none } := .of_eq rfl rfl rfl
    have h1 : HoldsLess s s1 := h0.trans (commitRoster_holdsLess r.joining _)
    have h2 : HoldsLess s s2 := h1.trans (.ite (sourceCommit_holdsLess s1) (.refl s1))
    exact .ite (h2.trans (loaderCommit_holdsLess s2)) h2
  · exact .refl s

theorem commonSteps_holdsLess (e : RxEntry) (s : State) : HoldsLess s (commonSteps e s) := by
  unfold commonSteps
  extract_lets s1
  have h1 : HoldsLess s s1 := .ite (.refl s) (setSilence_holdsLess _ _ s)
  exact h1.trans (.ite (.of_eq rfl rfl rfl) (.refl s1))

namespace QueueLaw

variable {P Room : State → Prop}

/-! ## FRAME_RECEIVE and FRAME_OPEN -/

theorem slotsOf (law : QueueLaw P Room) (f : BusFrame) (otherVeto : Bool) (e : FrameEnd) {s : State}
    (hr : receiving s = true) (hp : P s) : P (slotsOf f otherVeto e s) := by
  unfold Machine.slotsOf
  extract_lets link s1
  have h1 : P s1 := law.congr hp rfl rfl rfl
  split
  · exact law.less (refuseFrame_holdsLess _ e s1) h1
  · rename_i hv
    split
    · rename_i k _
      have hroom : s1.apply.rx.length < Config.rxSize := by
        simp only [vetoes, countingVeto, Bool.or_eq_true, decide_eq_true_eq, not_or] at hv
        exact Nat.lt_of_not_le hv.1.1.1.1.2
      have hsend : s1.link.sending = none := by
        simp only [receiving, Bool.and_eq_true, Option.isNone_iff_eq_none] at hr
        exact hr.1.2
      have h2 : P (acceptFrame k f.sender.toNat f.payload false none s1) :=
        law.received (r := ⟨k, f.sender.toNat, f.payload, false, none, continues k s1, entryLoads k f.payload false s1⟩)
          hroom hsend rfl rfl rfl hsend h1
      unfold takeFrame
      exact law.less (endFrame_holdsLess e _) (law.congr h2 rfl rfl rfl)
    · exact h1

theorem receiveFrame (law : QueueLaw P Room) (sampled : List Bool) (otherVeto : Bool) (e : FrameEnd) {s : State}
    (hp : P s) : P (receiveFrame sampled otherVeto e s) := by
  have h0 : P { s with tx.offered := none } := law.congr hp rfl rfl rfl
  have h1 := law.settleRun h0
  unfold Machine.receiveFrame
  split
  · split
    · simp only
      split
      · rename_i hr
        exact law.slotsOf _ otherVeto e hr h1
      · exact h1
    · exact hp
  · exact hp

theorem pullOffered (law : QueueLaw P Room) {s : State} (hrx : s.apply.rx = []) (hp : P s) : P (pullOffered s) := by
  unfold Machine.pullOffered
  split
  · rename_i e _
    exact law.sent (t := openEntry e s) (by rw [hrx]; decide) (map_identity (fun x => by split <;> rfl) _) rfl hp
  · exact law.congr hp rfl rfl rfl

theorem openFrame (law : QueueLaw P Room) (pull : Bool) {s : State} (hp : P s) : P (openFrame pull s) := by
  have hv : HoldsLess s (offer (revalidate s)) := (revalidate_holdsLess s).trans (offer_holdsLess _)
  unfold Machine.openFrame
  split
  · rename_i hm
    have hrx : s.apply.rx = [] := by
      simp only [mayOpen, Bool.and_eq_true, List.isEmpty_iff] at hm
      exact hm.1.1.2
    split
    · exact law.pullOffered hrx hp
    · split
      · exact law.pullOffered (List.eq_nil_of_sublist_nil (hrx ▸ hv.rx)) (law.less hv hp)
      · exact law.less hv hp
  · exact hp

theorem frameOpen (law : QueueLaw P Room) (elapsed : Nat) (pull : Bool) {s : State} (hp : P s) :
    P (frameOpen elapsed pull s) := by
  unfold Machine.frameOpen
  exact law.openFrame pull (law.settleRun (law.less (countIdle_holdsLess _ s) hp))

/-! ## TRY_OUTCOME -/

theorem limitEffect (law : QueueLaw P Room) (f : TxFrame) (binding : Option Nat) {s : State} (hp : P s) :
    P (limitEffect f binding s) := by
  unfold Machine.limitEffect
  split
  · split
    · exact law.less (endIfUsed_holdsLess _ _ s) hp
    · split
      · exact law.congr hp rfl rfl rfl
      · exact hp
    · split
      · exact law.congr hp rfl rfl rfl
      · exact law.less (tooLateIfHeld_holdsLess _ s) hp
    · split
      · exact law.congr hp rfl rfl rfl
      · exact hp
    · exact hp
  · split
    · split
      · exact law.internal s .enter hp
      · exact hp
    · split
      · exact law.internal s _ hp
      · exact hp
    · exact hp

theorem returnEntry (law : QueueLaw P Room) (counted : Bool) (e : TxEntry) {s : State} (hp : P s) :
    P (returnEntry counted e s) := by
  unfold Machine.returnEntry
  split
  · split
    · exact law.congr hp rfl rfl rfl
    · exact law.less (trainReturn_holdsLess false e s) hp
  · split
    · exact law.less (withoutOnBus_holdsLess s) hp
    · split
      · exact law.less ((readyAgain_holdsLess counted s).trans (endTag_holdsLess _ _ _)) hp
      · split
        · unfold atLimit
          exact law.limitEffect _ _ (law.less ((withoutOnBus_holdsLess s).trans (postUnreserved_holdsLess _ _)) hp)
        · exact law.less (readyAgain_holdsLess counted s) hp

theorem notSending (law : QueueLaw P Room) {s : State} (hp : P s) : P { s with link.sending := none } :=
  have hless : HoldsLess s { s with link.sending := none } := ⟨.refl _, .refl _, .inr rfl⟩
  law.less hless hp

theorem returnTry (law : QueueLaw P Room) (counted : Bool) {s : State} (hp : P s) : P (returnTry counted s) := by
  unfold Machine.returnTry
  split
  · exact law.returnEntry counted _ (law.notSending hp)
  · exact law.notSending hp

theorem acceptSingle (law : QueueLaw P Room) (o : OwnFrame) (e : TxEntry) (ending : TryEnd) {s : State}
    (he : onBusEntry s = some e) (hs : s.link.sending.isSome = true) (hk : o.kind.isTrain = false) (hp : P s) :
    P (acceptSingle o e ending s) := by
  unfold Machine.acceptSingle
  extract_lets src link s1 s2
  have h1 : P s1 := by
    have h0 := law.less (withoutOnBus_holdsLess s) hp
    exact law.notSending h0
  have h2 : P s2 := law.accepted he hs rfl rfl hk (map_identity (fun x => by split <;> rfl) _) rfl rfl hp
  split
  · exact law.less (afterOwn_holdsLess ending s1) h1
  · exact law.less (afterOwn_holdsLess ending _) (law.congr h2 rfl rfl rfl)

theorem acceptTrain (law : QueueLaw P Room) (o : OwnFrame) (ending : TryEnd) {s : State}
    (hs : s.link.sending.isSome = true) (hk : o.kind.isTrain = true) (hp : P s) : P (acceptTrain o ending s) := by
  unfold Machine.acceptTrain
  extract_lets link s1
  have h1 : P s1 := law.acceptedTrain hs rfl hk (map_identity (fun x => by split <;> rfl) _) rfl rfl hp
  split
  · have h2 : P { s1 with train.composer := none } := law.congr h1 rfl rfl rfl
    exact law.less (afterOwn_holdsLess ending _) h2
  · split
    · rename_i c hc
      have hroom : s1.apply.rx.length < Config.rxSize := by
        unfold relinksWith at hc
        split at hc
        · rename_i h; exact h.2
        · cases hc
      exact law.sent hroom rfl rfl h1
    · have h2 : P (failTrain s1) := law.congr h1 rfl rfl rfl
      exact law.less (afterOwn_holdsLess ending _) h2

theorem acceptTry (law : QueueLaw P Room) (o : OwnFrame) (ending : TryEnd) {s : State}
    (hs : s.link.sending.isSome = true) (hp : P s) : P (acceptTry o ending s) := by
  unfold Machine.acceptTry
  split
  · rename_i e he
    split
    · rename_i hk
      exact law.acceptTrain o ending hs hk hp
    · rename_i hk
      exact law.acceptSingle o e ending he hs (by simpa using hk) hp
  · exact law.less (afterOwn_holdsLess ending _) (law.notSending hp)

theorem trySlots (law : QueueLaw P Room) (o : OwnFrame) (vetoLow heardLow : Bool) (ending : TryEnd) {s : State}
    (hs : s.link.sending.isSome = true) (hp : P s) : P (trySlots o vetoLow heardLow ending s) := by
  have h1 : P (countSlots vetoLow heardLow s) := law.congr hp rfl rfl rfl
  unfold Machine.trySlots
  refine law.less (reportUnheard_holdsLess _) ?_
  split
  · exact law.acceptTry o ending hs h1
  · exact law.less (afterOwn_holdsLess ending _) (law.returnTry true h1)

theorem tryClashed (law : QueueLaw P Room) (e : FrameEnd) {s : State} (hp : P s) : P (tryClashed e s) := by
  unfold Machine.tryClashed
  extract_lets link s1
  have h1 : P s1 := law.congr hp rfl rfl rfl
  exact law.less ((endFrame_holdsLess e _).trans (reportClash_holdsLess _)) (law.returnTry true h1)

theorem tryCut (law : QueueLaw P Room) (o : OwnFrame) (vetoLow : Option Bool) (ending : TryEnd) {s : State}
    (hs : s.link.sending.isSome = true) (hp : P s) : P (tryCut o vetoLow ending s) := by
  have h1 : P (countTail s) := law.congr hp rfl rfl rfl
  unfold Machine.tryCut
  split
  · exact law.acceptTry o ending hs h1
  · exact law.less (afterEnd_holdsLess ending _) (law.returnTry true hp)

theorem tryLost (law : QueueLaw P Room) (o : OwnFrame) (ending : TryEnd) {s : State} (hp : P s) :
    P (tryLost o ending s) := by
  have h1 : P { s with link.chain := false } := law.congr hp rfl rfl rfl
  have h2 := law.returnTry (o.kind == .trainClaim || o.kind == .trainTail) h1
  unfold Machine.tryLost
  dsimp only
  split
  · exact h2
  · exact law.less (afterEnd_holdsLess _ _) h2
  · exact law.less (afterEnd_holdsLess _ _) h2

theorem tryOutcome (law : QueueLaw P Room) (sampled : List Bool) (ending : TryEnd) {s : State} (hp : P s) :
    P (tryOutcome sampled ending s) := by
  unfold Machine.tryOutcome endTry
  split
  · rename_i o ho
    have hs : s.link.sending.isSome = true := by rw [ho]; rfl
    split
    · exact law.tryLost o _ hp
    · exact law.tryClashed _ hp
    · exact law.tryCut o none _ hs hp
    · exact law.tryCut o none _ hs hp
    · exact hp
    · exact law.tryCut o _ _ hs hp
    · exact law.tryCut o _ _ hs hp
    · exact law.trySlots o _ _ _ hs hp
  · exact hp

theorem cutFrame (law : QueueLaw P Room) (sampled : List Bool) (ending : TryEnd) {s : State} (hp : P s) :
    P (cutFrame sampled ending s) := by
  have h1 : P { s with tx.offered := none } := law.congr hp rfl rfl rfl
  unfold Machine.cutFrame
  split
  · dsimp only
    split
    · exact law.tryOutcome sampled ending h1
    · exact law.less (afterEnd_holdsLess ending _) h1
  · exact hp

/-! ## Commands (chapter 9) -/

theorem takeCommand (law : QueueLaw P Room) {c : Command} {body : List Byte → State → State}
    (hb : ∀ fs s, P s → P (body fs s)) {s : State} (hp : P s) : P (takeCommand c body s) := by
  have h1 : P { s with port.assembler := [], port.age := 0 } := law.congr hp rfl rfl rfl
  unfold Machine.takeCommand
  split
  · exact hb _ _ h1
  · exact hp

/-- A command that may queue a bound frame is taken only where a bound place is free (R160). -/
theorem takeBound (law : QueueLaw P Room) {c : Command} {body : List Byte → State → State}
    (hc : ∀ s, roomFor c s = true → boundHeld s < Config.boundPlaces)
    (hb : ∀ fs s, Room s → P s → P (body fs s)) {s : State} (hp : P s) : P (Machine.takeCommand c body s) := by
  have h1 : P { s with port.assembler := [], port.age := 0 } := law.congr hp rfl rfl rfl
  unfold Machine.takeCommand
  split
  · rename_i h
    exact hb _ _ (law.roomLess (.of_eq rfl rfl rfl) (law.roomOf (hc s h.2))) h1
  · exact hp

theorem takeGo (law : QueueLaw P Room) (fs : List Byte) (s : State) (hp : P s) : P (takeGo fs s) := by
  unfold Machine.takeGo
  split
  · exact law.congr hp rfl rfl rfl
  · exact law.congr hp (by simp) (by simp) (by simp)

theorem takeLeave (law : QueueLaw P Room) (fs : List Byte) (s : State) (hp : P s) : P (takeLeave fs s) := by
  unfold Machine.takeLeave
  split
  · exact law.congr hp rfl rfl rfl
  · refine law.less (moveTo_holdsLess _ _ _) (law.internal _ _ ?_)
    exact law.less (.of_entries (map_identity_filter _ _) rfl rfl) hp

theorem takeRestart (law : QueueLaw P Room) (fs : List Byte) (s : State) (hp : P s) : P (takeRestart fs s) := by
  unfold Machine.takeRestart
  refine law.less (HoldsLess.trans ?_ (moveTo_holdsLess _ _ _)) hp
  exact .of_empty rfl rfl rfl

theorem takeSetup (law : QueueLaw P Room) (fs : List Byte) (s : State) (hp : P s) : P (takeSetup fs s) := by
  unfold Machine.takeSetup
  (repeat' split) <;> exact law.congr hp rfl rfl rfl

theorem takeMask (law : QueueLaw P Room) (fs : List Byte) (s : State) (hp : P s) : P (takeMask fs s) := by
  unfold Machine.takeMask
  split <;> exact law.congr hp rfl rfl rfl

theorem takeQuery (law : QueueLaw P Room) (fs : List Byte) (s : State) (hp : P s) : P (takeQuery fs s) := by
  unfold Machine.takeQuery
  split <;> exact law.congr hp rfl rfl rfl

theorem takeAcquire (law : QueueLaw P Room) (fs : List Byte) (s : State) (hroom : Room s) (hp : P s) :
    P (takeAcquire fs s) := by
  unfold Machine.takeAcquire
  extract_lets n q lease claim l taken
  have hless : HoldsLess s taken := .of_eq rfl rfl rfl
  have hd : ∀ r, P (deny .acquire r s) := fun r => law.congr hp rfl rfl rfl
  split
  · exact hd _
  · split
    · exact hd _
    · split
      · exact hd _
      · split
        · exact law.less (hless.trans (endTag_holdsLess _ _ taken)) hp
        · exact law.bound _ _ (law.roomLess hless hroom) (law.less hless hp)

theorem onTag (law : QueueLaw P Room) {c : Command} {n : Nat} {inRange : Bool} {act : State → State} {s : State}
    (ha : P (act s)) (hp : P s) : P (onTag c n inRange act s) := by
  have hd : ∀ r, P (deny c r s) := fun r => law.congr hp rfl rfl rfl
  unfold Machine.onTag
  (repeat' split)
  · exact hd _
  · exact hd _
  · exact hd _
  · exact ha

/-- A tag changes and a frame bound to it is queued (R169 to R171). -/
theorem enqueueFor (law : QueueLaw P Room) (f : TxFrame) (n : Nat) (v : Tag) {s : State} (hroom : Room s) (hp : P s) :
    P (enqueue f (some n) (setTag n v s)) :=
  have hless : HoldsLess s (setTag n v s) := .of_eq rfl rfl rfl
  law.bound f n (law.roomLess hless hroom) (law.less hless hp)

theorem takeRelease (law : QueueLaw P Room) (fs : List Byte) (s : State) (hroom : Room s) (hp : P s) :
    P (takeRelease fs s) := by
  unfold Machine.takeRelease
  refine law.onTag ?_ hp
  split
  · exact law.congr hp rfl rfl rfl
  · exact law.enqueueFor _ _ _ hroom hp

theorem takeExtend (law : QueueLaw P Room) (fs : List Byte) (s : State) (hroom : Room s) (hp : P s) :
    P (takeExtend fs s) := by
  unfold Machine.takeExtend
  refine law.onTag ?_ hp
  split
  · exact law.congr hp rfl rfl rfl
  · exact law.enqueueFor _ _ _ hroom hp

theorem takeCancel (law : QueueLaw P Room) (fs : List Byte) (s : State) (hroom : Room s) (hp : P s) :
    P (takeCancel fs s) := by
  unfold Machine.takeCancel
  refine law.onTag ?_ hp
  split
  · split
    · exact law.congr hp rfl rfl rfl
    · split
      · exact law.less (endTag_holdsLess _ _ s) hp
      · exact law.congr hp rfl rfl rfl
  · exact law.enqueueFor _ _ _ hroom hp
  · exact law.congr hp rfl rfl rfl

/-! ## Applications that may queue a frame -/

theorem tagAskQueued (law : QueueLaw P Room) (claim position n : Nat) {s : State} (hroom : Room s) (hp : P s) :
    P (tagAskQueued claim position n s) := by
  unfold Machine.tagAskQueued
  extract_lets tag s1
  have h1 : HoldsLess s s1 :=
    HoldsLess.trans (t := setTag n { tagAt s n with phase := some .waiting } s) (.of_eq rfl rfl rfl)
      (postUnreserved_holdsLess _ _)
  split
  · exact law.enqueueFor _ _ _ (law.roomLess h1 hroom) (law.less h1 hp)
  · exact law.less h1 hp

theorem askBody (law : QueueLaw P Room) (e : RxEntry) (s : State)
    (hroom : e.own = true → e.binding.isSome = true → Room s) (hp : P s) : P (askBody e s) := by
  unfold Machine.askBody
  split
  · rename_i a _
    split
    · have hend : ∀ r, HoldsLess s (toAskTag e (fun n => endTag n (.refused n r)) s) := fun r =>
        toAskTag_holdsLess e (fun n => endTag_holdsLess n _) s
      unfold askEffect
      split
      · exact law.less (hend _) hp
      · exact law.less (hend _) hp
      · exact law.less (hend _) hp
      · exact law.less (hend _) hp
      · have hg : HoldsLess s (grant a.claim ⟨e.sender, a.mode, a.lease⟩ s) := .of_eq (by simp) (by simp) (by simp)
        exact law.less (hg.trans (toAskTag_holdsLess e (tagAskGranted_holdsLess _) _)) hp
      · have hq : HoldsLess s (appendWaiter a.claim ⟨e.sender, a.mode, a.lease⟩ s) := .of_eq rfl rfl rfl
        unfold toAskTag
        split
        · rename_i n hn
          split
          · have hb : e.own = true ∧ e.binding.isSome = true := by
              unfold boundTag at hn
              split at hn
              · rename_i m hm
                split at hn
                · rename_i hu
                  exact ⟨(Bool.and_eq_true_iff.mp hu).1, by rw [hm]; rfl⟩
                · cases hn
              · cases hn
            exact law.tagAskQueued _ _ _ (law.roomLess hq (hroom hb.1 hb.2)) (law.less hq hp)
          · exact law.less hq hp
        · exact law.less hq hp
    · exact hp
  · exact hp

theorem dropBody (law : QueueLaw P Room) (e : RxEntry) (s : State) (hp : P s) : P (dropBody e s) := by
  unfold Machine.dropBody
  split
  · rename_i d _
    split
    · exact hp
    · split
      · have hu := law.less ((purge_holdsLess d s).trans (unlist_holdsLess d _)) hp
        unfold dropShared droppedSelf
        dsimp only
        split
        · exact hp
        · split
          · split
            · exact law.less (departureEnds_holdsLess _) hu
            · exact law.enterAfresh .evicted (law.less (endTags_holdsLess .dropped _) hu)
          · exact hu
      · have hu := law.less (unlistIfListed_holdsLess d s) hp
        unfold dropLearned
        dsimp only
        split
        · exact law.nextAttempt .dropped hu
        · exact hu
  · exact hp

theorem diverge (law : QueueLaw P Room) (d : Nat) (dig : BitVec 16) {s : State} (hp : P s) :
    P (compareRoll d dig s) := by
  unfold compareRoll
  split
  · have h1 : HoldsLess s { clearRoster (clearTable s) with station.disagree := 0 } :=
      (clearTable_holdsLess s).trans (.of_eq rfl rfl rfl)
    unfold Machine.diverge
    dsimp only
    exact law.less (learnRoll_holdsLess d false _)
      (law.enterAfresh .diverged (law.less (h1.trans (endTags_holdsLess .diverged _)) hp))
  · split
    · exact law.congr hp rfl rfl rfl
    · exact hp

theorem rollBody (law : QueueLaw P Room) (e : RxEntry) (s : State) (hp : P s) : P (rollBody e s) := by
  unfold Machine.rollBody
  split
  · split
    · exact hp
    · split
      · exact law.less (learnRoll_holdsLess _ _ s) hp
      · split
        · exact law.diverge _ _ hp
        · exact hp
  · exact hp

theorem trainHeadBody (law : QueueLaw P Room) (e : RxEntry) (s : State) (hp : P s) : P (trainHeadBody e s) := by
  unfold Machine.trainHeadBody
  split
  · extract_lets loading _ s1
    have h1 : P s1 := law.congr hp rfl rfl rfl
    split
    · exact law.less (loadHead_holdsLess _ s1) h1
    · split
      · exact law.discardCopy h1
      · exact h1
  · exact hp

theorem beforeApply (law : QueueLaw P Room) (e : RxEntry) {s : State} (hp : P s) : P (beforeApply e s) := by
  unfold Machine.beforeApply
  split
  · exact hp
  · exact law.congr (law.settleRun hp) rfl rfl rfl

/-- The oldest frame leaves the receive queue and gives up its place before its rule acts (R41, R123). -/
theorem applyFront (law : QueueLaw P Room) {k : FrameKind} {body : RxEntry → State → State}
    (hb : ∀ e s, (e.own = true → e.binding.isSome = true → Room s) → P s → P (body e s)) {s : State} (hp : P s) :
    P (applyFront k body s) := by
  unfold Machine.applyFront
  split
  · exact hp
  · rename_i e0 _ _
    split
    · have h1 := law.beforeApply e0 hp
      generalize Machine.beforeApply e0 s = u at h1
      unfold applyEntry
      split
      · exact h1
      · rename_i e rest hrx
        have hless : HoldsLess u { u with apply.rx := rest } :=
          ⟨.refl _, by rw [hrx]; exact List.sublist_cons_self e rest, .inl rfl⟩
        have hc := commonSteps_holdsLess e { u with apply.rx := rest }
        exact hb _ _ (fun ho hbd => law.roomLess hc (law.applied hrx ho hbd h1)) (law.less (hless.trans hc) h1)
    · exact hp

/-! ## Every step -/

theorem exec (law : QueueLaw P Room) (hreset : ∀ s : State, s.tx.entries = [] → s.apply.rx = [] →
    s.link.sending = none → P s) (i : Instr) (s t : State) (hp : P s) (h : exec i s = .next t) : P t := by
  have hfill : P (Machine.fillOwed s) := law.fillOwed hp
  cases i with
  | hardReset =>
    obtain rfl := Host.Outcome.next.inj h
    exact hreset _ rfl rfl rfl
  | resetRelease straps =>
    obtain rfl := Host.Outcome.next.inj h
    unfold resetRelease
    split
    · exact hreset _ rfl rfl rfl
    · exact hp
  | commandByteWrite b selected readLow => exact next_keeps hp (law.less (writeByte_holdsLess b selected readLow s) hp) h
  | assemblyAgeExpiry => exact next_keeps hp (law.less (expireAssembly_holdsLess s) hp) h
  | noticeByteRead selected writeLow => exact next_keeps hp (law.less (readByte_holdsLess selected writeLow s) hp) h
  | setup => exact next_keeps hp (law.takeCommand law.takeSetup hp) h
  | go => exact next_keeps hp (law.takeCommand law.takeGo hp) h
  | leave => exact next_keeps hp (law.takeCommand law.takeLeave hp) h
  | restart => exact next_keeps hp (law.takeCommand law.takeRestart hp) h
  | status => exact next_keeps hp (law.takeCommand (body := takeStatus) (fun _ _ h => law.congr h rfl rfl rfl) hp) h
  | mask => exact next_keeps hp (law.takeCommand law.takeMask hp) h
  | query => exact next_keeps hp (law.takeCommand law.takeQuery hp) h
  | survey => exact next_keeps hp (law.takeCommand (body := takeSurvey) (fun _ _ h => law.congr h rfl rfl rfl) hp) h
  | acquire =>
    exact next_keeps hp (law.takeBound (fun s hr => by simp only [roomFor, Bool.and_eq_true, decide_eq_true_eq] at hr; exact hr.1.2)
      law.takeAcquire hp) h
  | release =>
    exact next_keeps hp (law.takeBound (fun s hr => by simp only [roomFor, Bool.and_eq_true, decide_eq_true_eq] at hr; exact hr.2)
      law.takeRelease hp) h
  | extend =>
    exact next_keeps hp (law.takeBound (fun s hr => by simp only [roomFor, Bool.and_eq_true, decide_eq_true_eq] at hr; exact hr.2)
      law.takeExtend hp) h
  | cancel =>
    exact next_keeps hp (law.takeBound (fun s hr => by simp only [roomFor, Bool.and_eq_true, decide_eq_true_eq] at hr; exact hr.2)
      law.takeCancel hp) h
  | tick => exact next_keeps hp (law.less (tick_holdsLess s) hp) h
  | leaseWatchExpiry =>
    refine next_keeps hp ?_ h
    unfold leaseWatchExpiry
    split
    · exact hfill
    · exact hp
  | rollDue =>
    refine next_keeps hp ?_ h
    unfold rollDue
    split
    · exact hfill
    · exact hp
  | silenceExpiry =>
    refine next_keeps hp ?_ h
    unfold silenceExpiry
    split
    · exact hfill
    · exact hp
  | listenTimerExpiry =>
    refine next_keeps hp ?_ h
    unfold listenTimerExpiry
    split
    · exact law.enterAfresh .listened hp
    · exact hp
  | copyWaitExpiry =>
    refine next_keeps hp ?_ h
    unfold copyWaitExpiry
    split
    · exact law.copyWaitExpires hp
    · exact hp
  | restTimerExpiry => exact next_keeps hp (law.less (restTimerExpiry_holdsLess s) hp) h
  | owedFrameQueue => exact next_keeps hp hfill h
  | warnPost => exact next_keeps hp (law.less (postPendingWarns_holdsLess s) hp) h
  | frameOpen elapsed pull => exact next_keeps hp (law.frameOpen elapsed pull hp) h
  | frameReceive sampled otherVeto ending => exact next_keeps hp (law.receiveFrame sampled otherVeto ending hp) h
  | tryOutcome lines => exact next_keeps hp (law.tryOutcome lines.bits lines.ending hp) h
  | stall lines => exact next_keeps hp (law.cutFrame lines.bits (.stalled lines.ending) hp) h
  | frameBreak lines => exact next_keeps hp (law.cutFrame lines.bits (.broken lines.ending) hp) h
  | lineStuck =>
    refine next_keeps hp ?_ h
    unfold lineStuck
    split
    · exact law.less (sideline_holdsLess .lineStuck s) hp
    · exact hp
  | trainRunEnd => exact next_keeps hp (law.settleRun hp) h
  | applyAsk => exact next_keeps hp (law.applyFront law.askBody hp) h
  | applyYield => exact next_keeps hp (law.applyFront (fun e s _ => law.less (yieldBody_holdsLess e s)) hp) h
  | applyExtend => exact next_keeps hp (law.applyFront (fun e s _ => law.less (extendBody_holdsLess e s)) hp) h
  | applyLapse => exact next_keeps hp (law.applyFront (fun e s _ => law.less (lapseBody_holdsLess e s)) hp) h
  | applyCancel => exact next_keeps hp (law.applyFront (fun e s _ => law.less (cancelBody_holdsLess e s)) hp) h
  | applyDrop => exact next_keeps hp (law.applyFront (fun e s _ => law.dropBody e s) hp) h
  | applyEnter => exact next_keeps hp (law.applyFront (fun e s _ => law.less (enterBody_holdsLess e s)) hp) h
  | applyRoll => exact next_keeps hp (law.applyFront (fun e s _ => law.rollBody e s) hp) h
  | applyTrainHead => exact next_keeps hp (law.applyFront (fun e s _ => law.trainHeadBody e s) hp) h
  | applyTrainClaim => exact next_keeps hp (law.applyFront (fun e s _ => law.less (trainClaimBody_holdsLess e s)) hp) h
  | applyTrainTail => exact next_keeps hp (law.applyFront (fun e s _ => law.less (trainTailBody_holdsLess e s)) hp) h
  | busIdleReturn =>
    refine next_keeps hp ?_ h
    unfold busIdleReturn
    split
    · exact law.less (busToIdle_holdsLess s) hp
    · exact hp
  | lineFallWithoutOpen =>
    refine next_keeps hp ?_ h
    unfold lineFallWithoutOpen
    split
    · exact law.congr hp rfl rfl rfl
    · exact hp

theorem step (law : QueueLaw P Room) (hreset : ∀ s : State, s.tx.entries = [] → s.apply.rx = [] →
    s.link.sending = none → P s) (s t : State) (hp : P s) (h : step s = .next t) : P t := by
  unfold Machine.step at h
  split at h
  · rename_i i rest _
    exact law.exec hreset i { s with pending := rest } t (law.congr hp rfl rfl rfl) h
  · exact next_keeps hp (law.less (clockCycle_holdsLess s) hp) h

end QueueLaw
end Sys2Proof.Machine
end

/-! # The bounds of the queues and the keys of internal frames (R39, R40, R123, R124) -/

section
namespace Sys2Proof.Machine

open Sys2Proof (Byte BusFrame FrameEnd TryEnd Instr)

/-! ## The places held, counted over identities -/

theorem length_filter_identity (p : TxFrame × Option Nat → Bool) (es : List TxEntry) :
    (es.filter (fun e => p e.identity)).length = ((es.map TxEntry.identity).filter p).length := by
  rw [List.filter_map, List.length_map]; rfl

theorem boundHeld_eq (s : State) : boundHeld s =
    ((s.tx.entries.map TxEntry.identity).filter (fun i => i.2.isSome)).length +
      (s.apply.rx.filter (fun e => e.own && e.binding.isSome)).length := by
  rw [← length_filter_identity]; rfl

theorem internalHeld_eq (s : State) : internalHeld s =
    ((s.tx.entries.map TxEntry.identity).filter (fun i => i.2.isNone)).length +
      (s.apply.rx.filter (fun e => e.own && e.binding.isNone && !e.kind.isTrain)).length := by
  rw [← length_filter_identity]; rfl

theorem boundHeld_le {s t : State} (h : HoldsLess s t) : boundHeld t ≤ boundHeld s := by
  rw [boundHeld_eq, boundHeld_eq]
  exact Nat.add_le_add (h.entries.filter _).length_le (h.rx.filter _).length_le

theorem internalHeld_le {s t : State} (h : HoldsLess s t) : internalHeld t ≤ internalHeld s := by
  rw [internalHeld_eq, internalHeld_eq]
  exact Nat.add_le_add (h.entries.filter _).length_le (h.rx.filter _).length_le

/-- The entry ON_BUS is one of those that leave with it. -/
theorem length_withoutOnBus {s : State} {e : TxEntry} (he : onBusEntry s = some e) (p : TxEntry → Bool) :
    ((withoutOnBus s).filter p).length + (if p e then 1 else 0) ≤ (s.tx.entries.filter p).length := by
  have hm : e ∈ s.tx.entries := List.mem_of_find?_eq_some he
  have hb : e.onBus = true := by simpa using List.find?_some he
  have hsplit := List.length_eq_length_filter_add (l := s.tx.entries.filter p) (fun x => !x.onBus)
  have hcomm : (withoutOnBus s).filter p = (s.tx.entries.filter p).filter (fun x => !x.onBus) := by
    simp only [withoutOnBus, List.filter_filter, Bool.and_comm]
  rw [hsplit, hcomm]
  refine Nat.add_le_add_left ?_ _
  split
  · rename_i hp
    exact List.length_pos_of_mem (List.mem_filter.mpr ⟨List.mem_filter.mpr ⟨hm, hp⟩, by simp [hb]⟩)
  · exact Nat.zero_le _

/-! ## The bounds (R39, R40, R123) -/

theorem queuesLawful_of_less {s t : State} (h : HoldsLess s t) (hs : QueuesLawful s) : QueuesLawful t := by
  obtain ⟨hrx, hsend, hbound, hint⟩ := hs
  refine ⟨h.rx.length_le.trans hrx, fun ht => ?_, (boundHeld_le h).trans hbound, (internalHeld_le h).trans hint⟩
  rcases h.sending with he | he
  · exact Nat.lt_of_le_of_lt h.rx.length_le (hsend (he ▸ ht))
  · rw [he] at ht; cases ht

/-- One more frame among the entries holds one more place of its sort. -/
theorem boundHeld_enqueue (f : TxFrame) (b : Option Nat) (s : State) :
    boundHeld (enqueue f b s) = boundHeld s + (if b.isSome then 1 else 0) := by
  simp only [boundHeld, enqueue, setEntries, newEntry, List.filter_append, List.filter_cons, List.filter_nil,
    List.length_append]
  cases b <;> simp [Nat.add_right_comm]

theorem internalHeld_enqueue (f : TxFrame) (b : Option Nat) (s : State) :
    internalHeld (enqueue f b s) = internalHeld s + (if b.isNone then 1 else 0) := by
  simp only [internalHeld, enqueue, setEntries, newEntry, List.filter_append, List.filter_cons, List.filter_nil,
    List.length_append]
  cases b <;> simp [Nat.add_right_comm]

/-- What a change of the queues means for the places held, when one frame more stands in the receive queue. -/
theorem boundHeld_append {s t : State} {es : List TxEntry} {r : RxEntry}
    (ht : t.tx.entries.map TxEntry.identity = es.map TxEntry.identity) (ha : t.apply.rx = s.apply.rx ++ [r]) :
    boundHeld t = (es.filter (·.binding.isSome)).length +
      (s.apply.rx.filter (fun e => e.own && e.binding.isSome)).length +
      (if r.own && r.binding.isSome then 1 else 0) := by
  rw [boundHeld_eq, ht, ha, ← length_filter_identity, List.filter_append, List.length_append, Nat.add_assoc]
  congr 2
  rw [List.filter_cons]; split <;> rfl

theorem internalHeld_append {s t : State} {es : List TxEntry} {r : RxEntry}
    (ht : t.tx.entries.map TxEntry.identity = es.map TxEntry.identity) (ha : t.apply.rx = s.apply.rx ++ [r]) :
    internalHeld t = (es.filter (·.binding.isNone)).length +
      (s.apply.rx.filter (fun e => e.own && e.binding.isNone && !e.kind.isTrain)).length +
      (if r.own && r.binding.isNone && !r.kind.isTrain then 1 else 0) := by
  rw [internalHeld_eq, ht, ha, ← length_filter_identity, List.filter_append, List.length_append, Nat.add_assoc]
  congr 2
  rw [List.filter_cons]; split <;> rfl

/-- The bounds of the queues are a law of the queues; a bound frame needs a free bound place. -/
theorem queuesLaw : QueueLaw QueuesLawful (fun s => boundHeld s < Config.boundPlaces) where
  less := queuesLawful_of_less
  roomLess := fun h hs => Nat.lt_of_le_of_lt (boundHeld_le h) hs
  internal := fun s f hs => by
    obtain ⟨hrx, hsend, hbound, hint⟩ := hs
    unfold queueInternal
    split
    · exact ⟨hrx, hsend, hbound, hint⟩
    · rename_i h
      have hroom := Nat.lt_of_not_le (not_or.mp h).2
      refine ⟨hrx, hsend, ?_, ?_⟩
      · rw [boundHeld_enqueue]; exact hbound
      · rw [internalHeld_enqueue]; exact hroom
  bound := fun {s} f n hroom hs => by
    obtain ⟨hrx, hsend, _, hint⟩ := hs
    refine ⟨hrx, hsend, ?_, ?_⟩
    · rw [boundHeld_enqueue]; exact hroom
    · rw [internalHeld_enqueue]; exact hint
  roomOf := id
  applied := fun {s e rest} hrx ho hb hs => by
    obtain ⟨_, _, hbound, _⟩ := hs
    refine Nat.lt_of_lt_of_le ?_ hbound
    simp [boundHeld, hrx, ho, hb]
  accepted := fun {s t e r} he hsd ho hb hk ht ha hl hs => by
    obtain ⟨_, hsend, hbound, hint⟩ := hs
    have hlen := hsend hsd
    refine ⟨by rw [ha]; simpa using hlen, by simp [hl], ?_, ?_⟩
    · have h1 := length_withoutOnBus he (·.binding.isSome)
      rw [boundHeld_append ht ha]
      simp only [ho, hb, Bool.true_and]
      unfold boundHeld at hbound
      omega
    · have h1 := length_withoutOnBus he (·.binding.isNone)
      rw [internalHeld_append ht ha]
      simp only [ho, hb, hk, Bool.true_and, Bool.not_false, Bool.and_true]
      unfold internalHeld at hint
      omega
  acceptedTrain := fun {s t r} hsd hb hk ht ha hl hs => by
    obtain ⟨_, hsend, hbound, hint⟩ := hs
    have hlen := hsend hsd
    refine ⟨by rw [ha]; simpa using hlen, by simp [hl], ?_, ?_⟩
    · rw [boundHeld_append ht ha, hb]; simpa [boundHeld] using hbound
    · rw [internalHeld_append ht ha, hk]; simpa [internalHeld] using hint
  sent := fun {s t} hroom ht ha hs => by
    obtain ⟨hrx, _, hbound, hint⟩ := hs
    refine ⟨ha ▸ hrx, fun _ => ha ▸ hroom, ?_, ?_⟩
    · rwa [boundHeld_eq, ht, ha, ← boundHeld_eq]
    · rwa [internalHeld_eq, ht, ha, ← internalHeld_eq]
  received := fun {s t r} hroom _ ho ht ha hl hs => by
    obtain ⟨_, _, hbound, hint⟩ := hs
    refine ⟨by rw [ha]; simpa using hroom, by simp [hl], ?_, ?_⟩
    · rw [boundHeld_append (congrArg _ ht) ha, ho]; simpa [boundHeld] using hbound
    · rw [internalHeld_append (congrArg _ ht) ha, ho]; simpa [internalHeld] using hint

/-! ## The keys (R124) -/

/-- The frames of the internal entries, oldest first. -/
def internalFrames (ids : List (TxFrame × Option Nat)) : List TxFrame :=
  (ids.filter (fun i => i.2.isNone)).map (·.1)

theorem keysLawful_iff (s : State) : KeysLawful s ↔
    (internalFrames (s.tx.entries.map TxEntry.identity)).Pairwise (fun f g => TxFrame.sameKey f g = false) := by
  unfold internalFrames
  rw [List.filter_map, List.map_map, List.pairwise_map]
  rfl

theorem keysLawful_of_sublist {s t : State}
    (h : (t.tx.entries.map TxEntry.identity).Sublist (s.tx.entries.map TxEntry.identity)) (hs : KeysLawful s) :
    KeysLawful t := by
  rw [keysLawful_iff] at hs ⊢
  exact hs.sublist ((h.filter _).map _)

/-- A key that is not present is the key of no internal entry (R124). -/
theorem keysLawful_queueInternal (s : State) (f : TxFrame) (hs : KeysLawful s) : KeysLawful (queueInternal s f) := by
  unfold queueInternal
  split
  · exact hs
  · rename_i h
    have hkey : ∀ e ∈ s.tx.entries, e.frame.sameKey f = false := by
      have hn := (not_or.mp h).1
      simp only [keyPresent, Bool.or_eq_true, not_or, Bool.not_eq_true, List.any_eq_false] at hn
      exact fun e he => by simpa using hn.1 e he
    unfold KeysLawful at hs ⊢
    simp only [enqueue, setEntries, List.filter_append]
    refine List.pairwise_append.mpr ⟨hs, by simp [newEntry], fun a ha b hb => ?_⟩
    obtain rfl : b = newEntry f none := by simpa [newEntry] using hb
    exact hkey a (List.mem_of_mem_filter ha)

/-- The distinct keys are a law of the queues, with no room asked for. -/
theorem keysLaw : QueueLaw KeysLawful (fun _ => True) where
  less := fun h hs => keysLawful_of_sublist h.entries hs
  roomLess := fun _ _ => trivial
  internal := keysLawful_queueInternal
  bound := fun {s} f n _ hs => by
    unfold KeysLawful at hs ⊢
    simpa [enqueue, setEntries, newEntry] using hs
  roomOf := fun _ => trivial
  applied := fun _ _ _ _ => trivial
  accepted := fun _ _ _ _ _ ht _ _ hs => by
    refine keysLawful_of_sublist ?_ hs
    rw [ht]
    exact map_identity_filter _ _
  acceptedTrain := fun _ _ _ ht _ _ hs => keysLawful_of_sublist (by rw [ht]) hs
  sent := fun _ ht _ hs => keysLawful_of_sublist (by rw [ht]) hs
  received := fun _ _ _ ht _ _ hs => keysLawful_of_sublist (by rw [ht]) hs

theorem queuesLawful_of_empty {s : State} (ht : s.tx.entries = []) (ha : s.apply.rx = [])
    (hl : s.link.sending = none) : QueuesLawful s := by
  simp [QueuesLawful, boundHeld, internalHeld, ht, ha, hl]

/-- Settles O55: both parts are laws of the queues, which every step keeps. -/
theorem stepKeepsFrameQueues : Obligations.StepKeepsFrameQueues := by
  exact ⟨queuesLaw.step (fun _ ht ha hl => queuesLawful_of_empty ht ha hl),
    keysLaw.step (fun _ ht _ _ => by simp [KeysLawful, ht])⟩

end Sys2Proof.Machine
end

/-! # What a step does to the station state, the lines and the runs (R42, R86, R101, R136, R137, R152 to R156)

An operation leaves the station on the bus with nothing more sent and no run higher (`OnBus`), or takes it off the bus
(`Gone`). The few that send or count are looked at one by one. -/

section
namespace Sys2Proof.Machine

open Sys2Proof (Byte BusFrame FrameEnd TryEnd Instr)

/-! ## On the bus, or gone from it -/

/-- The station is off the bus, in a state that does not receive. -/
def Gone (t : State) : Prop := t.station.state.receives = false ∧ OffTheBus t

/-- A station that sends goes on sending, one that receives goes on receiving; nothing more is sent, and no run is
higher. -/
structure OnBus (s t : State) : Prop where
  receives : s.station.state.receives = true → t.station.state.receives = true
  sends : s.station.state.sends = true → t.station.state.sends = true
  sending : t.link.sending.isSome = true → s.link.sending.isSome = true
  vetoRun : t.link.vetoRun ≤ s.link.vetoRun
  unheardRun : t.link.unheardRun ≤ s.link.unheardRun
  clashRun : t.link.clashRun ≤ s.link.clashRun

/-- As `OnBus`, and no claim record changes. -/
structure Aside (s t : State) : Prop extends OnBus s t where
  claims : t.replica.claims = s.replica.claims

/-- `R` holds, or the station has gone off the bus. -/
def Quits (R : State → State → Prop) (s t : State) : Prop := R s t ∨ Gone t

theorem OnBus.of_blocks {s t : State} (hs : t.station = s.station) (hl : t.link = s.link) : OnBus s t :=
  ⟨by rw [hs]; exact id, by rw [hs]; exact id, by rw [hl]; exact id, by rw [hl], by rw [hl], by rw [hl]⟩

theorem Aside.of_blocks {s t : State} (hs : t.station = s.station) (hl : t.link = s.link)
    (hr : t.replica.claims = s.replica.claims) : Aside s t := ⟨.of_blocks hs hl, hr⟩

theorem OnBus.refl (s : State) : OnBus s s := .of_blocks rfl rfl

theorem Aside.refl (s : State) : Aside s s := .of_blocks rfl rfl rfl

theorem OnBus.trans {s t u : State} (h1 : OnBus s t) (h2 : OnBus t u) : OnBus s u where
  receives := h2.receives ∘ h1.receives
  sends := h2.sends ∘ h1.sends
  sending := h1.sending ∘ h2.sending
  vetoRun := h2.vetoRun.trans h1.vetoRun
  unheardRun := h2.unheardRun.trans h1.unheardRun
  clashRun := h2.clashRun.trans h1.clashRun

theorem Aside.trans {s t u : State} (h1 : Aside s t) (h2 : Aside t u) : Aside s u :=
  ⟨h1.toOnBus.trans h2.toOnBus, h2.claims.trans h1.claims⟩

theorem OnBus.ite {p : Prop} [Decidable p] {s t u : State} (ht : OnBus s t) (hu : OnBus s u) :
    OnBus s (if p then t else u) := by
  split
  · exact ht
  · exact hu

theorem Aside.ite {p : Prop} [Decidable p] {s t u : State} (ht : Aside s t) (hu : Aside s u) :
    Aside s (if p then t else u) := by
  split
  · exact ht
  · exact hu

theorem Quits.ite {R : State → State → Prop} {p : Prop} [Decidable p] {s t u : State} (ht : Quits R s t)
    (hu : Quits R s u) : Quits R s (if p then t else u) := by
  split
  · exact ht
  · exact hu

/-- What goes on from a state that stands aside quits as from the state before. -/
theorem Quits.after {s t u : State} (h2 : Quits Aside t u) (h1 : Aside s t) : Quits Aside s u :=
  h2.imp_left h1.trans

theorem Quits.afterOnBus {s t u : State} (h2 : Quits OnBus t u) (h1 : OnBus s t) : Quits OnBus s u :=
  h2.imp_left h1.trans

theorem Quits.onBus {s t : State} (h : Quits Aside s t) : Quits OnBus s t := h.imp_left Aside.toOnBus

theorem foldl_onBus {α : Type} {f : State → α → State} (hf : ∀ s a, OnBus s (f s a)) (l : List α) (s : State) :
    OnBus s (l.foldl f s) :=
  foldl_preserves (P := OnBus s) (fun t a h => h.trans (hf t a)) l (.refl s)

theorem foldl_aside {α : Type} {f : State → α → State} (hf : ∀ s a, Aside s (f s a)) (l : List α) (s : State) :
    Aside s (l.foldl f s) :=
  foldl_preserves (P := Aside s) (fun t a h => h.trans (hf t a)) l (.refl s)

theorem receives_of_sends {st : StationState} (h : st.sends = true) : st.receives = true := by
  cases st <;> first | rfl | cases h

theorem sends_false_of_not_receives {st : StationState} (h : st.receives = false) : st.sends = false := by
  cases st <;> first | rfl | cases h

/-- A move to a state that sends. -/
theorem moveTo_aside {st : StationState} (hst : st.sends = true) (cause : StateCause) (s : State) :
    Aside s (moveTo st cause s) :=
  ⟨⟨fun _ => by simpa using receives_of_sends hst, fun _ => by simpa using hst, by simp, by simp, by simp, by simp⟩,
    by simp⟩

/-! ## Off the bus -/

/-- A move to a state that does not receive, once the bus has been left. -/
theorem gone_moveTo {st : StationState} (hst : st.receives = false) (cause : StateCause) {s : State}
    (h : OffTheBus s) : Gone (moveTo st cause s) := by
  obtain ⟨hr, ha, ht, htx, hl, hw, hsi, hp, hro, hli, hc, hd, hn⟩ := h
  have hdis : (moveTo st cause s).station.disagree = s.station.disagree := by
    simp [moveTo, postState, setState]
  have htags : NoTags (moveTo st cause s) := fun n hlt => by simpa [tagAt] using hn n hlt
  refine ⟨by simpa using hst, ?_⟩
  simp only [OffTheBus, moveTo_replica, moveTo_apply, moveTo_train, moveTo_tx, moveTo_link, moveTo_watch]
  exact ⟨hr, ha, ht, htx, hl, hw, hsi, hp, hro, hli, hc, hdis.trans hd, htags⟩

/-- What leaving the bus empties, when no tag is in use. -/
theorem offTheBus_leaveBus {s : State} (h : NoTags s) : OffTheBus (leaveBus s) :=
  ⟨rfl, rfl, rfl, rfl, rfl, rfl, rfl, rfl, rfl, rfl, rfl, rfl, h⟩

theorem sideline_gone (cause : StateCause) (s : State) : Gone (sideline cause s) := by
  have h := offTheBus_leaveBus (endTags_noTags .sidelined s)
  unfold sideline
  generalize leaveBus (endTags .sidelined s) = u at h ⊢
  exact gone_moveTo rfl cause (s := { u with station.attempts := 0, watch.rest := some 0 }) h

theorem halt_gone (cause : StateCause) (s : State) : Gone (halt cause s) :=
  gone_moveTo rfl cause (offTheBus_leaveBus (endTags_noTags .sidelined s))

theorem departureEnds_gone (s : State) : Gone (departureEnds s) := by
  have h := offTheBus_leaveBus (endTags_noTags .left s)
  unfold departureEnds
  generalize leaveBus (endTags .left s) = u at h ⊢
  exact gone_moveTo rfl .left (s := { u with station.attempts := 0 }) h

theorem noTags_of_empty {s : State} (h : s.tags = []) : NoTags s := fun n _ => by
  simp [tagAt, h, Table.get, Tag.free]

theorem takeRestart_gone (fs : List Byte) (s : State) : Gone (takeRestart fs s) := by
  unfold takeRestart
  exact gone_moveTo rfl .restart ⟨rfl, rfl, rfl, rfl, rfl, rfl, rfl, rfl, rfl, rfl, rfl, rfl, noTags_of_empty rfl⟩

/-! ## Entering -/

theorem enterEntering_aside (cause : StateCause) (s : State) : Aside s (enterEntering cause s) := by
  have hst : (enterEntering cause s).station.state = .entering := by simp [enterEntering, postState, setState]
  have hl : (enterEntering cause s).link = s.link := by simp [enterEntering]
  exact ⟨⟨fun _ => by rw [hst]; rfl, fun _ => by rw [hst]; rfl, by rw [hl]; exact id, by rw [hl], by rw [hl],
    by rw [hl]⟩, by simp⟩

theorem enterAfresh_aside (cause : StateCause) (s : State) : Aside s (enterAfresh cause s) := by
  have h1 : Aside s { s with station.attempts := 1 } := ⟨⟨id, id, id, le_rfl, le_rfl, le_rfl⟩, rfl⟩
  unfold enterAfresh
  exact h1.trans (enterEntering_aside cause _)

theorem nextAttempt_quits (cause : StateCause) (s : State) : Quits Aside s (nextAttempt cause s) := by
  have h1 : Aside s { s with station.attempts := s.station.attempts + 1 } :=
    ⟨⟨id, id, id, le_rfl, le_rfl, le_rfl⟩, rfl⟩
  unfold nextAttempt
  exact .ite (.inl (h1.trans (enterEntering_aside cause _))) (.inr (halt_gone .noCopy s))

theorem forgetIfSilent_aside (s : State) (d : Nat) : Aside s (forgetIfSilent s d) := by
  unfold forgetIfSilent
  exact .ite (.of_blocks (by simp) (by simp) (by simp)) (.refl s)

theorem copyWaitExpires_quits (s : State) : Quits Aside s (copyWaitExpires s) :=
  (nextAttempt_quits .copyWait _).after (foldl_aside forgetIfSilent_aside _ s)

/-! ## The end of a run (R68, R120, R121) -/

theorem trainReturn_aside (e : TxEntry) (s : State) : Aside s (trainReturn false e s) := by
  unfold trainReturn
  extract_lets train s1
  exact .ite (.of_blocks rfl rfl rfl) (by rw [if_neg (by simp)]; exact .of_blocks rfl rfl rfl)

theorem trainReturn_quits (counted : Bool) (e : TxEntry) (s : State) : Quits Aside s (trainReturn counted e s) := by
  unfold trainReturn
  extract_lets train s1
  exact .ite (.inl (.of_blocks rfl rfl rfl)) (.ite (.inr (sideline_gone _ _)) (.inl (.of_blocks rfl rfl rfl)))

theorem busToIdle_quits (s : State) : Quits Aside s (busToIdle s) := by
  have h1 : Aside s (idleBus s) := ⟨⟨id, id, id, le_rfl, le_rfl, le_rfl⟩, rfl⟩
  unfold busToIdle returnHead
  refine Quits.after ?_ h1
  split
  · exact .ite (trainReturn_quits _ _ _) (.inl (.refl _))
  · exact .inl (.refl _)

theorem discardCopy_quits (s : State) : Quits OnBus s (discardCopy s) := by
  have hst : OnBus s (stopLoading s) := ⟨id, id, id, le_rfl, le_rfl, le_rfl⟩
  have hc : OnBus s (clearTable (stopLoading s)) := hst.trans (.of_blocks (by simp) (by simp))
  unfold discardCopy
  dsimp only
  split
  · exact .ite ((copyWaitExpires_quits _).onBus.afterOnBus hc) (.inl hc)
  · have he : OnBus (clearTable (stopLoading s)) (endTags .copy (clearTable (stopLoading s))) :=
      .of_blocks (by simp) (by simp)
    exact .inl ((hc.trans he).trans (enterAfresh_aside .copy _).toOnBus)
  all_goals exact .inl hc

theorem settleRun_quits (s : State) : Quits OnBus s (settleRun s) := by
  have h1 : OnBus s { s with train.run := .none } := .of_blocks rfl rfl
  unfold settleRun endRun
  exact .ite (.ite ((discardCopy_quits _).afterOnBus h1) (.inl h1)) (.inl (.refl s))

theorem settleRun_of_run_ne {s : State} (h : s.train.run ≠ .ended) : settleRun s = s := if_neg (by simp [h])

/-! ## Time (chapter 4) -/

theorem latchIfWarned_aside (before s : State) (c : Nat) : Aside s (latchIfWarned before s c) := by
  unfold latchIfWarned
  (repeat' split) <;> exact .of_blocks rfl rfl rfl

theorem postPendingWarns_aside (s : State) : Aside s (postPendingWarns s) := .of_blocks (by simp) (by simp) (by simp)

theorem tick_aside (s : State) : Aside s (tick s) := by
  have h1 : Aside s (tickTimers { s with watch.tickCount := 0 }) := .of_blocks rfl rfl rfl
  have h2 : ∀ u : State, Aside u (tickLeases (tickSilence u)) := fun u => by
    have h3 : Aside u { tickSilence u with
        watch.watches := Table.map none (tickWatch (tickSilence u)) (tickSilence u).watch.watches } :=
      .of_blocks rfl rfl rfl
    unfold tickLeases
    exact (h3.trans (foldl_aside (latchIfWarned_aside (tickSilence u)) _ _)).trans (postPendingWarns_aside _)
  unfold tick
  exact .ite h1 (h1.trans (h2 _))

theorem countIdle_aside (cycles : Nat) (s : State) : Aside s (countIdle cycles s) := by
  unfold countIdle
  exact .ite ⟨⟨id, id, id, le_rfl, le_rfl, le_rfl⟩, rfl⟩ (.refl s)

theorem clockCycle_aside (s : State) : Aside s (clockCycle s) := by
  have h1 := countIdle_aside 1 s
  unfold clockCycle
  generalize countIdle 1 s = u at h1 ⊢
  exact .ite (h1.trans (tick_aside u)) (h1.trans (.of_blocks rfl rfl rfl))

theorem fillOwed_aside (s : State) : Aside s (fillOwed s) := .of_blocks (by simp) (by simp) (by simp)

theorem restTimerExpiry_aside (s : State) : Aside s (restTimerExpiry s) := by
  unfold restTimerExpiry
  split
  · rename_i h
    have hs : s.station.state.sends = false := by rw [h.1]; rfl
    have hr : s.station.state.receives = false := by rw [h.1]; rfl
    exact ⟨⟨(fun h => by rw [hr] at h; cases h), (fun h => by rw [hs] at h; cases h), by simp, by simp, by simp, by simp⟩,
      by simp⟩
  · exact .refl s

/-! ## The end of a frame -/

theorem endFrame_quits (e : FrameEnd) (s : State) : Quits Aside s (endFrame e s) := by
  cases e with
  | close => exact busToIdle_quits s
  | relink => exact .inl ⟨⟨id, id, id, le_rfl, le_rfl, le_rfl⟩, rfl⟩
  | noEnd => exact .inl ⟨⟨id, id, id, le_rfl, le_rfl, le_rfl⟩, rfl⟩

theorem afterEnd_quits (e : TryEnd) (s : State) : Quits Aside s (afterEnd e s) := by
  cases e with
  | frameEnd ending => exact endFrame_quits ending s
  | stalled linesHigh => exact .ite (busToIdle_quits s) (.inl ⟨⟨id, id, id, le_rfl, le_rfl, le_rfl⟩, rfl⟩)
  | broken rise => exact .ite (busToIdle_quits s) (.inl ⟨⟨id, id, id, le_rfl, le_rfl, le_rfl⟩, rfl⟩)

theorem afterOwn_quits (e : TryEnd) (s : State) : Quits Aside s (afterOwn e s) :=
  .ite (busToIdle_quits s) (afterEnd_quits e s)

/-! ## The transmit queue -/

theorem endIfUsed_aside (n : Nat) (m : Notice) (s : State) : Aside s (endIfUsed n m s) := by
  unfold endIfUsed
  exact .ite (.of_blocks (by simp) (by simp) (by simp)) (.refl s)

theorem tooLateIfHeld_aside (n : Nat) (s : State) : Aside s (tooLateIfHeld n s) := by
  unfold tooLateIfHeld
  exact .ite (.of_blocks (by simp) (by simp) (by simp)) (.refl s)

theorem clearExtend_aside (n : Nat) (s : State) : Aside s (clearExtend n s) := .of_blocks rfl rfl rfl

theorem setTag_aside (n : Nat) (v : Tag) (s : State) : Aside s (setTag n v s) := .of_blocks rfl rfl rfl

theorem queueInternal_aside (f : TxFrame) (s : State) : Aside s (queueInternal s f) :=
  .of_blocks (by simp) (by simp) (by simp)

theorem withdrawIfStale_aside (s : State) (e : TxEntry) : Aside s (withdrawIfStale s e) := by
  have h1 : Aside s (setEntries (s.tx.entries.filter (fun x => x != e)) s) := .of_blocks rfl rfl rfl
  unfold withdrawIfStale staleEffect
  refine .ite (h1.trans ?_) (.refl s)
  split
  · exact endIfUsed_aside _ _ _
  · exact tooLateIfHeld_aside _ _
  · exact .ite (clearExtend_aside _ _) (.refl _)
  · exact .refl _

theorem revalidate_aside (s : State) : Aside s (revalidate s) := foldl_aside withdrawIfStale_aside _ s

theorem limitEffect_aside (f : TxFrame) (binding : Option Nat) (s : State) : Aside s (limitEffect f binding s) := by
  unfold limitEffect
  split
  · split
    · exact endIfUsed_aside _ _ s
    · exact .ite (setTag_aside _ _ s) (.refl s)
    · exact .ite (setTag_aside _ _ s) (tooLateIfHeld_aside _ s)
    · exact .ite (clearExtend_aside _ s) (.refl s)
    · exact .refl s
  · split
    · exact .ite (queueInternal_aside _ s) (.refl s)
    · exact .ite (queueInternal_aside _ s) (.refl s)
    · exact .refl s

theorem returnEntry_aside (counted : Bool) (e : TxEntry) (s : State) : Aside s (returnEntry counted e s) := by
  have hr : Aside s (readyAgain counted s) := .of_blocks rfl rfl rfl
  have hw : Aside s (setEntries (withoutOnBus s) s) := .of_blocks rfl rfl rfl
  unfold returnEntry
  refine .ite (.ite (.of_blocks rfl rfl rfl) (trainReturn_aside e s)) (.ite hw ?_)
  split
  · exact hr.trans (.of_blocks (by simp) (by simp) (by simp))
  · refine .ite ?_ hr
    have hp : Aside (setEntries (withoutOnBus s) s)
        (postUnreserved (.sendFailed e.frame.kind e.frame.detail) (setEntries (withoutOnBus s) s)) :=
      .of_blocks (by simp) (by simp) (by simp)
    unfold atLimit
    exact (hw.trans hp).trans (limitEffect_aside _ _ _)

theorem notSending_aside (s : State) : Aside s { s with link.sending := none } :=
  ⟨⟨id, id, (fun h => by cases h), le_rfl, le_rfl, le_rfl⟩, rfl⟩

theorem returnTry_aside (counted : Bool) (s : State) : Aside s (returnTry counted s) := by
  unfold returnTry
  split
  · exact (notSending_aside s).trans (returnEntry_aside counted _ _)
  · exact notSending_aside s

theorem returnTry_notSending (counted : Bool) (s : State) : (returnTry counted s).link.sending.isSome = false := by
  unfold returnTry
  split
  · have h := (returnEntry_aside counted ‹_› { s with link.sending := none }).sending
    exact Bool.eq_false_iff.mpr fun hs => by cases h hs
  · rfl

/-! ## Acceptance by the sender -/

theorem acceptSingle_quits (o : OwnFrame) (e : TxEntry) (ending : TryEnd) (s : State) :
    Quits Aside s (acceptSingle o e ending s) := by
  unfold acceptSingle
  extract_lets src link s1 s2
  have h1 : Aside s s1 := ⟨⟨id, id, (fun h => by cases h), le_rfl, le_rfl, le_rfl⟩, rfl⟩
  have h2 : Aside s s2 := ⟨⟨id, id, (fun h => by cases h), le_rfl, le_rfl, le_rfl⟩, rfl⟩
  refine .ite ((afterOwn_quits ending s1).after h1) ((afterOwn_quits ending _).after ?_)
  exact h2.trans (.of_blocks rfl rfl rfl)

theorem acceptTrain_quits (o : OwnFrame) (ending : TryEnd) (s : State) (hs : s.link.sending.isSome = true) :
    Quits Aside s (acceptTrain o ending s) := by
  unfold acceptTrain
  extract_lets link s1
  have h1 : Aside s s1 := ⟨⟨id, id, (fun h => by cases h), le_rfl, le_rfl, le_rfl⟩, rfl⟩
  refine .ite ((afterOwn_quits ending _).after (h1.trans (.of_blocks rfl rfl rfl))) ?_
  split
  · exact .inl ⟨⟨id, id, fun _ => hs, le_rfl, le_rfl, le_rfl⟩, rfl⟩
  · exact (afterOwn_quits ending _).after (h1.trans (.of_blocks rfl rfl rfl))

theorem acceptTry_quits (o : OwnFrame) (ending : TryEnd) (s : State) (hs : s.link.sending.isSome = true) :
    Quits Aside s (acceptTry o ending s) := by
  unfold acceptTry
  split
  · exact .ite (acceptTrain_quits o ending s hs) (acceptSingle_quits o _ ending s)
  · exact (afterOwn_quits ending _).after (notSending_aside s)

end Sys2Proof.Machine
end

/-! # Every step keeps the sending states, the run limits and the quiet of a station off the bus -/

section
namespace Sys2Proof.Machine

open Sys2Proof (Byte BusFrame FrameEnd TryEnd Instr)

/-! ## Commands and the host port's bytes (chapters 9 and 10) -/

theorem deny_aside (c : Command) (r : DenyReason) (s : State) : Aside s (deny c r s) := .of_blocks rfl rfl rfl

theorem takeSetup_aside (fs : List Byte) (s : State) : Aside s (takeSetup fs s) := by
  unfold takeSetup
  exact .ite (deny_aside _ _ s) (.ite (deny_aside _ _ s)
    (.ite (deny_aside _ _ s) ⟨⟨id, id, id, le_rfl, le_rfl, le_rfl⟩, rfl⟩))

theorem takeGo_aside (fs : List Byte) (s : State) : Aside s (takeGo fs s) := by
  unfold takeGo
  split
  · exact deny_aside _ _ s
  · rename_i h
    have hl : s.station.state = .localState := not_not.mp h
    have hs : s.station.state.sends = false := by rw [hl]; rfl
    have hr : s.station.state.receives = false := by rw [hl]; rfl
    exact ⟨⟨(fun h => by rw [hr] at h; cases h), (fun h => by rw [hs] at h; cases h), by simp, by simp, by simp, by simp⟩,
      by simp⟩

theorem takeLeave_aside (fs : List Byte) (s : State) : Aside s (takeLeave fs s) := by
  unfold takeLeave
  refine .ite (deny_aside _ _ s) ?_
  refine Aside.trans ?_ (moveTo_aside rfl _ _)
  exact .of_blocks (by simp) (by simp) (by simp)

theorem takeMask_aside (fs : List Byte) (s : State) : Aside s (takeMask fs s) := by
  unfold takeMask
  exact .ite (deny_aside _ _ s) (.of_blocks rfl rfl rfl)

theorem takeQuery_aside (fs : List Byte) (s : State) : Aside s (takeQuery fs s) := by
  unfold takeQuery
  exact .ite (deny_aside _ _ s) (.of_blocks rfl rfl rfl)

theorem takeAcquire_aside (fs : List Byte) (s : State) : Aside s (takeAcquire fs s) := by
  unfold takeAcquire
  extract_lets n q lease claim l taken
  exact .ite (deny_aside _ _ s) (.ite (deny_aside _ _ s) (.ite (deny_aside _ _ s)
    (.ite (.of_blocks (by simp [taken]) (by simp [taken]) (by simp [taken])) (.of_blocks rfl rfl rfl))))

theorem onTag_aside (c : Command) (n : Nat) (inRange : Bool) {act : State → State} {s : State} (ha : Aside s (act s)) :
    Aside s (onTag c n inRange act s) := by
  unfold onTag
  exact .ite (deny_aside _ _ s) (.ite (deny_aside _ _ s) (.ite (deny_aside _ _ s) ha))

theorem takeRelease_aside (fs : List Byte) (s : State) : Aside s (takeRelease fs s) := by
  unfold takeRelease
  exact onTag_aside _ _ _ (.ite (deny_aside _ _ s) (.of_blocks rfl rfl rfl))

theorem takeExtend_aside (fs : List Byte) (s : State) : Aside s (takeExtend fs s) := by
  unfold takeExtend
  exact onTag_aside _ _ _ (.ite (deny_aside _ _ s) (.of_blocks rfl rfl rfl))

theorem takeCancel_aside (fs : List Byte) (s : State) : Aside s (takeCancel fs s) := by
  unfold takeCancel
  refine onTag_aside _ _ _ ?_
  split
  · exact .ite (deny_aside _ _ s) (.ite (.of_blocks (by simp) (by simp) (by simp)) (.of_blocks rfl rfl rfl))
  · exact .of_blocks rfl rfl rfl
  · exact deny_aside _ _ s

theorem takeCommand_aside {c : Command} {body : List Byte → State → State} (hb : ∀ fs s, Aside s (body fs s))
    (s : State) : Aside s (takeCommand c body s) := by
  have h1 : Aside s { s with port.assembler := [], port.age := 0 } := .of_blocks rfl rfl rfl
  unfold takeCommand
  exact .ite (h1.trans (hb _ _)) (.refl s)

theorem expireAssembly_aside (s : State) : Aside s (expireAssembly s) := by
  unfold expireAssembly
  exact .ite (.of_blocks (by simp [clearAssembler]) (by simp [clearAssembler]) (by simp [clearAssembler])) (.refl s)

theorem latchByte_aside (b : Byte) (s : State) : Aside s (latchByte b s) := by
  have hp : ∀ m, Aside s (postUnreserved m s) := fun m => .of_blocks (by simp) (by simp) (by simp)
  unfold latchByte
  exact .ite (hp _) (.ite (.ite (.of_blocks rfl rfl rfl) (hp _)) (.of_blocks rfl rfl rfl))

theorem writeByte_aside (b : Byte) (selected readLow : Bool) (s : State) : Aside s (writeByte b selected readLow s) := by
  unfold writeByte
  extract_lets port s1
  have h1 : Aside s s1 := .of_blocks rfl rfl rfl
  exact .ite (h1.trans ((expireAssembly_aside s1).trans (latchByte_aside b _))) h1

theorem readNext_aside (r : Reading) (s : State) : Aside s (readNext r s) := by
  unfold readNext finishReading
  dsimp only
  refine .ite (.of_blocks rfl rfl rfl) (.ite ?_ ?_)
  all_goals
    refine Aside.trans ?_ (postPendingWarns_aside _)
    exact .of_blocks rfl rfl rfl

theorem readByte_aside (selected writeLow : Bool) (s : State) : Aside s (readByte selected writeLow s) := by
  unfold readByte consumeByte
  dsimp only
  split
  · split
    · refine Aside.trans ?_ (readNext_aside _ _)
      exact .of_blocks rfl rfl rfl
    · split
      · refine Aside.trans ?_ (readNext_aside _ _)
        exact .of_blocks rfl rfl rfl
      · exact .of_blocks rfl rfl rfl
  · exact .of_blocks rfl rfl rfl

/-! ## The applications (chapters 3 and 6) -/

theorem toAskTag_onBus (e : RxEntry) {act : Nat → State → State} (ha : ∀ n s, OnBus s (act n s)) (s : State) :
    OnBus s (toAskTag e act s) := by
  unfold toAskTag
  split
  · exact .ite (ha _ s) (.refl s)
  · exact .refl s

theorem tagAskGranted_onBus (serial n : Nat) (s : State) : OnBus s (tagAskGranted serial n s) := by
  unfold tagAskGranted
  exact .ite (.of_blocks (by simp) (by simp)) (.of_blocks (by simp) (by simp))

theorem tagAskQueued_onBus (claim position n : Nat) (s : State) : OnBus s (tagAskQueued claim position n s) := by
  unfold tagAskQueued
  exact .ite (.of_blocks (by simp) (by simp)) (.of_blocks (by simp) (by simp))

theorem endTag_onBus (n : Nat) (m : Notice) (s : State) : OnBus s (endTag n m s) := .of_blocks (by simp) (by simp)

theorem askBody_onBus (e : RxEntry) (s : State) : OnBus s (askBody e s) := by
  unfold askBody
  split
  · rename_i a _
    refine .ite ?_ (.refl s)
    unfold askEffect
    split
    · exact toAskTag_onBus e (fun n => endTag_onBus n _) s
    · exact toAskTag_onBus e (fun n => endTag_onBus n _) s
    · exact toAskTag_onBus e (fun n => endTag_onBus n _) s
    · exact toAskTag_onBus e (fun n => endTag_onBus n _) s
    · have hg : OnBus s (grant a.claim ⟨e.sender, a.mode, a.lease⟩ s) := .of_blocks (by simp) (by simp)
      exact hg.trans (toAskTag_onBus e (tagAskGranted_onBus _) _)
    · have hq : OnBus s (appendWaiter a.claim ⟨e.sender, a.mode, a.lease⟩ s) := .of_blocks rfl rfl
      exact hq.trans (toAskTag_onBus e (tagAskQueued_onBus _ _) _)
  · exact .refl s

theorem endTagFor_onBus (c : Nat) (ps : List Phase) (m : Nat → Notice) (s : State) : OnBus s (endTagFor c ps m s) := by
  unfold endTagFor
  split
  · exact endTag_onBus _ _ s
  · exact .refl s

theorem removeAndPromote_onBus (c h : Nat) (s : State) : OnBus s (removeAndPromote c h s) := by
  unfold removeAndPromote
  exact .of_blocks (by simp) (by simp)

theorem yieldBody_onBus (e : RxEntry) (s : State) : OnBus s (yieldBody e s) := by
  unfold yieldBody
  split
  · exact .ite ((removeAndPromote_onBus _ e.sender s).trans (.ite (endTagFor_onBus _ _ _ _) (.refl _))) (.refl s)
  · exact .refl s

theorem lapseBody_onBus (e : RxEntry) (s : State) : OnBus s (lapseBody e s) := by
  unfold lapseBody
  split
  · exact .ite ((removeAndPromote_onBus _ _ s).trans (.ite (endTagFor_onBus _ _ _ _) (.refl _))) (.refl s)
  · exact .refl s

theorem tagExtended_onBus (c l serial : Nat) (s : State) : OnBus s (tagExtended c l serial s) := by
  unfold tagExtended
  split
  · exact .of_blocks (by simp) (by simp)
  · exact .refl s

theorem extendBody_onBus (e : RxEntry) (s : State) : OnBus s (extendBody e s) := by
  have hx : ∀ c l, OnBus s (extendHold c e.sender l s) := fun c l => .of_blocks (by simp) (by simp)
  have hst : OnBus s (staleExtend e s) := by
    unfold staleExtend
    split
    · exact (clearExtend_aside _ s).toOnBus
    · exact .refl s
  unfold extendBody
  split
  · exact .ite (.ite ((hx _ _).trans (.ite (tagExtended_onBus _ _ _ _) (.refl _))) hst) (.refl s)
  · exact .refl s

theorem leaveQueue_onBus (c h : Nat) (s : State) : OnBus s (leaveQueue c h s) := by
  unfold leaveQueue
  exact .ite (.of_blocks (by simp) (by simp)) (.of_blocks rfl rfl)

theorem cancelBody_onBus (e : RxEntry) (s : State) : OnBus s (cancelBody e s) := by
  have hst : OnBus s (staleCancel e s) := by
    unfold staleCancel
    split
    · exact (tooLateIfHeld_aside _ s).toOnBus
    · exact .refl s
  unfold cancelBody
  split
  · exact .ite (.ite ((leaveQueue_onBus _ e.sender s).trans (.ite (endTagFor_onBus _ _ _ _) (.refl _))) hst) (.refl s)
  · exact .refl s

theorem purge_onBus (d : Nat) (s : State) : OnBus s (purge d s) := .of_blocks (by simp) (by simp)

theorem unlist_onBus (d : Nat) (s : State) : OnBus s (unlist d s) := by
  unfold unlist
  exact .of_blocks (by simp) (by simp)

theorem listFresh_onBus (d : Nat) (r : RosterEntry) (s : State) : OnBus s (listFresh d r s) := by
  unfold listFresh
  exact .of_blocks (by simp) (by simp)

theorem dropBody_quits (e : RxEntry) (s : State) : Quits OnBus s (dropBody e s) := by
  unfold dropBody dropShared dropLearned droppedSelf
  split
  · rename_i d _
    dsimp only
    refine .ite (.inl (.refl s)) (.ite (.ite (.inl (.refl s)) ?_) ?_)
    · have hu : OnBus s (unlist d (purge d s)) := (purge_onBus d s).trans (unlist_onBus d _)
      have he : OnBus (unlist d (purge d s)) (endTags .dropped (unlist d (purge d s))) :=
        .of_blocks (by simp) (by simp)
      exact .ite (.ite (.inr (departureEnds_gone _)) (.inl ((hu.trans he).trans (enterAfresh_aside _ _).toOnBus))) (.inl hu)
    · have hu : OnBus s (if rosterAt s d = .absent then s else unlist d s) := .ite (.refl s) (unlist_onBus d s)
      exact .ite ((nextAttempt_quits .dropped _).onBus.afterOnBus hu) (.inl hu)
  · exact .inl (.refl s)

theorem found_onBus (s : State) : OnBus s (found s) := by
  unfold found
  refine OnBus.trans ?_ (moveTo_aside rfl _ _).toOnBus
  exact ⟨id, id, id, le_rfl, le_rfl, le_rfl⟩

theorem joinWait_onBus (s : State) : OnBus s (joinWait s) := by
  unfold joinWait
  refine OnBus.trans ?_ (moveTo_aside rfl _ _).toOnBus
  exact .of_blocks rfl rfl

theorem enterBody_onBus (e : RxEntry) (s : State) : OnBus s (enterBody e s) := by
  unfold enterBody enterShared enterLearned
  extract_lets s1 founds s2
  have hs : OnBus s (if rosterAt s e.sender = .absent then s else unlist e.sender (purge e.sender s)) :=
    .ite (.refl s) ((purge_onBus e.sender s).trans (unlist_onBus e.sender _))
  have h1 : OnBus s s1 := .ite (.refl s) (unlist_onBus e.sender s)
  have h2 : OnBus s s2 := h1.trans (listFresh_onBus _ _ s1)
  exact .ite (hs.trans (listFresh_onBus _ _ _))
    (.ite (.ite (h2.trans (found_onBus s2)) (h2.trans (joinWait_onBus s2))) h2)

theorem learnRoll_onBus (d : Nat) (joining : Bool) (s : State) : OnBus s (learnRoll d joining s) := by
  unfold learnRoll
  split
  · exact listFresh_onBus _ _ s
  · exact listFresh_onBus _ _ s
  · exact .of_blocks rfl rfl
  · exact .refl s

theorem compareRoll_onBus (d : Nat) (dig : BitVec 16) (s : State) : OnBus s (compareRoll d dig s) := by
  have h1 : OnBus s { clearRoster (clearTable s) with station.disagree := 0 } := ⟨id, id, id, le_rfl, le_rfl, le_rfl⟩
  have he : ∀ u : State, OnBus u (endTags .diverged u) := fun u => .of_blocks (by simp) (by simp)
  unfold compareRoll diverge
  exact .ite (((h1.trans (he _)).trans (enterAfresh_aside .diverged _).toOnBus).trans (learnRoll_onBus d false _))
    (.ite ⟨id, id, id, le_rfl, le_rfl, le_rfl⟩ (.refl s))

theorem rollBody_onBus (e : RxEntry) (s : State) : OnBus s (rollBody e s) := by
  unfold rollBody
  split
  · exact .ite (.refl s) (.ite (learnRoll_onBus _ _ s) (.ite (compareRoll_onBus _ _ s) (.refl s)))
  · exact .refl s

theorem trainHeadBody_quits (e : RxEntry) (s : State) : Quits OnBus s (trainHeadBody e s) := by
  unfold trainHeadBody
  split
  · extract_lets loading src s1
    have h1 : OnBus s s1 := .of_blocks rfl rfl
    have hl : ∀ h : HeadFields, OnBus s1 (loadHead h s1) := fun h => ⟨id, id, id, le_rfl, le_rfl, le_rfl⟩
    exact .ite (.inl (h1.trans (hl _))) (.ite ((discardCopy_quits s1).afterOnBus h1) (.inl h1))
  · exact .inl (.refl s)

theorem loadHold_onBus (c : Nat) (s : State) (h : HoldSlot × Nat) : OnBus s (loadHold c s h) := by
  unfold loadHold
  exact .ite (.of_blocks (by simp) (by simp)) (.of_blocks rfl rfl)

theorem trainClaimBody_onBus (e : RxEntry) (s : State) : OnBus s (trainClaimBody e s) := by
  unfold trainClaimBody loadClaim
  split
  · rename_i r f _ _
    extract_lets src s1
    have h1 : OnBus s s1 := .of_blocks rfl rfl
    have h2 : OnBus s1 (setClaim f.claim ⟨f.serial, f.holders.map (·.1), f.waiters⟩ s1) := .of_blocks rfl rfl
    exact .ite ((h1.trans h2).trans (foldl_onBus (loadHold_onBus f.claim) _ _)) h1
  · exact .refl s

theorem commitRoster_onBus (joining : BitVec 32) (s : State) : OnBus s (commitRoster joining s) := by
  unfold commitRoster commitStation
  exact foldl_onBus (fun t d => by split <;> exact .of_blocks rfl rfl) _ s

theorem startLoadedOn_onBus (s : State) (c : Nat) : OnBus s (startLoadedOn s c) := by
  unfold startLoadedOn startLoaded
  exact foldl_onBus (fun _ _ => .of_blocks (by simp) (by simp)) _ s

theorem reconcileTag_onBus (s : State) (n : Nat) : OnBus s (reconcileTag s n) := by
  unfold reconcileTag
  extract_lets stays
  exact .ite (.refl s) (.of_blocks (by simp) (by simp))

theorem loaderReady_onBus (s : State) : OnBus s (loaderReady s) := ⟨id, id, id, le_rfl, le_rfl, le_rfl⟩

theorem loaderCommit_onBus (s : State) : OnBus s (loaderCommit s) := by
  unfold loaderCommit
  split
  · unfold joinCommit
    refine OnBus.trans ?_ (moveTo_aside rfl _ _).toOnBus
    exact (foldl_onBus startLoadedOn_onBus _ s).trans (loaderReady_onBus _)
  · have hd : OnBus (loaderReady s) (supersedeDrops (loaderReady s)) := .of_blocks rfl rfl
    unfold founderCommit
    refine OnBus.trans ?_ (moveTo_aside rfl _ _).toOnBus
    exact ((loaderReady_onBus s).trans hd).trans (foldl_onBus reconcileTag_onBus _ _)
  all_goals exact .refl s

theorem trainTailBody_onBus (e : RxEntry) (s : State) : OnBus s (trainTailBody e s) := by
  unfold trainTailBody
  split
  · rename_i r _
    extract_lets src s1 s2
    have h0 : OnBus s { s with apply.record := none } := .of_blocks rfl rfl
    have h1 : OnBus s s1 := h0.trans (commitRoster_onBus r.joining _)
    have h2 : OnBus s s2 := h1.trans (.ite (.of_blocks rfl rfl) (.refl s1))
    exact .ite (h2.trans (loaderCommit_onBus s2)) h2
  · exact .refl s

theorem commonSteps_onBus (e : RxEntry) (s : State) : OnBus s (commonSteps e s) := by
  unfold commonSteps
  extract_lets s1
  have h1 : OnBus s s1 := .ite (.refl s) (.of_blocks (by simp) (by simp))
  exact .ite (h1.trans (.of_blocks rfl rfl)) h1

/-- A station gone from the bus has no frame to apply. -/
theorem applyEntry_gone {s : State} (h : Gone s) (body : RxEntry → State → State) : applyEntry body s = s := by
  obtain ⟨_, _, ha, _⟩ := h
  unfold applyEntry
  rw [ha]

theorem beforeApply_quits (e : RxEntry) (s : State) : Quits OnBus s (beforeApply e s) := by
  unfold beforeApply
  refine .ite (.inl (.refl s)) ?_
  rcases settleRun_quits s with h | h
  · exact .inl (h.trans (.of_blocks rfl rfl))
  · obtain ⟨hr, hrep, ha, ho⟩ := h
    refine .inr ⟨hr, hrep, ?_, ho⟩
    dsimp only
    rw [ha]

theorem applyFront_quits {k : FrameKind} {body : RxEntry → State → State} (hb : ∀ e s, Quits OnBus s (body e s))
    (s : State) : Quits OnBus s (applyFront k body s) := by
  unfold applyFront
  split
  · exact .inl (.refl s)
  · rename_i e0 _ _
    refine .ite ?_ (.inl (.refl s))
    rcases beforeApply_quits e0 s with h | h
    · generalize beforeApply e0 s = u at h
      unfold applyEntry
      split
      · exact .inl h
      · rename_i e rest _
        have h1 : OnBus u { u with apply.rx := rest } := .of_blocks rfl rfl
        exact (hb _ _).afterOnBus ((h.trans h1).trans (commonSteps_onBus e _))
    · rw [applyEntry_gone h]
      exact .inr h

end Sys2Proof.Machine
end

/-! # The steps that send or count, and every step -/

section
namespace Sys2Proof.Machine

open Sys2Proof (Byte BusFrame FrameEnd TryEnd Instr)

/-! ## Staying on the bus with the claims as they were -/

/-- A station that receives goes on receiving, and no claim record changes. -/
structure Stays (s t : State) : Prop where
  receives : s.station.state.receives = true → t.station.state.receives = true
  claims : t.replica.claims = s.replica.claims

theorem Stays.refl (s : State) : Stays s s := ⟨id, rfl⟩

theorem Stays.trans {s t u : State} (h1 : Stays s t) (h2 : Stays t u) : Stays s u :=
  ⟨h2.receives ∘ h1.receives, h2.claims.trans h1.claims⟩

theorem Aside.stays {s t : State} (h : Aside s t) : Stays s t := ⟨h.receives, h.claims⟩

theorem Quits.stays {s t : State} (h : Quits Aside s t) : Quits Stays s t := h.imp_left Aside.stays

theorem Quits.afterStays {s t u : State} (h2 : Quits Stays t u) (h1 : Stays s t) : Quits Stays s u :=
  h2.imp_left h1.trans

/-- Nothing is sent and no run counts off the bus. -/
theorem Gone.runsLawful {t : State} (h : Gone t) : RunsLawful t := by
  obtain ⟨_, _, _, _, _, hl, _⟩ := h
  simp [RunsLawful, hl, Config.vetoRunLimit, Config.unheardRunLimit, Config.clashRunLimit]

theorem RunsLawful.onBus {s t : State} (hs : RunsLawful s) (h : OnBus s t) : RunsLawful t := by
  obtain ⟨hsend, hv, hu, hc⟩ := hs
  exact ⟨fun ht => h.sends (hsend (h.sending ht)), h.vetoRun.trans_lt hv, h.unheardRun.trans_lt hu,
    h.clashRun.trans_lt hc⟩

theorem RunsLawful.quits {s t : State} (hs : RunsLawful s) (h : Quits OnBus s t) : RunsLawful t :=
  h.elim hs.onBus Gone.runsLawful

theorem RunsLawful.of_link {s t : State} (hs : RunsLawful s) (hst : t.station.state = s.station.state)
    (hsend : t.link.sending = s.link.sending) (hv : t.link.vetoRun = s.link.vetoRun)
    (hu : t.link.unheardRun = s.link.unheardRun) (hc : t.link.clashRun = s.link.clashRun) : RunsLawful t := by
  unfold RunsLawful at hs ⊢
  rwa [hst, hsend, hv, hu, hc]

/-! ## FRAME_RECEIVE -/

theorem slotsOf_quits (f : BusFrame) (otherVeto : Bool) (e : FrameEnd) (s : State) :
    Quits Stays s (slotsOf f otherVeto e s) := by
  unfold slotsOf
  extract_lets link s1
  have h1 : Stays s s1 := ⟨id, rfl⟩
  refine .ite ?_ ?_
  · unfold refuseFrame
    extract_lets link' s2
    have h2 : Stays s s2 := h1.trans ⟨id, rfl⟩
    exact .ite (.inr (sideline_gone _ _)) ((endFrame_quits e s2).stays.afterStays h2)
  · split
    · unfold takeFrame acceptFrame
      refine (endFrame_quits e _).stays.afterStays ?_
      exact h1.trans ⟨id, rfl⟩
    · exact .inl h1

/-- The veto run rises by a counting veto only, and the one that reaches the limit sidelines the station (R152). -/
theorem refuseFrame_runs (counts : Bool) (e : FrameEnd) {s : State} (hs : RunsLawful s) :
    RunsLawful (refuseFrame counts e s) := by
  obtain ⟨hsend, hv, hu, hc⟩ := hs
  unfold refuseFrame
  extract_lets link s1
  split
  · exact (sideline_gone .vetoRun s1).runsLawful
  · rename_i h
    have h1 : RunsLawful s1 := by
      refine ⟨hsend, ?_, hu, hc⟩
      cases counts with
      | true => exact Nat.lt_of_not_le (not_and.mp h rfl)
      | false => exact hv
    exact h1.quits (endFrame_quits e s1).onBus

theorem slotsOf_runs (f : BusFrame) (otherVeto : Bool) (e : FrameEnd) {s : State} (hs : RunsLawful s) :
    RunsLawful (slotsOf f otherVeto e s) := by
  unfold slotsOf
  extract_lets link s1
  have h1 : RunsLawful s1 := hs.of_link rfl rfl rfl rfl rfl
  split
  · exact refuseFrame_runs _ e h1
  · split
    · obtain ⟨hsend, _, hu, hc⟩ := h1
      unfold takeFrame acceptFrame
      refine RunsLawful.quits ?_ (endFrame_quits e _).onBus
      exact ⟨hsend, (by decide : 0 < Config.vetoRunLimit), hu, hc⟩
    · exact h1

/-! ## FRAME_OPEN -/

theorem offer_aside (s : State) : Aside s (offer s) := .of_blocks rfl rfl rfl

theorem pullOffered_stays (s : State) : Stays s (pullOffered s) := by
  unfold pullOffered
  split <;> exact ⟨id, rfl⟩

theorem pullOffered_runs {s : State} (hsend : s.station.state.sends = true) (hs : RunsLawful s) :
    RunsLawful (pullOffered s) := by
  obtain ⟨hs1, hv, hu, hc⟩ := hs
  unfold pullOffered
  split
  · exact ⟨fun _ => hsend, hv, hu, hc⟩
  · exact ⟨hs1, hv, hu, hc⟩

theorem openFrame_stays (pull : Bool) (s : State) : Stays s (openFrame pull s) := by
  have h1 : Stays s (offer (revalidate s)) := ((revalidate_aside s).trans (offer_aside _)).stays
  unfold openFrame
  (repeat' split)
  · exact pullOffered_stays s
  · exact h1.trans (pullOffered_stays _)
  · exact h1
  · exact .refl s

theorem openFrame_runs (pull : Bool) {s : State} (hs : RunsLawful s) : RunsLawful (openFrame pull s) := by
  have h1 : Aside s (offer (revalidate s)) := (revalidate_aside s).trans (offer_aside _)
  unfold openFrame
  split
  · rename_i hm
    have hsend : s.station.state.sends = true := by
      simp only [mayOpen, Bool.and_eq_true] at hm
      exact hm.1.1.1.1.2
    (repeat' split)
    · exact pullOffered_runs hsend hs
    · exact pullOffered_runs (h1.sends hsend) (hs.onBus h1.toOnBus)
    · exact hs.onBus h1.toOnBus
  · exact hs

/-! ## TRY_OUTCOME -/

theorem reportUnheard_of_gone {s : State} (h : Gone s) : reportUnheard s = s := by
  unfold reportUnheard
  rw [if_neg]
  simp [sends_false_of_not_receives h.1]

theorem reportClash_of_gone {s : State} (h : Gone s) : reportClash s = s := by
  unfold reportClash
  rw [if_neg]
  simp [sends_false_of_not_receives h.1]

/-- What happens to a try whose slots were sampled, before its run is reported. -/
theorem trySlots_before_report (o : OwnFrame) (vetoLow heardLow : Bool) (ending : TryEnd) {s : State}
    (hs : s.link.sending.isSome = true) :
    ∃ u, trySlots o vetoLow heardLow ending s = reportUnheard u ∧ Quits Aside (countSlots vetoLow heardLow s) u := by
  refine ⟨_, rfl, .ite (acceptTry_quits o ending _ hs) ?_⟩
  exact (afterOwn_quits ending _).after (returnTry_aside true _)

theorem trySlots_quits (o : OwnFrame) (vetoLow heardLow : Bool) (ending : TryEnd) {s : State}
    (hs : s.link.sending.isSome = true) : Quits Stays s (trySlots o vetoLow heardLow ending s) := by
  obtain ⟨u, hu, hq⟩ := trySlots_before_report o vetoLow heardLow ending hs
  rw [hu]
  rcases hq with h | h
  · have h1 : Stays s u := ⟨h.receives, h.claims⟩
    exact .ite (.inr (sideline_gone _ u)) (.inl h1)
  · rw [reportUnheard_of_gone h]
    exact .inr h

/-- An unheard run that reaches its limit sidelines the station (R153). -/
theorem trySlots_runs (o : OwnFrame) (vetoLow heardLow : Bool) (ending : TryEnd) {s : State}
    (hs : s.link.sending.isSome = true) (hl : RunsLawful s) : RunsLawful (trySlots o vetoLow heardLow ending s) := by
  obtain ⟨hsend, hv, _, _⟩ := hl
  obtain ⟨u, hu, hq⟩ := trySlots_before_report o vetoLow heardLow ending hs
  rw [hu]
  rcases hq with h | h
  · have hsu : u.station.state.sends = true := h.sends (hsend hs)
    unfold reportUnheard
    split
    · exact (sideline_gone _ u).runsLawful
    · rename_i hlim
      exact ⟨fun _ => hsu, h.vetoRun.trans_lt hv, Nat.lt_of_not_le (not_and.mp hlim hsu),
        h.clashRun.trans_lt (by decide : 0 < Config.clashRunLimit)⟩
  · rw [reportUnheard_of_gone h]
    exact h.runsLawful

/-- What happens to a clashed try before its run is reported: the clash run is one higher. -/
theorem tryClashed_before_report (e : FrameEnd) (s : State) :
    ∃ u, tryClashed e s = reportClash u ∧
      Quits Aside { s with
        link.clashRun := s.link.clashRun + 1
        link.chain := false
        link.droveVeto := true
        link.droveHeard := false } u :=
  ⟨_, rfl, (endFrame_quits e _).after (returnTry_aside true _)⟩

theorem tryClashed_quits (e : FrameEnd) (s : State) : Quits Stays s (tryClashed e s) := by
  obtain ⟨u, hu, hq⟩ := tryClashed_before_report e s
  rw [hu]
  rcases hq with h | h
  · have h1 : Stays s u := ⟨h.receives, h.claims⟩
    exact .ite (.inr (halt_gone _ u)) (.inl h1)
  · rw [reportClash_of_gone h]
    exact .inr h

/-- A clash run that reaches its limit halts the station (R154). -/
theorem tryClashed_runs (e : FrameEnd) {s : State} (hs : s.link.sending.isSome = true) (hl : RunsLawful s) :
    RunsLawful (tryClashed e s) := by
  obtain ⟨hsend, hv, hun, _⟩ := hl
  obtain ⟨u, hu, hq⟩ := tryClashed_before_report e s
  rw [hu]
  rcases hq with h | h
  · have hsu : u.station.state.sends = true := h.sends (hsend hs)
    unfold reportClash
    split
    · exact (halt_gone _ u).runsLawful
    · rename_i hlim
      exact ⟨fun _ => hsu, h.vetoRun.trans_lt hv, h.unheardRun.trans_lt hun,
        Nat.lt_of_not_le (not_and.mp hlim hsu)⟩
  · rw [reportClash_of_gone h]
    exact h.runsLawful

theorem tryCut_quits (o : OwnFrame) (vetoLow : Option Bool) (ending : TryEnd) {s : State}
    (hs : s.link.sending.isSome = true) : Quits Aside s (tryCut o vetoLow ending s) := by
  have h1 : Aside s (countTail s) := by
    refine ⟨⟨id, id, id, le_rfl, ?_, Nat.zero_le _⟩, rfl⟩
    simp only [countTail]
    split
    · exact le_rfl
    · exact Nat.zero_le _
  have h2 := (acceptTry_quits o ending (countTail s) hs).after h1
  unfold tryCut
  exact .ite h2 ((afterEnd_quits ending _).after (returnTry_aside true s))

theorem tryLost_quits (o : OwnFrame) (ending : TryEnd) (s : State) : Quits Aside s (tryLost o ending s) := by
  have h1 : Aside s { s with link.chain := false } := ⟨⟨id, id, id, le_rfl, le_rfl, le_rfl⟩, rfl⟩
  have h2 := h1.trans (returnTry_aside (o.kind == .trainClaim || o.kind == .trainTail) _)
  unfold tryLost
  dsimp only
  split
  · exact .inl h2
  · exact (afterEnd_quits _ _).after h2
  · exact (afterEnd_quits _ _).after h2

/-! ## What a step keeps -/

/-- A step keeps the sending states and the run limits, and leaves a station that receives on the bus or takes it off
the bus. -/
structure Moves (s t : State) : Prop where
  runs : RunsLawful s → RunsLawful t
  stays : (s.station.state.receives = true → t.station.state.receives = true) ∨ Gone t

/-- As `Moves`, and the claim records change only where the station is taken off the bus. -/
structure MovesOff (s t : State) : Prop extends Moves s t where
  claims : t.replica.claims = s.replica.claims ∨ Gone t

theorem Moves.refl (s : State) : Moves s s := ⟨id, .inl id⟩

theorem MovesOff.refl (s : State) : MovesOff s s := ⟨.refl s, .inl rfl⟩

theorem Quits.moves {s t : State} (h : Quits OnBus s t) : Moves s t :=
  ⟨fun hs => hs.quits h, h.imp_left OnBus.receives⟩

theorem Quits.movesOff {s t : State} (h : Quits Aside s t) : MovesOff s t :=
  ⟨h.onBus.moves, h.imp_left Aside.claims⟩

theorem Aside.movesOff {s t : State} (h : Aside s t) : MovesOff s t := Quits.movesOff (.inl h)

theorem Gone.movesOff {s t : State} (h : Gone t) : MovesOff s t := Quits.movesOff (.inr h)

theorem MovesOff.of_parts {s t : State} (hr : RunsLawful s → RunsLawful t) (hq : Quits Stays s t) : MovesOff s t :=
  ⟨⟨hr, hq.imp_left Stays.receives⟩, hq.imp_left Stays.claims⟩

theorem MovesOff.after {s t u : State} (h2 : MovesOff t u) (h1 : Aside s t) : MovesOff s u :=
  ⟨⟨fun hs => h2.runs (hs.onBus h1.toOnBus), h2.stays.imp_left (· ∘ h1.receives)⟩,
    h2.claims.imp_left (·.trans h1.claims)⟩

theorem MovesOff.ite {p : Prop} [Decidable p] {s t u : State} (ht : MovesOff s t) (hu : MovesOff s u) :
    MovesOff s (if p then t else u) := by
  split
  · exact ht
  · exact hu

theorem tryOutcome_moves (sampled : List Bool) (ending : TryEnd) (s : State) :
    MovesOff s (tryOutcome sampled ending s) := by
  unfold tryOutcome endTry
  split
  · rename_i o ho
    have hs : s.link.sending.isSome = true := by rw [ho]; rfl
    split
    · exact (tryLost_quits o _ s).movesOff
    · exact .of_parts (tryClashed_runs _ hs) (tryClashed_quits _ s)
    · exact (tryCut_quits o none _ hs).movesOff
    · exact (tryCut_quits o none _ hs).movesOff
    · exact .refl s
    · exact (tryCut_quits o _ _ hs).movesOff
    · exact (tryCut_quits o _ _ hs).movesOff
    · exact .of_parts (trySlots_runs o _ _ _ hs) (trySlots_quits o _ _ _ hs)
  · exact .refl s

theorem cutFrame_moves (sampled : List Bool) (ending : TryEnd) (s : State) : MovesOff s (cutFrame sampled ending s) := by
  have h1 : Aside s { s with tx.offered := none } := .of_blocks rfl rfl rfl
  unfold cutFrame
  exact .ite (.ite ((tryOutcome_moves sampled ending _).after h1) ((afterEnd_quits ending _).movesOff.after h1)) (.refl s)

/-- FRAME_OPEN, from where the end of an incomplete run has been taken. -/
theorem openFrame_moves (pull : Bool) (s : State) : MovesOff s (openFrame pull s) :=
  .of_parts (openFrame_runs pull) (.inl (openFrame_stays pull s))

theorem frameOpen_moves (elapsed : Nat) (pull : Bool) (s : State) : Moves s (frameOpen elapsed pull s) := by
  have h1 := countIdle_aside (elapsed * cyclesPerBit s) s
  unfold frameOpen
  generalize countIdle (elapsed * cyclesPerBit s) s = u at h1 ⊢
  rcases settleRun_quits u with h | h
  · have h2 := h1.toOnBus.trans h
    have h3 := openFrame_moves pull (settleRun u)
    exact ⟨fun hs => h3.runs (hs.onBus h2), h3.stays.imp_left (· ∘ h2.receives)⟩
  · have hid : openFrame pull (settleRun u) = settleRun u := by
      unfold openFrame
      rw [if_neg]
      simp [mayOpen, sends_false_of_not_receives h.1]
    rw [hid]
    exact h.movesOff.toMoves

theorem frameOpen_movesOff (elapsed : Nat) (pull : Bool) {s : State} (hr : s.train.run ≠ .ended) :
    MovesOff s (frameOpen elapsed pull s) := by
  have h1 := countIdle_aside (elapsed * cyclesPerBit s) s
  have hrun : (countIdle (elapsed * cyclesPerBit s) s).train.run ≠ .ended := by
    unfold countIdle
    split <;> exact hr
  unfold frameOpen
  rw [settleRun_of_run_ne hrun]
  exact (openFrame_moves pull _).after h1

theorem slotsOf_moves (f : BusFrame) (otherVeto : Bool) (e : FrameEnd) (s : State) :
    MovesOff s (slotsOf f otherVeto e s) :=
  .of_parts (slotsOf_runs f otherVeto e) (slotsOf_quits f otherVeto e s)

theorem receiveFrame_moves (sampled : List Bool) (otherVeto : Bool) (e : FrameEnd) (s : State) :
    Moves s (receiveFrame sampled otherVeto e s) := by
  have h1 : OnBus s { s with tx.offered := none } := .of_blocks rfl rfl
  have hq := (settleRun_quits { s with tx.offered := none }).afterOnBus h1
  unfold receiveFrame
  dsimp only
  generalize settleRun { s with tx.offered := none } = u at hq ⊢
  split
  · rename_i f _
    split
    · split
      · rename_i hrec
        rcases hq with h | h
        · have h3 := slotsOf_moves f otherVeto e u
          exact ⟨fun hs => h3.runs (hs.onBus h), h3.stays.imp_left (· ∘ h.receives)⟩
        · simp [receiving, h.1] at hrec
      · exact hq.moves
    · exact .refl s
  · exact .refl s

theorem receiveFrame_movesOff (sampled : List Bool) (otherVeto : Bool) (e : FrameEnd) {s : State}
    (hr : s.train.run ≠ .ended) : MovesOff s (receiveFrame sampled otherVeto e s) := by
  have h1 : Aside s { s with tx.offered := none } := .of_blocks rfl rfl rfl
  unfold receiveFrame
  rw [settleRun_of_run_ne (s := { s with tx.offered := none }) hr]
  dsimp only
  generalize { s with tx.offered := none } = u at h1 ⊢
  split
  · rename_i f _
    exact .ite (.ite ((slotsOf_moves f otherVeto e u).after h1) h1.movesOff) (.refl s)
  · exact .refl s

/-! ## Every step -/

/-- The steps that apply an accepted frame. -/
def applications : List Instr :=
  [.applyAsk, .applyYield, .applyExtend, .applyLapse, .applyCancel, .applyDrop, .applyEnter, .applyRoll,
    .applyTrainHead, .applyTrainClaim, .applyTrainTail]

/-- The steps that take the end of an incomplete run first (R121). -/
def takesRunEnd : Instr → Bool
  | .frameOpen _ _ | .frameReceive _ _ _ | .trainRunEnd => true
  | _ => false

theorem hardReset_gone (s : State) : Gone (hardReset s) :=
  ⟨rfl, rfl, rfl, rfl, rfl, rfl, rfl, rfl, rfl, rfl, rfl, rfl, rfl, noTags_of_empty rfl⟩

theorem resetRelease_moves (straps : BitVec 5) (s : State) : MovesOff s (resetRelease straps s) := by
  refine .ite (Gone.movesOff ?_) (.refl s)
  exact ⟨rfl, rfl, rfl, rfl, rfl, rfl, rfl, rfl, rfl, rfl, rfl, rfl, rfl, noTags_of_empty rfl⟩

/-- A step's next state is moved to where its meaning moves it; with RESETn low nothing acts (R88). -/
theorem next_moves {f : State → State} {s t : State} (hf : MovesOff s (f s))
    (h : (.next (powered f s) : Host.Outcome State Fault Refusal) = .next t) : MovesOff s t :=
  next_keeps (P := MovesOff s) (.refl s) hf h

/-- Every step but an application, where no incomplete run waits for its end before it. -/
theorem exec_movesOff (i : Instr) (s t : State) (hi : i ∉ applications) (hr : takesRunEnd i = true → s.train.run ≠ .ended)
    (h : exec i s = .next t) : MovesOff s t := by
  have hfill := (fillOwed_aside s).movesOff
  cases i with
  | hardReset =>
    obtain rfl := Host.Outcome.next.inj h
    exact (hardReset_gone s).movesOff
  | resetRelease straps =>
    obtain rfl := Host.Outcome.next.inj h
    exact resetRelease_moves straps s
  | commandByteWrite b selected readLow => exact next_moves (writeByte_aside b selected readLow s).movesOff h
  | assemblyAgeExpiry => exact next_moves (expireAssembly_aside s).movesOff h
  | noticeByteRead selected writeLow => exact next_moves (readByte_aside selected writeLow s).movesOff h
  | setup => exact next_moves (takeCommand_aside takeSetup_aside s).movesOff h
  | go => exact next_moves (takeCommand_aside takeGo_aside s).movesOff h
  | leave => exact next_moves (takeCommand_aside takeLeave_aside s).movesOff h
  | restart => exact next_moves (.ite (takeRestart_gone _ _).movesOff (.refl s)) h
  | status => exact next_moves (takeCommand_aside (body := takeStatus) (fun _ _ => .of_blocks rfl rfl rfl) s).movesOff h
  | mask => exact next_moves (takeCommand_aside takeMask_aside s).movesOff h
  | query => exact next_moves (takeCommand_aside takeQuery_aside s).movesOff h
  | survey => exact next_moves (takeCommand_aside (body := takeSurvey) (fun _ _ => .of_blocks rfl rfl rfl) s).movesOff h
  | acquire => exact next_moves (takeCommand_aside takeAcquire_aside s).movesOff h
  | release => exact next_moves (takeCommand_aside takeRelease_aside s).movesOff h
  | extend => exact next_moves (takeCommand_aside takeExtend_aside s).movesOff h
  | cancel => exact next_moves (takeCommand_aside takeCancel_aside s).movesOff h
  | tick => exact next_moves (tick_aside s).movesOff h
  | leaseWatchExpiry => exact next_moves (.ite hfill (.refl s)) h
  | rollDue => exact next_moves (.ite hfill (.refl s)) h
  | silenceExpiry => exact next_moves (.ite hfill (.refl s)) h
  | listenTimerExpiry => exact next_moves (.ite (enterAfresh_aside .listened s).movesOff (.refl s)) h
  | copyWaitExpiry => exact next_moves (.ite (copyWaitExpires_quits s).movesOff (.refl s)) h
  | restTimerExpiry => exact next_moves (restTimerExpiry_aside s).movesOff h
  | owedFrameQueue => exact next_moves hfill h
  | warnPost => exact next_moves (postPendingWarns_aside s).movesOff h
  | frameOpen elapsed pull => exact next_moves (frameOpen_movesOff elapsed pull (hr rfl)) h
  | frameReceive sampled otherVeto ending => exact next_moves (receiveFrame_movesOff sampled otherVeto ending (hr rfl)) h
  | tryOutcome lines => exact next_moves (tryOutcome_moves lines.bits lines.ending s) h
  | stall lines => exact next_moves (cutFrame_moves lines.bits (.stalled lines.ending) s) h
  | frameBreak lines => exact next_moves (cutFrame_moves lines.bits (.broken lines.ending) s) h
  | lineStuck => exact next_moves (.ite (sideline_gone _ s).movesOff (.refl s)) h
  | trainRunEnd =>
    refine next_moves ?_ h
    rw [settleRun_of_run_ne (hr rfl)]
    exact .refl s
  | busIdleReturn => exact next_moves (.ite (busToIdle_quits s).movesOff (.refl s)) h
  | lineFallWithoutOpen =>
    refine next_moves (f := lineFallWithoutOpen) ?_ h
    exact .ite (Aside.movesOff ⟨⟨id, id, id, le_rfl, le_rfl, le_rfl⟩, rfl⟩) (.refl s)
  | applyAsk | applyYield | applyExtend | applyLapse | applyCancel | applyDrop | applyEnter | applyRoll
  | applyTrainHead | applyTrainClaim | applyTrainTail => simp [applications] at hi

/-- The front's application moves the station where its rule does. -/
theorem exec_moves_of_application (i : Instr) (s t : State) (hi : i ∈ applications) (h : exec i s = .next t) :
    Moves s t := by
  have hn : ∀ k body, (∀ e u, Quits OnBus u (body e u)) →
      (.next (powered (applyFront k body) s) : Host.Outcome State Fault Refusal) = .next t → Moves s t :=
    fun k body hb h => next_keeps (P := Moves s) (.refl s) (applyFront_quits hb s).moves h
  cases i with
  | applyAsk => exact hn _ _ (fun e u => .inl (askBody_onBus e u)) h
  | applyYield => exact hn _ _ (fun e u => .inl (yieldBody_onBus e u)) h
  | applyExtend => exact hn _ _ (fun e u => .inl (extendBody_onBus e u)) h
  | applyLapse => exact hn _ _ (fun e u => .inl (lapseBody_onBus e u)) h
  | applyCancel => exact hn _ _ (fun e u => .inl (cancelBody_onBus e u)) h
  | applyDrop => exact hn _ _ dropBody_quits h
  | applyEnter => exact hn _ _ (fun e u => .inl (enterBody_onBus e u)) h
  | applyRoll => exact hn _ _ (fun e u => .inl (rollBody_onBus e u)) h
  | applyTrainHead => exact hn _ _ trainHeadBody_quits h
  | applyTrainClaim => exact hn _ _ (fun e u => .inl (trainClaimBody_onBus e u)) h
  | applyTrainTail => exact hn _ _ (fun e u => .inl (trainTailBody_onBus e u)) h
  | _ => simp [applications] at hi

theorem exec_moves (i : Instr) (s t : State) (h : exec i s = .next t) : Moves s t := by
  by_cases hi : i ∈ applications
  · exact exec_moves_of_application i s t hi h
  · by_cases hr : takesRunEnd i = true → s.train.run ≠ .ended
    · exact (exec_movesOff i s t hi hr h).toMoves
    · have htake : takesRunEnd i = true := (Classical.not_imp.mp hr).1
      have hn : ∀ f, Moves s (f s) → (.next (powered f s) : Host.Outcome State Fault Refusal) = .next t → Moves s t :=
        fun f hf h => next_keeps (P := Moves s) (.refl s) hf h
      cases i with
      | frameOpen elapsed pull => exact hn _ (frameOpen_moves elapsed pull s) h
      | frameReceive sampled otherVeto ending => exact hn _ (receiveFrame_moves sampled otherVeto ending s) h
      | trainRunEnd => exact hn _ (settleRun_quits s).moves h
      | _ => cases htake

/-! ## Off the bus no step but GO and the rest timer leads back -/

theorem postPendingWarns_gone {s : State} (h : Gone s) : Gone (postPendingWarns s) := by
  obtain ⟨hst, hr, ha, ht, htx, hl, hw, hsi, hp, hro, hli, hc, hd, hn⟩ := h
  have htags : NoTags (postPendingWarns s) := fun n hlt => by
    obtain ⟨w, hw⟩ := postPendingWarns_tagAt s n
    rw [hw]
    exact hn n hlt
  unfold Gone OffTheBus
  simp only [postPendingWarns_station, postPendingWarns_replica, postPendingWarns_apply, postPendingWarns_train,
    postPendingWarns_tx, postPendingWarns_link, postPendingWarns_watch]
  exact ⟨hst, hr, ha, ht, htx, hl, hw, hsi, hp, hro, hli, hc, hd, htags⟩

theorem postUnreserved_gone (m : Notice) {s : State} (h : Gone s) : Gone (postUnreserved m s) := by
  obtain ⟨hst, hr, ha, ht, htx, hl, hw, hsi, hp, hro, hli, hc, hd, hn⟩ := h
  have htags : NoTags (postUnreserved m s) := fun n hlt => by simpa [tagAt] using hn n hlt
  unfold Gone OffTheBus
  simp only [postUnreserved_station, postUnreserved_replica, postUnreserved_apply, postUnreserved_train,
    postUnreserved_tx, postUnreserved_link, postUnreserved_watch]
  exact ⟨hst, hr, ha, ht, htx, hl, hw, hsi, hp, hro, hli, hc, hd, htags⟩

/-- Without watches no latch is set. -/
theorem latchIfWarned_of_no_watches {s : State} (h : s.watch.watches = []) (before : State) (c : Nat) :
    latchIfWarned before s c = s := by
  have hw : isWarned s c = false := by simp [isWarned, watchAt, h, Table.get]
  exact if_neg (by simp [hw])

theorem tickLeases_gone {s : State} (h : Gone s) : Gone (tickLeases s) := by
  obtain ⟨hst, hr, ha, ht, htx, hl, hw, ho⟩ := h
  have h1 : Gone { s with watch.watches := Table.map none (tickWatch s) s.watch.watches } :=
    ⟨hst, hr, ha, ht, htx, hl, by rw [hw]; rfl, ho⟩
  unfold tickLeases
  dsimp only
  generalize { s with watch.watches := Table.map none (tickWatch s) s.watch.watches } = u at h1 ⊢
  have hfold : (List.range Config.claimCount).foldl (latchIfWarned s) u = u := by
    obtain ⟨_, _, _, _, _, _, hwu, _⟩ := h1
    exact foldl_preserves (P := (· = u)) (fun v c hv => by rw [hv, latchIfWarned_of_no_watches hwu]) _ rfl
  rw [hfold]
  exact postPendingWarns_gone h1

theorem tick_gone {s : State} (h : Gone s) : Gone (tick s) := by
  obtain ⟨hst, hr, ha, ht, htx, hl, hw, hsi, hp, hro, hli, hc, ho⟩ := h
  have h1 : Gone (tickSilence (tickTimers { s with watch.tickCount := 0 })) := by
    refine ⟨hst, hr, ha, ht, htx, hl, hw, ?_, hp, ?_, ?_, ?_, ho⟩
    · show Table.map _ _ s.watch.silence = []
      rw [hsi]; rfl
    · show tickTimer _ s.watch.roll = none
      rw [hro]; rfl
    · show tickTimer _ s.watch.listen = none
      rw [hli]; rfl
    · show tickTimer _ s.watch.copyWait = none
      rw [hc]; rfl
  have hpause : (tickTimers { s with watch.tickCount := 0 }).watch.pause = false := hp
  unfold tick
  dsimp only
  rw [hpause, if_neg Bool.false_ne_true]
  exact tickLeases_gone h1

theorem countIdle_of_gone (cycles : Nat) {s : State} (h : Gone s) : countIdle cycles s = s := by
  obtain ⟨_, _, _, _, _, hl, _⟩ := h
  exact if_neg (by simp [hl])

theorem fillOwed_of_gone {s : State} (h : Gone s) : fillOwed s = s := by
  have hd : dueFrames s = [] := by
    have hst := h.1
    unfold dueFrames
    split <;> simp_all [StationState.receives]
  unfold fillOwed
  rw [hd]; rfl

theorem settleRun_of_gone {s : State} (h : Gone s) : settleRun s = s := by
  obtain ⟨_, _, _, ht, _⟩ := h
  exact settleRun_of_run_ne (by simp [ht])

theorem tryOutcome_of_gone (sampled : List Bool) (ending : TryEnd) {s : State} (h : Gone s) :
    tryOutcome sampled ending s = s := by
  obtain ⟨_, _, _, _, _, hl, _⟩ := h
  simp [tryOutcome, hl]

/-- Off the bus nothing is opened, received, cut short or applied. -/
theorem frameOpen_of_gone (elapsed : Nat) (pull : Bool) {s : State} (h : Gone s) : frameOpen elapsed pull s = s := by
  unfold frameOpen openFrame
  rw [countIdle_of_gone _ h, settleRun_of_gone h, if_neg]
  simp [mayOpen, sends_false_of_not_receives h.1]

theorem receiveFrame_of_gone (sampled : List Bool) (otherVeto : Bool) (e : FrameEnd) {s : State} (h : Gone s) :
    receiveFrame sampled otherVeto e s = s := by
  unfold receiveFrame
  split
  · exact if_neg (by simp [receiving, h.1])
  · rfl

theorem cutFrame_of_gone (sampled : List Bool) (ending : TryEnd) {s : State} (h : Gone s) :
    cutFrame sampled ending s = s :=
  if_neg (by simp [mayBeInFrame, h.1])

theorem applyFront_of_gone (k : FrameKind) (body : RxEntry → State → State) {s : State} (h : Gone s) :
    applyFront k body s = s := by
  obtain ⟨_, _, ha, _⟩ := h
  unfold applyFront
  rw [ha]

/-- The next state is on the bus again, or still off it. -/
def BackOrGone (t : State) : Prop := t.station.state.receives = true ∨ Gone t

theorem BackOrGone.ite {p : Prop} [Decidable p] {t u : State} (ht : BackOrGone t) (hu : BackOrGone u) :
    BackOrGone (if p then t else u) := by
  split
  · exact ht
  · exact hu

theorem Gone.push {s : State} (h : Gone s) (m : Notice) : Gone (push m s) := h

/-- A command at a station off the bus: its effect, on the state with the assembler emptied. -/
theorem takeCommand_backOrGone {c : Command} {body : List Byte → State → State} {s : State} (h : Gone s)
    (hb : ∀ fs u, Gone u → BackOrGone (body fs u)) : BackOrGone (takeCommand c body s) := by
  have h1 : Gone { s with port.assembler := [], port.age := 0 } := h
  exact .ite (hb _ _ h1) (.inr h)

theorem takeGo_backOrGone (fs : List Byte) (s : State) (h : Gone s) : BackOrGone (takeGo fs s) := by
  unfold takeGo
  exact .ite (.inr (h.push _)) (.inl (by simp [StationState.receives]))

theorem takeSetup_backOrGone (fs : List Byte) (s : State) (h : Gone s) : BackOrGone (takeSetup fs s) := by
  have h1 : Gone { s with station.setup := setupFields fs, station.lock := true, watch.tickCount := 0 } := h
  unfold takeSetup
  exact .ite (.inr (h.push _)) (.ite (.inr (h.push _)) (.ite (.inr (h.push _)) (.inr h1)))

theorem member_ne_of_gone {s : State} (h : Gone s) : s.station.state ≠ .member := fun hm => by
  have := h.1
  rw [hm] at this
  cases this

theorem onTag_of_gone (c : Command) (n : Nat) (inRange : Bool) (act : State → State) {s : State} (h : Gone s) :
    BackOrGone (onTag c n inRange act s) := by
  have hst := h.1
  have hs : s.station.state.sharing = false := by
    generalize s.station.state = st at hst
    cases st <;> first | rfl | cases hst
  unfold onTag
  rw [if_pos hs]
  exact .inr (h.push _)

theorem expireAssembly_gone {s : State} (h : Gone s) : Gone (expireAssembly s) := by
  have h1 : Gone (clearAssembler s) := h
  unfold expireAssembly
  split
  · exact postUnreserved_gone _ h1
  · exact h

theorem latchByte_gone (b : Byte) {s : State} (h : Gone s) : Gone (latchByte b s) := by
  unfold latchByte
  (repeat' split)
  · exact postUnreserved_gone _ h
  · exact h
  · exact postUnreserved_gone _ h
  · exact h

theorem writeByte_gone (b : Byte) (selected readLow : Bool) {s : State} (h : Gone s) :
    Gone (writeByte b selected readLow s) := by
  unfold writeByte
  extract_lets port s1
  have h1 : Gone s1 := h
  split
  · exact latchByte_gone b (expireAssembly_gone h1)
  · exact h1

theorem readNext_gone (r : Reading) {s : State} (h : Gone s) : Gone (readNext r s) := by
  unfold readNext finishReading
  dsimp only
  (repeat' split)
  · exact h
  · refine postPendingWarns_gone (Gone.push ?_ _)
    exact h
  · refine postPendingWarns_gone ?_
    exact h

theorem readByte_gone (selected writeLow : Bool) {s : State} (h : Gone s) : Gone (readByte selected writeLow s) := by
  unfold readByte consumeByte
  dsimp only
  split
  · split
    · refine readNext_gone _ ?_
      exact h
    · split
      · refine readNext_gone _ ?_
        exact h
      · exact h
  · exact h

theorem exec_off (i : Instr) (s t : State) (hs : Gone s) (h : exec i s = .next t) : BackOrGone t := by
  have hn : ∀ f, BackOrGone (f s) → (.next (powered f s) : Host.Outcome State Fault Refusal) = .next t → BackOrGone t :=
    fun f hf h => next_keeps (P := BackOrGone) (.inr hs) hf h
  have hid : ∀ f, f s = s → (.next (powered f s) : Host.Outcome State Fault Refusal) = .next t → BackOrGone t :=
    fun f hf h => hn f (by rw [hf]; exact .inr hs) h
  have hfill := fillOwed_of_gone hs
  have hmem := member_ne_of_gone hs
  have hst := hs.1
  cases i with
  | hardReset =>
    obtain rfl := Host.Outcome.next.inj h
    exact .inr (hardReset_gone s)
  | resetRelease straps =>
    obtain rfl := Host.Outcome.next.inj h
    exact .ite (.inr ⟨rfl, rfl, rfl, rfl, rfl, rfl, rfl, rfl, rfl, rfl, rfl, rfl, rfl, noTags_of_empty rfl⟩) (.inr hs)
  | commandByteWrite b selected readLow => exact hn _ (.inr (writeByte_gone b selected readLow hs)) h
  | assemblyAgeExpiry => exact hn _ (.inr (expireAssembly_gone hs)) h
  | noticeByteRead selected writeLow => exact hn _ (.inr (readByte_gone selected writeLow hs)) h
  | setup => exact hn _ (takeCommand_backOrGone hs takeSetup_backOrGone) h
  | go => exact hn _ (takeCommand_backOrGone hs takeGo_backOrGone) h
  | leave =>
    refine hn _ (takeCommand_backOrGone hs fun fs u hu => ?_) h
    unfold takeLeave
    rw [if_pos (.inl (member_ne_of_gone hu))]
    exact .inr (hu.push _)
  | restart => exact hn _ (takeCommand_backOrGone hs fun fs u _ => .inr (takeRestart_gone fs u)) h
  | status => exact hn _ (takeCommand_backOrGone hs fun _ _ hu => .inr (hu.push _)) h
  | mask =>
    refine hn _ (takeCommand_backOrGone hs fun fs u hu => ?_) h
    unfold takeMask
    exact .ite (.inr (hu.push _)) (.inr hu)
  | query =>
    refine hn _ (takeCommand_backOrGone hs fun fs u hu => ?_) h
    unfold takeQuery
    exact .ite (.inr (hu.push _)) (.inr (hu.push _))
  | survey => exact hn _ (takeCommand_backOrGone hs fun _ _ hu => .inr (hu.push _)) h
  | acquire =>
    refine hn _ (takeCommand_backOrGone hs fun fs u hu => ?_) h
    unfold takeAcquire
    dsimp only
    rw [if_pos (member_ne_of_gone hu)]
    exact .inr (hu.push _)
  | release => exact hn _ (takeCommand_backOrGone (body := takeRelease) hs fun _ _ hu => onTag_of_gone _ _ _ _ hu) h
  | extend => exact hn _ (takeCommand_backOrGone (body := takeExtend) hs fun _ _ hu => onTag_of_gone _ _ _ _ hu) h
  | cancel => exact hn _ (takeCommand_backOrGone (body := takeCancel) hs fun _ _ hu => onTag_of_gone _ _ _ _ hu) h
  | tick => exact hn _ (.inr (tick_gone hs)) h
  | leaseWatchExpiry => exact hid _ (if_neg (by simp [hmem])) h
  | rollDue => exact hid _ (by unfold rollDue; rw [hfill, ite_self]) h
  | silenceExpiry => exact hid _ (if_neg (by simp [hmem])) h
  | listenTimerExpiry =>
    refine hid _ (if_neg fun hl => ?_) h
    rw [hl.1] at hst; cases hst
  | copyWaitExpiry =>
    refine hid _ (if_neg fun hl => ?_) h
    rw [hl.1] at hst; cases hst
  | restTimerExpiry =>
    refine hn _ ?_ h
    unfold restTimerExpiry
    exact .ite (.inl (by simp [StationState.receives])) (.inr hs)
  | owedFrameQueue => exact hid _ hfill h
  | warnPost => exact hn _ (.inr (postPendingWarns_gone hs)) h
  | frameOpen elapsed pull => exact hid _ (frameOpen_of_gone elapsed pull hs) h
  | frameReceive sampled otherVeto ending => exact hid _ (receiveFrame_of_gone sampled otherVeto ending hs) h
  | tryOutcome lines => exact hid _ (tryOutcome_of_gone lines.bits lines.ending hs) h
  | stall lines => exact hid _ (cutFrame_of_gone lines.bits (.stalled lines.ending) hs) h
  | frameBreak lines => exact hid _ (cutFrame_of_gone lines.bits (.broken lines.ending) hs) h
  | lineStuck => exact hid _ (if_neg (by simp [hst])) h
  | trainRunEnd => exact hid _ (settleRun_of_gone hs) h
  | busIdleReturn => exact hid _ (if_neg (by simp [hst])) h
  | lineFallWithoutOpen =>
    obtain ⟨_, _, _, _, _, hl, _⟩ := hs
    exact hid _ (if_neg (by simp [hl])) h
  | applyAsk | applyYield | applyExtend | applyLapse | applyCancel | applyDrop | applyEnter | applyRoll
  | applyTrainHead | applyTrainClaim | applyTrainTail => exact hid _ (applyFront_of_gone _ _ hs) h

theorem exec_keeps_quietLawful (i : Instr) (s t : State) (hs : QuietLawful s) (h : exec i s = .next t) :
    QuietLawful t := by
  intro ht
  by_cases hr : s.station.state.receives = true
  · rcases (exec_moves i s t h).stays with hstay | hgone
    · rw [hstay hr] at ht; cases ht
    · exact hgone.2
  · have hf : s.station.state.receives = false := Bool.eq_false_iff.mpr hr
    rcases exec_off i s t ⟨hf, hs hf⟩ h with hback | hgone
    · rw [hback] at ht; cases ht
    · exact hgone.2

theorem clockCycle_gone {s : State} (h : Gone s) : Gone (clockCycle s) := by
  unfold clockCycle
  rw [countIdle_of_gone 1 h]
  dsimp only
  split
  · exact tick_gone h
  · exact h

theorem clockCycle_quiet {s : State} (hs : QuietLawful s) : QuietLawful (clockCycle s) := by
  intro ht
  by_cases hr : s.station.state.receives = true
  · rw [(clockCycle_aside s).receives hr] at ht; cases ht
  · have hf : s.station.state.receives = false := Bool.eq_false_iff.mpr hr
    exact (clockCycle_gone ⟨hf, hs hf⟩).2

/-- Settles O56: a step leaves a station on the bus or takes it off, and off the bus only GO and the rest timer act on
the station. -/
theorem stepKeepsBusLaws : Obligations.StepKeepsBusLaws := by
  refine ⟨fun s t hs h => ?_, fun s t hs h => ?_⟩
  · unfold step at h
    split at h
    · rename_i i rest _
      exact (exec_moves i { s with pending := rest } t h).runs hs
    · exact next_keeps hs (hs.onBus (clockCycle_aside s).toOnBus) h
  · unfold step at h
    split at h
    · rename_i i rest _
      exact exec_keeps_quietLawful i { s with pending := rest } t hs h
    · exact next_keeps hs (clockCycle_quiet hs) h

/-- Settles O58: what is no application leaves the claims, or takes the station off the bus. -/
theorem onlyApplicationsChangeClaims : Obligations.OnlyApplicationsChangeClaims := by
  intro s t i h hr hi
  exact (exec_movesOff i s t hi (fun _ => hr) h).claims.imp_right And.symm

end Sys2Proof.Machine
end

/-! # Reservations and notice places (R172, R175)

An operation posts into a free place or into a reservation of its tag, so that the places taken stay within 48. -/

section
namespace Sys2Proof.Machine

open Sys2Proof (Byte BusFrame FrameEnd TryEnd Instr)

/-! ## A lawful tag table -/

/-- The tag table's part of `PlacesLawful`. -/
def TagsLawful (s : State) : Prop :=
  Table.wf Tag.free s.tags = true ∧ ∀ p ∈ s.tags, p.1 < Config.tagCount ∧ TagLawful p.2

theorem PlacesLawful.tags {s : State} (h : PlacesLawful s) : TagsLawful s := ⟨h.1, h.2.1⟩

theorem PlacesLawful.of_tags {s : State} (h : TagsLawful s) (hp : placesTaken s ≤ Config.noticePlaces) :
    PlacesLawful s := ⟨h.1, h.2, hp⟩

theorem PlacesLawful.le {s : State} (h : PlacesLawful s) : placesTaken s ≤ Config.noticePlaces := h.2.2

theorem tagLawful_free : TagLawful Tag.free := ⟨rfl, fun h => by cases h⟩

theorem TagsLawful.at {s : State} (h : TagsLawful s) (n : Nat) : TagLawful (tagAt s n) := by
  by_cases hf : tagAt s n = Tag.free
  · rw [hf]; exact tagLawful_free
  · exact (h.2 _ (Table.mem_of_get_ne _ _ n hf)).2

/-- Only the 16 tag numbers are listed (R166). -/
theorem TagsLawful.lt {s : State} (h : TagsLawful s) {n : Nat} (hn : tagAt s n ≠ Tag.free) : n < Config.tagCount :=
  (h.2 _ (Table.mem_of_get_ne _ _ n hn)).1

theorem TagsLawful.lt_of_inUse {s : State} (h : TagsLawful s) {n : Nat} (hn : (tagAt s n).inUse = true) :
    n < Config.tagCount :=
  h.lt fun hf => by rw [hf] at hn; cases hn

theorem TagsLawful.lt_of_phase {s : State} (h : TagsLawful s) {n : Nat} {p : Phase}
    (hn : (tagAt s n).phase = some p) : n < Config.tagCount :=
  h.lt fun hf => by rw [hf] at hn; cases hn

theorem TagsLawful.setTag {s : State} (h : TagsLawful s) {n : Nat} {v : Tag} (hn : n < Config.tagCount)
    (hv : TagLawful v) : TagsLawful (setTag n v s) := by
  refine ⟨Table.wf_set _ _ _ _ h.1, fun p hp => ?_⟩
  have hm : p = (n, v) ∨ p ∈ s.tags := by
    change p ∈ Table.set Tag.free s.tags n v at hp
    unfold Table.set at hp
    split at hp
    · exact .inr ((Table.mem_erase _ _ _).mp hp).1
    · exact ((Table.mem_insert _ _ _ _).mp hp).imp_right fun hq => ((Table.mem_erase _ _ _).mp hq).1
  rcases hm with rfl | hm
  · exact ⟨hn, hv⟩
  · exact h.2 p hm

/-- A tag in use holds a reservation (R172). -/
theorem TagLawful.pos_of_inUse {g : Tag} (h : TagLawful g) (hu : g.inUse = true) : 1 ≤ g.reservations := by
  obtain ⟨hr, hp⟩ := h
  obtain ⟨p, hp⟩ := Option.isSome_iff_exists.mp (hp hu)
  rw [hr, Tag.reserved, if_pos hu, hp]
  cases p <;> decide

/-- A tag in use that is not granted holds two reservations (R172). -/
theorem TagLawful.two_of_phase {g : Tag} (h : TagLawful g) (hu : g.inUse = true)
    (hp : g.phase = some .sending ∨ g.phase = some .waiting ∨ g.phase = some .cancelling) : g.reservations = 2 := by
  rw [h.1, Tag.reserved, if_pos hu]
  rcases hp with hp | hp | hp <;> rw [hp]

/-- The tag found for a claim is one of the 16, is in use, names the claim and is in one of the phases. -/
theorem findTag_some {s : State} {c n : Nat} {ps : List Phase} (h : findTag s c ps = some n) :
    n < Config.tagCount ∧ (tagAt s n).inUse = true ∧ (tagAt s n).claim = c ∧ ∃ p ∈ ps, (tagAt s n).phase = some p := by
  have hm := List.mem_of_find?_eq_some h
  have hp := List.find?_some h
  simp only [Bool.and_eq_true, beq_iff_eq, List.any_eq_true] at hp
  exact ⟨List.mem_range.mp hm, hp.1.1, hp.1.2, hp.2⟩

/-! ## Places taken -/

/-- Two sums over a range whose terms agree but for one. -/
theorem sum_range_update {f g : Nat → Nat} {n : Nat} (h : ∀ m, m ≠ n → f m = g m) : ∀ N, n < N →
    ((List.range N).map f).sum + g n = ((List.range N).map g).sum + f n
  | 0, hn => by omega
  | N + 1, hn => by
    simp only [List.range_succ, List.map_append, List.sum_append, List.map_cons, List.map_nil, List.sum_cons,
      List.sum_nil]
    by_cases hN : n = N
    · subst hN
      have hm : (List.range n).map f = (List.range n).map g :=
        List.map_congr_left fun m hm => h m (Nat.ne_of_lt (List.mem_range.mp hm))
      rw [hm]; omega
    · have ih := sum_range_update h N (by omega)
      have := h N (Ne.symm hN)
      omega

theorem reservations_setTag {n : Nat} (hn : n < Config.tagCount) (v : Tag) (s : State) :
    reservations (setTag n v s) + (tagAt s n).reservations = reservations s + v.reservations := by
  have h := sum_range_update (f := fun m => (tagAt (setTag n v s) m).reservations)
    (g := fun m => (tagAt s m).reservations) (n := n) (fun m hm => by simp [tagAt_setTag, hm]) Config.tagCount hn
  simpa [reservations] using h

theorem placesTaken_setTag {n : Nat} (hn : n < Config.tagCount) (v : Tag) (s : State) :
    placesTaken (setTag n v s) + (tagAt s n).reservations = placesTaken s + v.reservations := by
  have h := reservations_setTag hn v s
  have he : entriesPresent (setTag n v s) = entriesPresent s := rfl
  have ho : overflowPresent (setTag n v s) = overflowPresent s := rfl
  simp only [placesTaken, he, ho]
  omega

theorem overflowPresent_push (m : Notice) (s : State) :
    overflowPresent (push m s) = (overflowPresent s || m.isOverflow) := by
  have hr : readingOverflow (push m s) = readingOverflow s := rfl
  simp only [overflowPresent, push_entries, List.any_append, List.any_cons, List.any_nil, Bool.or_false, hr]
  cases s.notices.entries.any Notice.isOverflow <;> cases m.isOverflow <;> simp

theorem placesTaken_push (m : Notice) (s : State) :
    placesTaken (push m s) + (if overflowPresent s then 0 else 1) =
      placesTaken s + 1 + (if overflowPresent s || m.isOverflow then 0 else 1) := by
  have he : entriesPresent (push m s) = entriesPresent s + 1 := by
    unfold entriesPresent
    rw [push_entries, List.length_append]
    exact Nat.add_right_comm _ _ _
  have hr : reservations (push m s) = reservations s := rfl
  simp only [placesTaken, he, hr, overflowPresent_push]
  omega

theorem placesTaken_push_le (m : Notice) (s : State) : placesTaken (push m s) ≤ placesTaken s + 1 := by
  have h := placesTaken_push m s
  cases ho : overflowPresent s <;> cases hm : m.isOverflow <;> simp only [ho, hm] at h <;> simp at h <;> omega

/-- A new OVERFLOW takes the place kept for it (R175). -/
theorem placesTaken_push_overflow (k : Nat) {s : State} (h : overflowPresent s = false) :
    placesTaken (push (.overflow k) s) = placesTaken s := by
  have h1 := placesTaken_push (.overflow k) s
  simp only [h, Notice.isOverflow] at h1
  simpa using h1

/-! ## What keeps places -/

/-- `t` is lawful in its tags and places if `s` is. -/
def KeepsPlaces (s t : State) : Prop := PlacesLawful s → PlacesLawful t

theorem KeepsPlaces.of_eq {s t : State} (ht : t.tags = s.tags) (he : t.notices.entries = s.notices.entries)
    (hr : t.port.reading = s.port.reading) : KeepsPlaces s t := by
  intro h
  unfold PlacesLawful placesTaken entriesPresent reservations overflowPresent readingOverflow tagAt at h ⊢
  rwa [ht, he, hr]

theorem KeepsPlaces.refl (s : State) : KeepsPlaces s s := id

theorem KeepsPlaces.trans {s t u : State} (h1 : KeepsPlaces s t) (h2 : KeepsPlaces t u) : KeepsPlaces s u := h2 ∘ h1

theorem KeepsPlaces.ite {p : Prop} [Decidable p] {s t u : State} (ht : KeepsPlaces s t) (hu : KeepsPlaces s u) :
    KeepsPlaces s (if p then t else u) := by
  split
  · exact ht
  · exact hu

theorem foldl_places {α : Type} {f : State → α → State} (hf : ∀ s a, KeepsPlaces s (f s a)) (l : List α) (s : State) :
    KeepsPlaces s (l.foldl f s) :=
  foldl_preserves (P := PlacesLawful) hf l

/-- A notice enters a free place. -/
theorem push_places {m : Notice} {s : State} (hf : 0 < freePlaces s) : KeepsPlaces s (push m s) := fun h => by
  refine .of_tags h.tags ((placesTaken_push_le m s).trans ?_)
  unfold freePlaces at hf
  omega

theorem countDrop_places (s : State) : KeepsPlaces s (countDrop s) := by
  rcases countDrop_cases s with ⟨_, h⟩ | ⟨_, _, h⟩ | ⟨ho, h⟩ <;> rw [h]
  · exact .of_eq rfl rfl rfl
  · intro hs
    have hb : ∀ m : Notice, m.bump.isOverflow = m.isOverflow := fun m => by cases m <;> rfl
    have ha : (s.notices.entries.map Notice.bump).any Notice.isOverflow = s.notices.entries.any Notice.isOverflow := by
      simp only [List.any_map, Function.comp_def, hb]
    refine .of_tags hs.tags ?_
    have hp := hs.le
    unfold placesTaken entriesPresent overflowPresent at hp ⊢
    dsimp only
    rw [List.length_map, ha]
    exact hp
  · exact fun hs => .of_tags hs.tags ((placesTaken_push_overflow 1 ho).symm ▸ hs.le)

theorem postUnreserved_places (m : Notice) (s : State) : KeepsPlaces s (postUnreserved m s) := by
  rcases postUnreserved_cases m s with ⟨hf, h⟩ | ⟨_, h⟩ <;> rw [h]
  · exact push_places hf
  · exact countDrop_places s

theorem moveTo_places (st : StationState) (cause : StateCause) (s : State) : KeepsPlaces s (moveTo st cause s) := by
  unfold moveTo postState
  refine KeepsPlaces.trans ?_ (postUnreserved_places _ _)
  exact .of_eq rfl rfl rfl

/-- A tag changes with its reservations as they were. -/
theorem setTag_places {n : Nat} {v : Tag} {s : State}
    (hv : PlacesLawful s → n < Config.tagCount ∧ TagLawful v ∧ v.reservations = (tagAt s n).reservations) :
    KeepsPlaces s (setTag n v s) := fun h => by
  obtain ⟨hn, hl, hr⟩ := hv h
  refine .of_tags (h.tags.setTag hn hl) ?_
  have := placesTaken_setTag hn v s
  have := h.le
  omega

/-- The warn latch and the flags of a tag hold no reservation. -/
theorem setLatch_places {n : Nat} {s : State} (w : Bool) (hn : TagsLawful s → n < Config.tagCount) :
    KeepsPlaces s (setTag n { tagAt s n with warnLatch := w } s) :=
  setTag_places fun h => ⟨hn h.tags, h.tags.at n, rfl⟩

theorem postPendingWarn_places (s : State) (n : Nat) : KeepsPlaces s (postPendingWarn s n) := by
  rcases postPendingWarn_cases s n with ⟨hw, hf, h⟩ | ⟨_, h⟩ <;> rw [h]
  · intro hs
    have hn : n < Config.tagCount := hs.tags.lt fun hfree => by rw [hfree] at hw; cases hw
    have h1 := setLatch_places (n := n) false (fun _ => hn) hs
    refine push_places ?_ h1
    have hp : placesTaken (setTag n { tagAt s n with warnLatch := false } s) = placesTaken s :=
      Nat.add_right_cancel (placesTaken_setTag hn _ s)
    unfold freePlaces at hf ⊢
    rwa [hp]
  · exact .refl s

theorem postPendingWarns_places (s : State) : KeepsPlaces s (postPendingWarns s) :=
  foldl_places postPendingWarn_places _ s

/-- Of the notice queue, entries other than an OVERFLOW leave. -/
theorem filterEntries_places {p : Notice → Bool} (hp : ∀ m, m.isOverflow = true → p m = true) (s : State) :
    KeepsPlaces s { s with notices.entries := s.notices.entries.filter p } := fun h => by
  refine .of_tags h.tags ?_
  have ha : (s.notices.entries.filter p).any Notice.isOverflow = s.notices.entries.any Notice.isOverflow := by
    rw [List.any_filter]
    congr 1
    funext m
    cases hm : m.isOverflow
    · simp
    · simp [hp m hm]
  have hle := List.length_filter_le p s.notices.entries
  have hpl := h.le
  unfold placesTaken entriesPresent overflowPresent at hpl ⊢
  dsimp only
  rw [ha]
  have hr : reservations { s with notices.entries := s.notices.entries.filter p } = reservations s := rfl
  have ho : readingOverflow { s with notices.entries := s.notices.entries.filter p } = readingOverflow s := rfl
  rw [hr, ho]
  omega

/-- A tag that holds a reservation ends: its notice takes that one (R173). -/
theorem endTag_places_of_pos {n : Nat} {m : Notice} {s : State} (hpos : 1 ≤ (tagAt s n).reservations) :
    KeepsPlaces s (endTag n m s) := fun h => by
  have hn : n < Config.tagCount := h.tags.lt fun hf => by rw [hf] at hpos; cases hpos
  have h1 : PlacesLawful (setTag n Tag.free (push m (withdrawBound n s))) := by
    have ht : TagsLawful (push m (withdrawBound n s)) := h.tags
    refine .of_tags (ht.setTag hn tagLawful_free) ?_
    have hset := placesTaken_setTag hn Tag.free (push m (withdrawBound n s))
    have hpush := placesTaken_push_le m (withdrawBound n s)
    have hw : placesTaken (withdrawBound n s) = placesTaken s := rfl
    have htag : tagAt (push m (withdrawBound n s)) n = tagAt s n := rfl
    have hfree : Tag.free.reservations = 0 := rfl
    have := h.le
    rw [htag, hfree] at hset
    omega
  unfold endTag
  dsimp only
  refine postPendingWarns_places _ (filterEntries_places (fun k hk => ?_) _ h1)
  cases k <;> first | rfl | cases hk

theorem endTag_places {n : Nat} (m : Notice) {s : State} (hu : (tagAt s n).inUse = true) :
    KeepsPlaces s (endTag n m s) := fun h =>
  endTag_places_of_pos ((h.tags.at n).pos_of_inUse hu) h

theorem endTagIfUsed_places (cause : TagCause) (s : State) (n : Nat) : KeepsPlaces s (endTagIfUsed cause s n) := by
  unfold endTagIfUsed
  split
  · exact endTag_places _ ‹_›
  · exact .refl s

theorem endTags_places (cause : TagCause) (s : State) : KeepsPlaces s (endTags cause s) :=
  foldl_places (endTagIfUsed_places cause) _ s

/-- The grant of a tag that is not granted yet: GRANTED takes one of its two reservations (R172). -/
theorem tagGranted_places {n : Nat} (serial : Nat) {s : State} (hu : (tagAt s n).inUse = true)
    (hp : (tagAt s n).phase = some .sending ∨ (tagAt s n).phase = some .waiting ∨
      (tagAt s n).phase = some .cancelling) : KeepsPlaces s (tagGranted n serial s) := fun h => by
  have hn := h.tags.lt_of_inUse hu
  have h2 := (h.tags.at n).two_of_phase hu hp
  refine .of_tags ?_ ?_
  · refine TagsLawful.setTag h.tags hn ⟨?_, fun _ => rfl⟩
    simp [Tag.reserved, hu]
  · have hset : placesTaken (setTag n { tagAt s n with phase := some .held, reservations := 1 } s) +
        (tagAt s n).reservations = placesTaken s + 1 := placesTaken_setTag hn _ s
    refine (placesTaken_push_le _ _).trans ?_
    have := h.le
    omega

/-! ## Watches, grants, promotion, purge (chapters 1, 2 and 4) -/

theorem latchWarn_places (c : Nat) (s : State) : KeepsPlaces s (latchWarn c s) := by
  unfold latchWarn
  split
  · rename_i n hn
    exact (setLatch_places true fun _ => (findTag_some hn).1).trans (postPendingWarns_places _)
  · exact .refl s

theorem clearLatch_places (c : Nat) (s : State) : KeepsPlaces s (clearLatch c s) := by
  unfold clearLatch
  split
  · rename_i n hn
    exact setLatch_places false fun _ => (findTag_some hn).1
  · exact .refl s

theorem startWatchAt_places (c h l serial value : Nat) (s : State) :
    KeepsPlaces s (startWatchAt c h l serial value s) := by
  have hw : ∀ w, KeepsPlaces s (setWatch c h w s) := fun w => .of_eq rfl rfl rfl
  unfold startWatchAt
  exact .ite ((hw _).trans (latchWarn_places c _)) (hw _)

theorem removeWatch_places (c h : Nat) (s : State) : KeepsPlaces s (removeWatch c h s) := by
  have hw : KeepsPlaces s (setWatch c h none s) := .of_eq rfl rfl rfl
  unfold removeWatch
  exact .ite (hw.trans (clearLatch_places c _)) hw

theorem grant_places (c : Nat) (w : Waiter) (s : State) : KeepsPlaces s (grant c w s) := by
  have hc : KeepsPlaces s (setClaim c ((claimAt s c).grant w) s) := .of_eq rfl rfl rfl
  unfold grant startWatch
  exact hc.trans (startWatchAt_places _ _ _ _ _ _)

theorem promoteHead_places (c : Nat) (w : Waiter) (rest : List Waiter) (s : State) :
    KeepsPlaces s (promoteHead c w rest s) := by
  unfold promoteHead
  extract_lets src s1
  have h1 : KeepsPlaces s s1 := by
    refine KeepsPlaces.trans ?_ (grant_places c w _)
    exact .of_eq rfl rfl rfl
  split
  · split
    · rename_i n hn
      obtain ⟨_, hu, _, p, hp, hph⟩ := findTag_some hn
      refine h1.trans (tagGranted_places _ hu ?_)
      rw [hph]
      simp only [List.mem_cons, List.not_mem_nil, or_false] at hp
      rcases hp with rfl | rfl
      · exact .inr (.inl rfl)
      · exact .inr (.inr rfl)
    · exact h1
  · exact h1

theorem promoteQueue_places (c : Nat) : ∀ (q : List Waiter) (s : State), KeepsPlaces s (promoteQueue c q s)
  | [], s => .refl s
  | w :: rest, s => by
    unfold promoteQueue
    exact .ite ((promoteHead_places c w rest s).trans (promoteQueue_places c rest _)) (.refl s)

theorem promote_places (c : Nat) (s : State) : KeepsPlaces s (promote c s) := by
  unfold promote freeSerial
  exact (promoteQueue_places c _ s).trans (.ite (.of_eq rfl rfl rfl) (.refl _))

theorem removeHold_places (c h : Nat) (s : State) : KeepsPlaces s (removeHold c h s) := by
  have h1 : KeepsPlaces s
      (setClaim c { claimAt s c with holders := (claimAt s c).holders.filter (fun x => x.station != h) } s) :=
    .of_eq rfl rfl rfl
  unfold removeHold
  exact (h1.trans (removeWatch_places c h _)).trans (.of_eq (by simp) (by simp) (by simp))

theorem extendHold_places (c h l : Nat) (s : State) : KeepsPlaces s (extendHold c h l s) := by
  unfold extendHold startWatch
  extract_lets s1 s2
  have h1 : KeepsPlaces s s1 := .of_eq rfl rfl rfl
  have h2 : KeepsPlaces s s2 := h1.trans (.ite (clearLatch_places c s1) (.refl s1))
  exact h2.trans (startWatchAt_places _ _ _ _ _ _)

theorem purgeClaim_places (d : Nat) (s : State) (c : Nat) : KeepsPlaces s (purgeClaim d s c) := by
  unfold purgeClaim
  extract_lets wasHead held s1 s2
  have h1 : KeepsPlaces s s1 := .ite (.of_eq rfl rfl rfl) (.refl s)
  have h2 : KeepsPlaces s s2 := h1.trans (.ite (removeHold_places c d s1) (.refl s1))
  exact .ite (h2.trans (promote_places c s2)) h2

theorem purge_places (d : Nat) (s : State) : KeepsPlaces s (purge d s) := foldl_places (purgeClaim_places d) _ s

/-- A change of every listed value reads at each number as the changed value. -/
theorem Table.get_map {α : Type} [DecidableEq α] (d : α) (f : Nat → α → α) (hf : ∀ k, f k d = d) :
    ∀ (t : Table α) (k : Nat), Table.wf d t = true → Table.get d (Table.map d f t) k = f k (Table.get d t k)
  | [], k, _ => (hf k).symm
  | (j, v) :: t, k, h => by
    obtain ⟨_, hlt, hwf⟩ := (Table.wf_cons d j v t).mp h
    have ih := Table.get_map d f hf t k hwf
    unfold Table.map
    by_cases hj : j = k
    · subst hj
      have hget : Table.get d t j = d := Table.get_of_unlisted d t j fun p hp => Nat.ne_of_gt (hlt p hp)
      split
      · rename_i hv
        rw [ih, hget, hf]
        simp [Table.get, hv]
      · simp [Table.get]
    · split
      · rw [ih]; simp [Table.get, hj]
      · simp [Table.get, hj, ih]

theorem clearTable_tagAt {s : State} (h : TagsLawful s) (n : Nat) :
    tagAt (clearTable s) n = { tagAt s n with warnLatch := false } :=
  Table.get_map Tag.free (fun _ v => { v with warnLatch := false }) (fun _ => rfl) s.tags n h.1

theorem clearTable_places (s : State) : KeepsPlaces s (clearTable s) := fun h => by
  refine .of_tags ⟨Table.wf_map _ _ _ h.1, fun p hp => ?_⟩ ?_
  · obtain ⟨v, hv, hpv⟩ := Table.mem_map _ _ _ _ hp
    have := h.tags.2 _ hv
    rw [hpv]
    exact this
  · have hr : reservations (clearTable s) = reservations s := by
      unfold reservations
      simp only [clearTable_tagAt h.tags]
    have hp := h.le
    unfold placesTaken at hp ⊢
    rwa [hr]

/-! ## The station controller (chapter 5) -/

theorem leaveBus_places (s : State) : KeepsPlaces s (leaveBus s) := .of_eq rfl rfl rfl

theorem sideline_places (cause : StateCause) (s : State) : KeepsPlaces s (sideline cause s) := by
  have h := (endTags_places .sidelined s).trans (leaveBus_places _)
  unfold sideline
  generalize leaveBus (endTags .sidelined s) = u at h ⊢
  refine h.trans (KeepsPlaces.trans ?_ (moveTo_places _ _ _))
  exact .of_eq rfl rfl rfl

theorem halt_places (cause : StateCause) (s : State) : KeepsPlaces s (halt cause s) :=
  ((endTags_places .sidelined s).trans (leaveBus_places _)).trans (moveTo_places _ _ _)

theorem departureEnds_places (s : State) : KeepsPlaces s (departureEnds s) := by
  have h := (endTags_places .left s).trans (leaveBus_places _)
  unfold departureEnds
  generalize leaveBus (endTags .left s) = u at h ⊢
  refine h.trans (KeepsPlaces.trans ?_ (moveTo_places _ _ _))
  exact .of_eq rfl rfl rfl

theorem queueInternal_places (s : State) (f : TxFrame) : KeepsPlaces s (queueInternal s f) :=
  .of_eq (by simp) (by simp) (by simp)

theorem fillOwed_places (s : State) : KeepsPlaces s (fillOwed s) := .of_eq (by simp) (by simp) (by simp)

theorem enterEntering_places (cause : StateCause) (s : State) : KeepsPlaces s (enterEntering cause s) := by
  unfold enterEntering postState
  dsimp only
  refine KeepsPlaces.trans ?_ (postUnreserved_places _ _)
  exact .of_eq (by simp) (by simp) (by simp)

theorem enterAfresh_places (cause : StateCause) (s : State) : KeepsPlaces s (enterAfresh cause s) := by
  unfold enterAfresh
  refine KeepsPlaces.trans ?_ (enterEntering_places cause _)
  exact .of_eq rfl rfl rfl

theorem nextAttempt_places (cause : StateCause) (s : State) : KeepsPlaces s (nextAttempt cause s) := by
  unfold nextAttempt
  refine .ite (KeepsPlaces.trans ?_ (enterEntering_places cause _)) (halt_places .noCopy s)
  exact .of_eq rfl rfl rfl

theorem forgetIfSilent_places (s : State) (d : Nat) : KeepsPlaces s (forgetIfSilent s d) := by
  unfold forgetIfSilent
  exact .ite (.of_eq (by simp) (by simp) (by simp)) (.refl s)

theorem copyWaitExpires_places (s : State) : KeepsPlaces s (copyWaitExpires s) :=
  (foldl_places forgetIfSilent_places _ s).trans (nextAttempt_places _ _)

/-! ## The end of a run (R68, R120, R121) -/

theorem trainReturn_places (counted : Bool) (e : TxEntry) (s : State) : KeepsPlaces s (trainReturn counted e s) := by
  unfold trainReturn
  extract_lets train s1
  have h1 : KeepsPlaces s s1 := .of_eq rfl rfl rfl
  exact .ite (.of_eq rfl rfl rfl) (.ite (h1.trans (sideline_places _ s1)) (.of_eq rfl rfl rfl))

theorem busToIdle_places (s : State) : KeepsPlaces s (busToIdle s) := by
  have h1 : KeepsPlaces s (idleBus s) := .of_eq rfl rfl rfl
  unfold busToIdle returnHead
  refine h1.trans ?_
  split
  · exact .ite (trainReturn_places _ _ _) (.refl _)
  · exact .refl _

theorem discardCopy_places (s : State) : KeepsPlaces s (discardCopy s) := by
  have hst : KeepsPlaces s (stopLoading s) := .of_eq rfl rfl rfl
  have hc := hst.trans (clearTable_places (stopLoading s))
  unfold discardCopy
  dsimp only
  split
  · exact .ite (hc.trans (copyWaitExpires_places _)) hc
  · exact (hc.trans (endTags_places .copy _)).trans (enterAfresh_places .copy _)
  all_goals exact hc

theorem settleRun_places (s : State) : KeepsPlaces s (settleRun s) := by
  have h1 : KeepsPlaces s { s with train.run := .none } := .of_eq rfl rfl rfl
  unfold settleRun endRun
  exact .ite (.ite (h1.trans (discardCopy_places _)) h1) (.refl s)

/-! ## Time (chapter 4) -/

theorem latchIfWarned_places (before s : State) (c : Nat) : KeepsPlaces s (latchIfWarned before s c) := by
  unfold latchIfWarned
  refine .ite ?_ (.refl s)
  split
  · rename_i n hn
    exact setLatch_places true fun _ => (findTag_some hn).1
  · exact .refl s

theorem tickLeases_places (s : State) : KeepsPlaces s (tickLeases s) := by
  have h1 : KeepsPlaces s { s with watch.watches := Table.map none (tickWatch s) s.watch.watches } := .of_eq rfl rfl rfl
  unfold tickLeases
  exact (h1.trans (foldl_places (latchIfWarned_places s) _ _)).trans (postPendingWarns_places _)

theorem tick_places (s : State) : KeepsPlaces s (tick s) := by
  have h1 : KeepsPlaces s (tickTimers { s with watch.tickCount := 0 }) := .of_eq rfl rfl rfl
  have h2 : ∀ u : State, KeepsPlaces u (tickSilence u) := fun u => .of_eq rfl rfl rfl
  unfold tick
  exact .ite h1 ((h1.trans (h2 _)).trans (tickLeases_places _))

theorem countIdle_places (cycles : Nat) (s : State) : KeepsPlaces s (countIdle cycles s) := by
  unfold countIdle
  exact .ite (.of_eq rfl rfl rfl) (.refl s)

theorem clockCycle_places (s : State) : KeepsPlaces s (clockCycle s) := by
  have h1 := countIdle_places 1 s
  unfold clockCycle
  generalize countIdle 1 s = u at h1 ⊢
  exact .ite (h1.trans (tick_places u)) (h1.trans (.of_eq rfl rfl rfl))

theorem restTimerExpiry_places (s : State) : KeepsPlaces s (restTimerExpiry s) := by
  unfold restTimerExpiry
  refine .ite (KeepsPlaces.trans ?_ (moveTo_places _ _ _)) (.refl s)
  exact .of_eq rfl rfl rfl

end Sys2Proof.Machine
end

/-! # Every step keeps reservations and notice places -/

section
namespace Sys2Proof.Machine

open Sys2Proof (Byte BusFrame FrameEnd TryEnd Instr)

/-! ## The bus (chapters 7 and 8) -/

theorem endFrame_places (e : FrameEnd) (s : State) : KeepsPlaces s (endFrame e s) := by
  cases e with
  | close => exact busToIdle_places s
  | relink => exact .of_eq rfl rfl rfl
  | noEnd => exact .of_eq rfl rfl rfl

theorem slotsOf_places (f : BusFrame) (otherVeto : Bool) (e : FrameEnd) (s : State) :
    KeepsPlaces s (slotsOf f otherVeto e s) := by
  unfold slotsOf
  extract_lets link s1
  have h1 : KeepsPlaces s s1 := .of_eq rfl rfl rfl
  refine .ite (h1.trans ?_) ?_
  · unfold refuseFrame
    extract_lets link' s2
    have h2 : KeepsPlaces s1 s2 := .of_eq rfl rfl rfl
    exact .ite (h2.trans (sideline_places _ s2)) (h2.trans (endFrame_places e s2))
  · split
    · unfold takeFrame acceptFrame
      refine KeepsPlaces.trans ?_ (endFrame_places e _)
      exact .of_eq rfl rfl rfl
    · exact h1

theorem receiveFrame_places (sampled : List Bool) (otherVeto : Bool) (e : FrameEnd) (s : State) :
    KeepsPlaces s (receiveFrame sampled otherVeto e s) := by
  have h1 : KeepsPlaces s { s with tx.offered := none } := .of_eq rfl rfl rfl
  have h2 := h1.trans (settleRun_places _)
  unfold receiveFrame
  split
  · exact .ite (.ite (h2.trans (slotsOf_places _ otherVeto e _)) h2) (.refl s)
  · exact .refl s

theorem endIfUsed_places (n : Nat) (m : Notice) (s : State) : KeepsPlaces s (endIfUsed n m s) := by
  unfold endIfUsed
  split
  · exact endTag_places m ‹_›
  · exact .refl s

theorem tooLateIfHeld_places (n : Nat) (s : State) : KeepsPlaces s (tooLateIfHeld n s) := by
  unfold tooLateIfHeld
  exact .ite (postUnreserved_places _ s) (.refl s)

theorem clearExtend_places {n : Nat} {s : State} (hu : (tagAt s n).inUse = true) : KeepsPlaces s (clearExtend n s) :=
  setTag_places fun h => ⟨h.tags.lt_of_inUse hu, h.tags.at n, rfl⟩

theorem clearExtendIfUsed_places (n : Nat) (s : State) :
    KeepsPlaces s (if (tagAt s n).inUse then clearExtend n s else s) := by
  split
  · exact clearExtend_places ‹_›
  · exact .refl s

/-- A tag moves from a phase to one that holds as many reservations. -/
theorem setPhase_places {n : Nat} {s : State} (p q : Phase) (hp : (tagAt s n).phase = some p)
    (hr : ∀ g : Tag, g.phase = some p → Tag.reserved { g with phase := some q } = g.reserved) :
    KeepsPlaces s (setTag n { tagAt s n with phase := some q } s) :=
  setTag_places fun h => ⟨h.tags.lt_of_phase hp, ⟨(h.tags.at n).1.trans (hr _ hp).symm, fun _ => rfl⟩, rfl⟩

theorem reserved_setPhase {g : Tag} {p q : Phase} (hp : g.phase = some p)
    (h : Tag.reserved { g with inUse := true, phase := some q } = Tag.reserved { g with inUse := true, phase := some p }) :
    Tag.reserved { g with phase := some q } = g.reserved := by
  cases hu : g.inUse
  · simp [Tag.reserved, hu]
  · obtain ⟨⟩ := g
    simp_all

theorem staleEffect_places (e : TxEntry) (s : State) : KeepsPlaces s (staleEffect e s) := by
  unfold staleEffect
  split
  · exact endIfUsed_places _ _ s
  · exact tooLateIfHeld_places _ s
  · exact clearExtendIfUsed_places _ s
  · exact .refl s

theorem withdrawIfStale_places (s : State) (e : TxEntry) : KeepsPlaces s (withdrawIfStale s e) := by
  have h1 : KeepsPlaces s (setEntries (s.tx.entries.filter (fun x => x != e)) s) := .of_eq rfl rfl rfl
  unfold withdrawIfStale
  exact .ite (h1.trans (staleEffect_places e _)) (.refl s)

theorem pullOffered_places (s : State) : KeepsPlaces s (pullOffered s) := by
  unfold pullOffered
  split <;> exact .of_eq rfl rfl rfl

theorem openFrame_places (pull : Bool) (s : State) : KeepsPlaces s (openFrame pull s) := by
  have hr : KeepsPlaces s (revalidate s) := foldl_places withdrawIfStale_places _ s
  have ho : KeepsPlaces s (offer (revalidate s)) := hr.trans (.of_eq rfl rfl rfl)
  unfold openFrame
  exact .ite (.ite (pullOffered_places s) (.ite (ho.trans (pullOffered_places _)) ho)) (.refl s)

theorem frameOpen_places (elapsed : Nat) (pull : Bool) (s : State) : KeepsPlaces s (frameOpen elapsed pull s) := by
  unfold frameOpen
  exact ((countIdle_places _ s).trans (settleRun_places _)).trans (openFrame_places pull _)

theorem limitEffect_places (f : TxFrame) (binding : Option Nat) (s : State) :
    KeepsPlaces s (limitEffect f binding s) := by
  unfold limitEffect
  split
  · split
    · exact endIfUsed_places _ _ s
    · split
      · exact setPhase_places .yielding .held ‹_› fun g hg => reserved_setPhase hg rfl
      · exact .refl s
    · split
      · exact setPhase_places .cancelling .waiting ‹_› fun g hg => reserved_setPhase hg rfl
      · exact tooLateIfHeld_places _ s
    · exact clearExtendIfUsed_places _ s
    · exact .refl s
  · split
    · exact .ite (queueInternal_places s _) (.refl s)
    · exact .ite (queueInternal_places s _) (.refl s)
    · exact .refl s

theorem returnEntry_places (counted : Bool) (e : TxEntry) (s : State) : KeepsPlaces s (returnEntry counted e s) := by
  have hr : KeepsPlaces s (readyAgain counted s) := .of_eq rfl rfl rfl
  have hw : KeepsPlaces s (setEntries (withoutOnBus s) s) := .of_eq rfl rfl rfl
  unfold returnEntry
  refine .ite (.ite (.of_eq rfl rfl rfl) (trainReturn_places false e s)) (.ite hw ?_)
  split
  · rename_i n hn
    have hu : (tagAt (readyAgain counted s) n).inUse = true := by
      unfold cancelPendingOf at hn
      split at hn
      · split at hn
        · rename_i hc
          obtain rfl := Option.some.inj hn
          exact (Bool.and_eq_true_iff.mp hc).1
        · cases hn
      · cases hn
    exact hr.trans (endTag_places _ hu)
  · unfold atLimit
    exact .ite ((hw.trans (postUnreserved_places _ _)).trans (limitEffect_places _ _ _)) hr

theorem returnTry_places (counted : Bool) (s : State) : KeepsPlaces s (returnTry counted s) := by
  have h1 : KeepsPlaces s { s with link.sending := none } := .of_eq rfl rfl rfl
  unfold returnTry
  split
  · exact h1.trans (returnEntry_places counted _ _)
  · exact h1

theorem afterEnd_places (e : TryEnd) (s : State) : KeepsPlaces s (afterEnd e s) := by
  cases e with
  | frameEnd ending => exact endFrame_places ending s
  | stalled linesHigh => exact .ite (busToIdle_places s) (.of_eq rfl rfl rfl)
  | broken rise => exact .ite (busToIdle_places s) (.of_eq rfl rfl rfl)

theorem afterOwn_places (e : TryEnd) (s : State) : KeepsPlaces s (afterOwn e s) :=
  .ite (busToIdle_places s) (afterEnd_places e s)

theorem acceptTry_places (o : OwnFrame) (ending : TryEnd) (s : State) : KeepsPlaces s (acceptTry o ending s) := by
  have hafter : ∀ u : State, KeepsPlaces s u → KeepsPlaces s (afterOwn ending u) :=
    fun u hu => hu.trans (afterOwn_places ending u)
  unfold acceptTry acceptTrain acceptSingle
  dsimp only
  (repeat' split)
  all_goals first | exact .of_eq rfl rfl rfl | exact hafter _ (.of_eq rfl rfl rfl)

theorem reportUnheard_places (s : State) : KeepsPlaces s (reportUnheard s) := by
  unfold reportUnheard
  exact .ite (sideline_places _ s) (.refl s)

theorem reportClash_places (s : State) : KeepsPlaces s (reportClash s) := by
  unfold reportClash
  exact .ite (halt_places _ s) (.refl s)

theorem trySlots_places (o : OwnFrame) (vetoLow heardLow : Bool) (ending : TryEnd) (s : State) :
    KeepsPlaces s (trySlots o vetoLow heardLow ending s) := by
  have h1 : KeepsPlaces s (countSlots vetoLow heardLow s) := .of_eq rfl rfl rfl
  have h2 := h1.trans (acceptTry_places o ending _)
  have h3 := h1.trans ((returnTry_places true _).trans (afterOwn_places ending _))
  unfold trySlots
  exact KeepsPlaces.trans (.ite h2 h3) (reportUnheard_places _)

theorem tryClashed_places (e : FrameEnd) (s : State) : KeepsPlaces s (tryClashed e s) := by
  unfold tryClashed
  extract_lets link s1
  have h1 : KeepsPlaces s s1 := .of_eq rfl rfl rfl
  exact ((h1.trans (returnTry_places true s1)).trans (endFrame_places e _)).trans (reportClash_places _)

theorem tryCut_places (o : OwnFrame) (vetoLow : Option Bool) (ending : TryEnd) (s : State) :
    KeepsPlaces s (tryCut o vetoLow ending s) := by
  have h1 : KeepsPlaces s (countTail s) := .of_eq rfl rfl rfl
  have h2 := h1.trans (acceptTry_places o ending _)
  unfold tryCut
  exact .ite h2 ((returnTry_places true s).trans (afterEnd_places ending _))

theorem tryLost_places (o : OwnFrame) (ending : TryEnd) (s : State) : KeepsPlaces s (tryLost o ending s) := by
  have h1 : KeepsPlaces s { s with link.chain := false } := .of_eq rfl rfl rfl
  have h2 := h1.trans (returnTry_places (o.kind == .trainClaim || o.kind == .trainTail) _)
  unfold tryLost
  dsimp only
  split
  · exact h2
  · exact h2.trans (afterEnd_places _ _)
  · exact h2.trans (afterEnd_places _ _)

theorem tryOutcome_places (sampled : List Bool) (ending : TryEnd) (s : State) :
    KeepsPlaces s (tryOutcome sampled ending s) := by
  unfold tryOutcome endTry
  split
  · split
    · exact tryLost_places _ _ s
    · exact tryClashed_places _ s
    · exact tryCut_places _ none _ s
    · exact tryCut_places _ none _ s
    · exact .refl s
    · exact tryCut_places _ _ _ s
    · exact tryCut_places _ _ _ s
    · exact trySlots_places _ _ _ _ s
  · exact .refl s

theorem cutFrame_places (sampled : List Bool) (ending : TryEnd) (s : State) :
    KeepsPlaces s (cutFrame sampled ending s) := by
  have h1 : KeepsPlaces s { s with tx.offered := none } := .of_eq rfl rfl rfl
  unfold cutFrame
  exact .ite (.ite (h1.trans (tryOutcome_places sampled ending _)) (h1.trans (afterEnd_places ending _))) (.refl s)

/-! ## Commands (chapter 9) -/

/-- A command is taken where its room is free, and keeps places where its effect does with that room (R160). -/
theorem takeCommand_places {c : Command} {body : List Byte → State → State} {k : Nat}
    (hc : ∀ s, roomFor c s = true → k ≤ freePlaces s) (hb : ∀ fs s, k ≤ freePlaces s → KeepsPlaces s (body fs s))
    (s : State) : KeepsPlaces s (takeCommand c body s) := by
  have h1 : KeepsPlaces s { s with port.assembler := [], port.age := 0 } := .of_eq rfl rfl rfl
  unfold takeCommand
  split
  · rename_i h
    exact h1.trans (hb _ _ (hc s h.2))
  · exact .refl s

theorem takeSetup_places (fs : List Byte) (s : State) (hf : 1 ≤ freePlaces s) : KeepsPlaces s (takeSetup fs s) := by
  unfold takeSetup
  exact .ite (push_places hf) (.ite (push_places hf) (.ite (push_places hf) (.of_eq rfl rfl rfl)))

theorem takeGo_places (fs : List Byte) (s : State) (hf : 1 ≤ freePlaces s) : KeepsPlaces s (takeGo fs s) := by
  unfold takeGo
  refine .ite (push_places hf) (KeepsPlaces.trans ?_ (moveTo_places _ _ _))
  exact .of_eq rfl rfl rfl

theorem takeLeave_places (fs : List Byte) (s : State) (hf : 1 ≤ freePlaces s) : KeepsPlaces s (takeLeave fs s) := by
  unfold takeLeave
  refine .ite (push_places hf) (KeepsPlaces.trans ?_ (moveTo_places _ _ _))
  exact .of_eq (by simp) (by simp) (by simp)

theorem takeMask_places (fs : List Byte) (s : State) (hf : 1 ≤ freePlaces s) : KeepsPlaces s (takeMask fs s) := by
  unfold takeMask
  exact .ite (push_places hf) (.of_eq rfl rfl rfl)

theorem takeQuery_places (fs : List Byte) (s : State) (hf : 1 ≤ freePlaces s) : KeepsPlaces s (takeQuery fs s) := by
  unfold takeQuery
  exact .ite (push_places hf) (push_places hf)

/-- RESTART empties tags and notices, whatever they were (R89). -/
theorem placesLawful_of_empty {s : State} (ht : s.tags = []) (he : s.notices.entries = [])
    (hr : s.port.reading = none) : PlacesLawful s := by
  have hres : reservations s = 0 := by
    have : ∀ n, tagAt s n = Tag.free := fun n => by simp [tagAt, ht, Table.get]
    simp [reservations, this, Tag.free]
  refine .of_tags ⟨by rw [ht]; rfl, by simp [ht]⟩ ?_
  simp [placesTaken, entriesPresent, overflowPresent, readingOverflow, he, hr, hres, Config.noticePlaces]

theorem takeRestart_places (fs : List Byte) (s : State) : KeepsPlaces s (takeRestart fs s) := fun _ => by
  unfold takeRestart
  exact moveTo_places _ _ _ (placesLawful_of_empty rfl rfl rfl)

theorem takeAcquire_places (fs : List Byte) (s : State) (hf : 2 ≤ freePlaces s) : KeepsPlaces s (takeAcquire fs s) := by
  have hd : ∀ r, KeepsPlaces s (deny .acquire r s) := fun r => push_places (by omega)
  unfold takeAcquire
  extract_lets n q lease claim l taken
  refine .ite (hd _) ?_
  split
  · exact hd _
  · rename_i hrange
    split
    · exact hd _
    · rename_i hu
      have hn : n < Config.tagCount := Nat.lt_of_not_le (not_or.mp hrange).1
      have h1 : KeepsPlaces s taken := fun h => by
        refine .of_tags (h.tags.setTag hn ⟨rfl, fun _ => rfl⟩) ?_
        have hset : placesTaken taken + (tagAt s n).reservations = placesTaken s + 2 := placesTaken_setTag hn _ s
        have := h.le
        unfold freePlaces at hf
        omega
      have hin : (tagAt taken n).inUse = true := by simp only [taken, tagAt_setTag_same]; rfl
      exact .ite (h1.trans (endTag_places _ hin)) (h1.trans (.of_eq rfl rfl rfl))

theorem onTag_places {c : Command} {n : Nat} {inRange : Bool} {act : State → State} {s : State}
    (hf : 1 ≤ freePlaces s) (ha : (tagAt s n).inUse = true → KeepsPlaces s (act s)) :
    KeepsPlaces s (onTag c n inRange act s) := by
  unfold onTag
  refine .ite (push_places hf) (.ite (push_places hf) ?_)
  split
  · exact push_places hf
  · rename_i hu
    exact ha (by simpa using hu)

/-- A tag in use changes its flags. -/
theorem setFlags_places {n : Nat} {v : Tag} {s : State} (hu : (tagAt s n).inUse = true)
    (hv : TagLawful (tagAt s n) → TagLawful v ∧ v.reservations = (tagAt s n).reservations) :
    KeepsPlaces s (setTag n v s) :=
  setTag_places fun h => ⟨h.tags.lt_of_inUse hu, hv (h.tags.at n)⟩

theorem takeRelease_places (fs : List Byte) (s : State) (hf : 1 ≤ freePlaces s) : KeepsPlaces s (takeRelease fs s) := by
  unfold takeRelease
  refine onTag_places hf fun _ => ?_
  split
  · exact push_places hf
  · rename_i hp
    exact (setPhase_places .held .yielding (not_not.mp hp) fun g hg => reserved_setPhase hg rfl).trans (.of_eq rfl rfl rfl)

theorem takeExtend_places (fs : List Byte) (s : State) (hf : 1 ≤ freePlaces s) : KeepsPlaces s (takeExtend fs s) := by
  unfold takeExtend
  refine onTag_places hf fun hu => .ite (push_places hf) ?_
  exact KeepsPlaces.trans (t := setTag _ { tagAt s _ with extendInFlight := true } s)
    (setFlags_places hu fun h => ⟨h, rfl⟩) (.of_eq rfl rfl rfl)

theorem takeCancel_places (fs : List Byte) (s : State) (hf : 1 ≤ freePlaces s) : KeepsPlaces s (takeCancel fs s) := by
  unfold takeCancel
  refine onTag_places hf fun hu => ?_
  split
  · exact .ite (push_places hf) (.ite (endTag_places _ hu) (setFlags_places hu fun h => ⟨h, rfl⟩))
  · rename_i hp
    exact (setPhase_places .waiting .cancelling hp fun g hg => reserved_setPhase hg rfl).trans (.of_eq rfl rfl rfl)
  · exact push_places hf

/-! ## The host port's bytes (chapters 9 and 10) -/

theorem expireAssembly_places (s : State) : KeepsPlaces s (expireAssembly s) := by
  have h1 : KeepsPlaces s (clearAssembler s) := .of_eq rfl rfl rfl
  unfold expireAssembly
  exact .ite (h1.trans (postUnreserved_places _ _)) (.refl s)

theorem latchByte_places (b : Byte) (s : State) : KeepsPlaces s (latchByte b s) := by
  unfold latchByte
  exact .ite (postUnreserved_places _ s)
    (.ite (.ite (.of_eq rfl rfl rfl) (postUnreserved_places _ s)) (.of_eq rfl rfl rfl))

theorem writeByte_places (b : Byte) (selected readLow : Bool) (s : State) :
    KeepsPlaces s (writeByte b selected readLow s) := by
  unfold writeByte
  extract_lets port s1
  have h1 : KeepsPlaces s s1 := .of_eq rfl rfl rfl
  exact .ite (h1.trans ((expireAssembly_places s1).trans (latchByte_places b _))) h1

/-- The notice read to its end frees its place; an OVERFLOW leaves the place kept for the next one (R175, R179). -/
theorem finishReading_places {n : Notice} {s : State} (hr : ∃ k, s.port.reading = some ⟨n, k⟩) :
    KeepsPlaces s (finishReading n s) := fun h => by
  obtain ⟨k, hk⟩ := hr
  unfold finishReading
  extract_lets port s1
  have hres : reservations s1 = reservations s := rfl
  have hent : s1.notices.entries = s.notices.entries := rfl
  have hport : s1.port.reading = none := rfl
  have htags : TagsLawful s1 := h.tags
  have hle := h.le
  simp only [placesTaken, entriesPresent, overflowPresent, readingOverflow, hk, Option.isSome_some, if_true] at hle
  have h1 : placesTaken s1 = s.notices.entries.length + reservations s +
      (if s.notices.entries.any Notice.isOverflow then 0 else 1) := by
    simp [placesTaken, entriesPresent, overflowPresent, readingOverflow, hres, hent, hport]
  have hs1 : PlacesLawful s1 := by
    refine .of_tags htags ?_
    rw [h1]
    cases hany : s.notices.entries.any Notice.isOverflow <;> cases hn : n.isOverflow <;>
      simp only [hany, hn] at hle ⊢ <;> simp at hle ⊢ <;> omega
  split
  · rename_i hov
    refine postPendingWarns_places _ (PlacesLawful.of_tags htags ?_)
    have hsame : placesTaken { s1 with notices.heldDrops := 0 } = placesTaken s1 := rfl
    have ho : overflowPresent { s1 with notices.heldDrops := 0 } = s.notices.entries.any Notice.isOverflow := by
      show (s.notices.entries.any Notice.isOverflow || false) = _
      simp
    generalize { s1 with notices.heldDrops := 0 } = u at hsame ho ⊢
    have hp := placesTaken_push (.overflow s1.notices.heldDrops) u
    rw [hsame, h1, ho] at hp
    simp only [hov.1] at hle
    cases hany : s.notices.entries.any Notice.isOverflow <;>
      simp only [hany, Notice.isOverflow] at hp hle <;> simp at hp hle <;> omega
  · exact postPendingWarns_places _ hs1

theorem readNext_places {r : Reading} {s : State} (hr : s.port.reading = some r) : KeepsPlaces s (readNext r s) := by
  unfold readNext
  extract_lets port s1
  have h1 : KeepsPlaces s s1 := .of_eq rfl rfl rfl
  refine .ite (fun h => ?_) (h1.trans (finishReading_places ⟨r.done, hr⟩))
  refine .of_tags h.tags ?_
  have hle := h.le
  unfold placesTaken entriesPresent overflowPresent readingOverflow at hle ⊢
  rw [hr] at hle
  exact hle

theorem chooseNotice_perm {es rest : List Notice} {n : Notice} (h : chooseNotice es = some (n, rest)) :
    es.Perm (n :: rest) := by
  have htake : ∀ k, takeRank k es = some (n, rest) → es.Perm (n :: rest) := fun k hk => by
    obtain ⟨older, younger, rfl, rfl, _⟩ := takeRank_eq_some hk
    exact List.perm_middle
  unfold chooseNotice at h
  split at h
  · rename_i hp
    obtain rfl := Option.some.inj h
    exact htake 0 hp
  · split at h
    · rename_i hp
      obtain rfl := Option.some.inj h
      exact htake 1 hp
    · exact htake 2 h

/-- The notice chosen keeps its place while it is read (R183). -/
theorem choose_places {s : State} {n : Notice} {rest : List Notice} (hr : s.port.reading = none)
    (hc : chooseNotice s.notices.entries = some (n, rest)) :
    KeepsPlaces s { s with notices.entries := rest, port.reading := some ⟨n, 0⟩ } := fun h => by
  have hperm := chooseNotice_perm hc
  have hlen : s.notices.entries.length = rest.length + 1 := hperm.length_eq
  have hany : s.notices.entries.any Notice.isOverflow = (n.isOverflow || rest.any Notice.isOverflow) := by
    rw [hperm.any_eq, List.any_cons]
  refine .of_tags h.tags ?_
  have hle := h.le
  have hres : reservations { s with notices.entries := rest, port.reading := some ⟨n, 0⟩ } = reservations s := rfl
  unfold placesTaken entriesPresent overflowPresent readingOverflow at hle ⊢
  rw [hr, hlen, hany] at hle
  rw [hres]
  dsimp only
  rw [Bool.or_comm (rest.any _)]
  simpa using hle

theorem readByte_places (selected writeLow : Bool) (s : State) : KeepsPlaces s (readByte selected writeLow s) := by
  unfold readByte consumeByte
  extract_lets port s1
  have h1 : KeepsPlaces s s1 := .of_eq rfl rfl rfl
  refine .ite (h1.trans ?_) h1
  split
  · exact readNext_places ‹_›
  · rename_i hnone
    split
    · exact (choose_places hnone ‹_›).trans (readNext_places rfl)
    · exact .of_eq rfl rfl rfl

/-! ## The applications (chapters 3 and 6) -/

theorem boundTag_inUse {e : RxEntry} {s : State} {n : Nat} (h : boundTag e s = some n) : (tagAt s n).inUse = true := by
  unfold boundTag at h
  split at h
  · split at h
    · rename_i hc
      obtain rfl := Option.some.inj h
      exact (Bool.and_eq_true_iff.mp hc).2
    · cases h
  · cases h

theorem toAskTag_places (e : RxEntry) {act : Nat → State → State}
    (ha : ∀ n s, (tagAt s n).inUse = true → (tagAt s n).phase = some .sending → KeepsPlaces s (act n s)) (s : State) :
    KeepsPlaces s (toAskTag e act s) := by
  unfold toAskTag
  split
  · rename_i n hn
    split
    · exact ha n s (boundTag_inUse hn) ‹_›
    · exact .refl s
  · exact .refl s

theorem tagAskGranted_places (serial n : Nat) (s : State) (hu : (tagAt s n).inUse = true)
    (hp : (tagAt s n).phase = some .sending) : KeepsPlaces s (tagAskGranted serial n s) := by
  unfold tagAskGranted
  extract_lets s1
  have h1 : KeepsPlaces s s1 := tagGranted_places serial hu (.inl hp)
  have hin : (tagAt s1 n).inUse = true := by
    show (tagAt (setTag n _ s) n).inUse = true
    rw [tagAt_setTag_same]; exact hu
  have h2 : KeepsPlaces s1 (setTag n { tagAt s1 n with cancelPending := false } s1) :=
    setFlags_places hin fun h => ⟨h, rfl⟩
  exact .ite ((h1.trans h2).trans (postUnreserved_places _ _)) h1

theorem tagAskQueued_places (claim position n : Nat) (s : State) (hu : (tagAt s n).inUse = true)
    (hp : (tagAt s n).phase = some .sending) : KeepsPlaces s (tagAskQueued claim position n s) := by
  unfold tagAskQueued
  extract_lets tag s1
  have h1 : KeepsPlaces s s1 :=
    (setPhase_places .sending .waiting hp fun g hg => reserved_setPhase hg rfl).trans (postUnreserved_places _ _)
  have ht : tagAt s1 n = { tagAt s n with phase := some .waiting } := by
    simp only [s1, tagAt, postUnreserved_tags]
    exact tagAt_setTag_same n _ s
  have h2 : KeepsPlaces s1 (setTag n { tagAt s1 n with phase := some .cancelling, cancelPending := false } s1) :=
    setFlags_places (by rw [ht]; exact hu) fun h => by
      refine ⟨⟨h.1.trans ?_, fun _ => rfl⟩, rfl⟩
      rw [ht]
      simp [Tag.reserved, hu]
  exact .ite ((h1.trans h2).trans (.of_eq rfl rfl rfl)) h1

theorem askBody_places (e : RxEntry) (s : State) : KeepsPlaces s (askBody e s) := by
  have hend : ∀ r, KeepsPlaces s (toAskTag e (fun n => endTag n (.refused n r)) s) := fun r =>
    toAskTag_places e (fun n u hu _ => endTag_places _ hu) s
  unfold askBody
  split
  · rename_i a _
    refine .ite ?_ (.refl s)
    unfold askEffect
    split
    · exact hend _
    · exact hend _
    · exact hend _
    · exact hend _
    · exact (grant_places _ _ s).trans (toAskTag_places e (tagAskGranted_places _) _)
    · have hq : KeepsPlaces s (appendWaiter a.claim ⟨e.sender, a.mode, a.lease⟩ s) := .of_eq rfl rfl rfl
      exact hq.trans (toAskTag_places e (tagAskQueued_places _ _) _)
  · exact .refl s

theorem endTagFor_places (c : Nat) (ps : List Phase) (m : Nat → Notice) (s : State) :
    KeepsPlaces s (endTagFor c ps m s) := by
  unfold endTagFor
  split
  · rename_i n hn
    exact endTag_places _ (findTag_some hn).2.1
  · exact .refl s

theorem removeAndPromote_places (c h : Nat) (s : State) : KeepsPlaces s (removeAndPromote c h s) :=
  (removeHold_places c h s).trans (promote_places c _)

theorem yieldBody_places (e : RxEntry) (s : State) : KeepsPlaces s (yieldBody e s) := by
  unfold yieldBody
  split
  · exact .ite ((removeAndPromote_places _ e.sender s).trans (.ite (endTagFor_places _ _ _ _) (.refl _))) (.refl s)
  · exact .refl s

theorem lapseBody_places (e : RxEntry) (s : State) : KeepsPlaces s (lapseBody e s) := by
  unfold lapseBody
  split
  · exact .ite ((removeAndPromote_places _ _ s).trans (.ite (endTagFor_places _ _ _ _) (.refl _))) (.refl s)
  · exact .refl s

theorem tagExtended_places (c l serial : Nat) (s : State) : KeepsPlaces s (tagExtended c l serial s) := by
  unfold tagExtended
  split
  · rename_i n hn
    have h1 : KeepsPlaces s (setTag n { tagAt s n with lease := l, extendInFlight := false } s) :=
      setFlags_places (findTag_some hn).2.1 fun h => ⟨h, rfl⟩
    exact h1.trans (postUnreserved_places _ _)
  · exact .refl s

theorem extendBody_places (e : RxEntry) (s : State) : KeepsPlaces s (extendBody e s) := by
  have hst : KeepsPlaces s (staleExtend e s) := by
    unfold staleExtend
    split
    · exact clearExtend_places (boundTag_inUse ‹_›)
    · exact .refl s
  unfold extendBody
  split
  · exact .ite (.ite ((extendHold_places _ _ _ s).trans (.ite (tagExtended_places _ _ _ _) (.refl _))) hst) (.refl s)
  · exact .refl s

theorem leaveQueue_places (c h : Nat) (s : State) : KeepsPlaces s (leaveQueue c h s) := by
  have h1 : KeepsPlaces s (removeWaiter c h s) := .of_eq rfl rfl rfl
  unfold leaveQueue
  exact .ite (h1.trans (promote_places c (removeWaiter c h s))) h1

theorem cancelBody_places (e : RxEntry) (s : State) : KeepsPlaces s (cancelBody e s) := by
  have hst : KeepsPlaces s (staleCancel e s) := by
    unfold staleCancel
    split
    · exact tooLateIfHeld_places _ s
    · exact .refl s
  unfold cancelBody
  split
  · exact .ite (.ite ((leaveQueue_places _ e.sender s).trans (.ite (endTagFor_places _ _ _ _) (.refl _))) hst) (.refl s)
  · exact .refl s

theorem unlist_places (d : Nat) (s : State) : KeepsPlaces s (unlist d s) := by
  unfold unlist
  exact .of_eq (by simp) (by simp) (by simp)

theorem listFresh_places (d : Nat) (r : RosterEntry) (s : State) : KeepsPlaces s (listFresh d r s) := by
  unfold listFresh
  exact .of_eq (by simp) (by simp) (by simp)

theorem dropBody_places (e : RxEntry) (s : State) : KeepsPlaces s (dropBody e s) := by
  unfold dropBody dropShared dropLearned droppedSelf
  split
  · rename_i d _
    dsimp only
    have hp : KeepsPlaces s (unlist d (purge d s)) := (purge_places d s).trans (unlist_places d _)
    have hu : KeepsPlaces s (if rosterAt s d = .absent then s else unlist d s) := .ite (.refl s) (unlist_places d s)
    exact .ite (.refl s) (.ite
      (.ite (.refl s) (.ite (.ite (hp.trans (departureEnds_places _))
        ((hp.trans (endTags_places .dropped _)).trans (enterAfresh_places _ _))) hp))
      (.ite (hu.trans (nextAttempt_places .dropped _)) hu))
  · exact .refl s

theorem enterBody_places (e : RxEntry) (s : State) : KeepsPlaces s (enterBody e s) := by
  have hfound : ∀ u : State, KeepsPlaces u (found u) := fun u => by
    unfold found
    refine KeepsPlaces.trans (clearTable_places u) (KeepsPlaces.trans ?_ (moveTo_places _ _ _))
    exact .of_eq rfl rfl rfl
  have hjoin : ∀ u : State, KeepsPlaces u (joinWait u) := fun u => by
    unfold joinWait
    refine KeepsPlaces.trans ?_ (moveTo_places _ _ _)
    exact .of_eq rfl rfl rfl
  unfold enterBody enterShared enterLearned
  extract_lets s1 founds s2
  have hs : KeepsPlaces s (if rosterAt s e.sender = .absent then s else unlist e.sender (purge e.sender s)) :=
    .ite (.refl s) ((purge_places e.sender s).trans (unlist_places e.sender _))
  have h1 : KeepsPlaces s s1 := .ite (.refl s) (unlist_places e.sender s)
  have h2 : KeepsPlaces s s2 := h1.trans (listFresh_places _ _ s1)
  exact .ite (hs.trans (listFresh_places _ _ _)) (.ite (.ite (h2.trans (hfound s2)) (h2.trans (hjoin s2))) h2)

theorem learnRoll_places (d : Nat) (joining : Bool) (s : State) : KeepsPlaces s (learnRoll d joining s) := by
  unfold learnRoll
  split
  · exact listFresh_places _ _ s
  · exact listFresh_places _ _ s
  · exact .of_eq rfl rfl rfl
  · exact .refl s

theorem rollBody_places (e : RxEntry) (s : State) : KeepsPlaces s (rollBody e s) := by
  have h1 : KeepsPlaces s { clearRoster (clearTable s) with station.disagree := 0 } :=
    (clearTable_places s).trans (.of_eq rfl rfl rfl)
  have hd : KeepsPlaces s (diverge e.sender s) := by
    unfold diverge
    exact ((h1.trans (endTags_places .diverged _)).trans (enterAfresh_places .diverged _)).trans
      (learnRoll_places _ false _)
  unfold rollBody compareRoll
  split
  · exact .ite (.refl s) (.ite (learnRoll_places _ _ s)
      (.ite (.ite hd (.ite (.of_eq rfl rfl rfl) (.refl s))) (.refl s)))
  · exact .refl s

theorem trainHeadBody_places (e : RxEntry) (s : State) : KeepsPlaces s (trainHeadBody e s) := by
  unfold trainHeadBody
  split
  · extract_lets loading src s1
    have h1 : KeepsPlaces s s1 := .of_eq rfl rfl rfl
    have hl : ∀ h : HeadFields, KeepsPlaces s1 (loadHead h s1) := fun h =>
      (clearTable_places s1).trans (.of_eq rfl rfl rfl)
    exact .ite (h1.trans (hl _)) (.ite (h1.trans (discardCopy_places s1)) h1)
  · exact .refl s

theorem loadHold_places (c : Nat) (s : State) (h : HoldSlot × Nat) : KeepsPlaces s (loadHold c s h) := by
  unfold loadHold
  extract_lets train s1
  have h1 : KeepsPlaces s s1 := .of_eq rfl rfl rfl
  exact .ite (h1.trans (startWatchAt_places _ _ _ _ _ _)) h1

theorem trainClaimBody_places (e : RxEntry) (s : State) : KeepsPlaces s (trainClaimBody e s) := by
  unfold trainClaimBody loadClaim
  split
  · rename_i r f _ _
    extract_lets src s1
    have h1 : KeepsPlaces s s1 := .of_eq rfl rfl rfl
    have h2 : KeepsPlaces s1 (setClaim f.claim ⟨f.serial, f.holders.map (·.1), f.waiters⟩ s1) := .of_eq rfl rfl rfl
    exact .ite ((h1.trans h2).trans (foldl_places (loadHold_places f.claim) _ _)) h1
  · exact .refl s

theorem commitRoster_places (joining : BitVec 32) (s : State) : KeepsPlaces s (commitRoster joining s) := by
  unfold commitRoster commitStation
  exact foldl_places (fun t d => by split <;> exact .of_eq rfl rfl rfl) _ s

theorem startLoadedOn_places (s : State) (c : Nat) : KeepsPlaces s (startLoadedOn s c) := by
  unfold startLoadedOn startLoaded
  exact foldl_places (fun _ _ => startWatchAt_places _ _ _ _ _ _) _ s

theorem reconcileTag_places (s : State) (n : Nat) : KeepsPlaces s (reconcileTag s n) := by
  unfold reconcileTag
  extract_lets stays
  exact .ite (.refl s) (endTagIfUsed_places .copy s n)

theorem loaderCommit_places (s : State) : KeepsPlaces s (loaderCommit s) := by
  have hl : ∀ u : State, KeepsPlaces u (loaderReady u) := fun u => .of_eq rfl rfl rfl
  unfold loaderCommit
  split
  · unfold joinCommit
    exact ((foldl_places startLoadedOn_places _ s).trans (hl _)).trans (moveTo_places _ _ _)
  · have hd : KeepsPlaces (loaderReady s) (supersedeDrops (loaderReady s)) := .of_eq rfl rfl rfl
    unfold founderCommit
    exact (((hl s).trans hd).trans (foldl_places reconcileTag_places _ _)).trans (moveTo_places _ _ _)
  all_goals exact .refl s

theorem trainTailBody_places (e : RxEntry) (s : State) : KeepsPlaces s (trainTailBody e s) := by
  unfold trainTailBody
  split
  · rename_i r _
    extract_lets src s1 s2
    have h0 : KeepsPlaces s { s with apply.record := none } := .of_eq rfl rfl rfl
    have h1 : KeepsPlaces s s1 := h0.trans (commitRoster_places r.joining _)
    have h2 : KeepsPlaces s s2 := h1.trans (.ite (.of_eq rfl rfl rfl) (.refl s1))
    exact .ite (h2.trans (loaderCommit_places s2)) h2
  · exact .refl s

theorem commonSteps_places (e : RxEntry) (s : State) : KeepsPlaces s (commonSteps e s) := by
  unfold commonSteps
  extract_lets s1
  have h1 : KeepsPlaces s s1 := .ite (.refl s) (.of_eq (by simp) (by simp) (by simp))
  exact .ite (h1.trans (.of_eq rfl rfl rfl)) h1

theorem applyFront_places {k : FrameKind} {body : RxEntry → State → State} (hb : ∀ e s, KeepsPlaces s (body e s))
    (s : State) : KeepsPlaces s (applyFront k body s) := by
  have hbefore : ∀ e, KeepsPlaces s (beforeApply e s) := fun e => by
    unfold beforeApply
    exact .ite (.refl s) ((settleRun_places s).trans (.of_eq rfl rfl rfl))
  unfold applyFront
  split
  · exact .refl s
  · rename_i e0 _ _
    refine .ite ((hbefore e0).trans ?_) (.refl s)
    generalize beforeApply e0 s = u
    unfold applyEntry
    split
    · exact .refl u
    · rename_i e rest _
      have h1 : KeepsPlaces u { u with apply.rx := rest } := .of_eq rfl rfl rfl
      exact (h1.trans (commonSteps_places e _)).trans (hb _ _)

/-! ## Every step -/

/-- A command other than RESTART and ACQUIRE has a free place (R160). -/
theorem one_le_freePlaces {c : Command} (hc : c ≠ .restart) {s : State} (h : roomFor c s = true) :
    1 ≤ freePlaces s := by
  cases c <;> simp only [roomFor, Bool.and_eq_true, decide_eq_true_eq, ne_eq, not_true_eq_false] at h hc <;> omega

theorem two_le_freePlaces {s : State} (h : roomFor .acquire s = true) : 2 ≤ freePlaces s := by
  simp only [roomFor, Bool.and_eq_true, decide_eq_true_eq] at h
  exact h.1.1

theorem exec_keepsPlaces (i : Instr) (s t : State) (hs : PlacesLawful s) (h : exec i s = .next t) : PlacesLawful t := by
  have hn : ∀ f, KeepsPlaces s (f s) → (.next (powered f s) : Host.Outcome State Fault Refusal) = .next t →
      PlacesLawful t := fun f hf h => next_keeps hs (hf hs) h
  have hfill := fillOwed_places s
  cases i with
  | hardReset =>
    obtain rfl := Host.Outcome.next.inj h
    exact placesLawful_of_empty rfl rfl rfl
  | resetRelease straps =>
    obtain rfl := Host.Outcome.next.inj h
    unfold resetRelease
    split
    · exact placesLawful_of_empty rfl rfl rfl
    · exact hs
  | commandByteWrite b selected readLow => exact hn _ (writeByte_places b selected readLow s) h
  | assemblyAgeExpiry => exact hn _ (expireAssembly_places s) h
  | noticeByteRead selected writeLow => exact hn _ (readByte_places selected writeLow s) h
  | setup => exact hn _ (takeCommand_places (fun _ => one_le_freePlaces (by decide)) takeSetup_places s) h
  | go => exact hn _ (takeCommand_places (fun _ => one_le_freePlaces (by decide)) takeGo_places s) h
  | leave => exact hn _ (takeCommand_places (fun _ => one_le_freePlaces (by decide)) takeLeave_places s) h
  | restart => exact hn _ (takeCommand_places (k := 0) (fun _ _ => Nat.zero_le _) (fun fs s _ => takeRestart_places fs s) s) h
  | status =>
    exact hn _ (takeCommand_places (body := takeStatus) (fun _ => one_le_freePlaces (by decide))
      (fun _ _ hf => push_places hf) s) h
  | mask => exact hn _ (takeCommand_places (fun _ => one_le_freePlaces (by decide)) takeMask_places s) h
  | query => exact hn _ (takeCommand_places (fun _ => one_le_freePlaces (by decide)) takeQuery_places s) h
  | survey =>
    exact hn _ (takeCommand_places (body := takeSurvey) (fun _ => one_le_freePlaces (by decide))
      (fun _ _ hf => push_places hf) s) h
  | acquire => exact hn _ (takeCommand_places (fun _ => two_le_freePlaces) takeAcquire_places s) h
  | release => exact hn _ (takeCommand_places (fun _ => one_le_freePlaces (by decide)) takeRelease_places s) h
  | extend => exact hn _ (takeCommand_places (fun _ => one_le_freePlaces (by decide)) takeExtend_places s) h
  | cancel => exact hn _ (takeCommand_places (fun _ => one_le_freePlaces (by decide)) takeCancel_places s) h
  | tick => exact hn _ (tick_places s) h
  | leaseWatchExpiry => exact hn _ (.ite hfill (.refl s)) h
  | rollDue => exact hn _ (.ite hfill (.refl s)) h
  | silenceExpiry => exact hn _ (.ite hfill (.refl s)) h
  | listenTimerExpiry => exact hn _ (.ite (enterAfresh_places .listened s) (.refl s)) h
  | copyWaitExpiry => exact hn _ (.ite (copyWaitExpires_places s) (.refl s)) h
  | restTimerExpiry => exact hn _ (restTimerExpiry_places s) h
  | owedFrameQueue => exact hn _ hfill h
  | warnPost => exact hn _ (postPendingWarns_places s) h
  | frameOpen elapsed pull => exact hn _ (frameOpen_places elapsed pull s) h
  | frameReceive sampled otherVeto ending => exact hn _ (receiveFrame_places sampled otherVeto ending s) h
  | tryOutcome lines => exact hn _ (tryOutcome_places lines.bits lines.ending s) h
  | stall lines => exact hn _ (cutFrame_places lines.bits (.stalled lines.ending) s) h
  | frameBreak lines => exact hn _ (cutFrame_places lines.bits (.broken lines.ending) s) h
  | lineStuck => exact hn _ (.ite (sideline_places .lineStuck s) (.refl s)) h
  | trainRunEnd => exact hn _ (settleRun_places s) h
  | applyAsk => exact hn _ (applyFront_places askBody_places s) h
  | applyYield => exact hn _ (applyFront_places yieldBody_places s) h
  | applyExtend => exact hn _ (applyFront_places extendBody_places s) h
  | applyLapse => exact hn _ (applyFront_places lapseBody_places s) h
  | applyCancel => exact hn _ (applyFront_places cancelBody_places s) h
  | applyDrop => exact hn _ (applyFront_places dropBody_places s) h
  | applyEnter => exact hn _ (applyFront_places enterBody_places s) h
  | applyRoll => exact hn _ (applyFront_places rollBody_places s) h
  | applyTrainHead => exact hn _ (applyFront_places trainHeadBody_places s) h
  | applyTrainClaim => exact hn _ (applyFront_places trainClaimBody_places s) h
  | applyTrainTail => exact hn _ (applyFront_places trainTailBody_places s) h
  | busIdleReturn => exact hn _ (.ite (busToIdle_places s) (.refl s)) h
  | lineFallWithoutOpen => exact hn lineFallWithoutOpen (.ite (.of_eq rfl rfl rfl) (.refl s)) h

/-- Settles O54: every operation posts into a free place or into a reservation of its tag. -/
theorem stepKeepsPlaces : Obligations.StepKeepsPlaces := by
  intro s t hs h
  unfold step at h
  split at h
  · rename_i i rest _
    exact exec_keepsPlaces i { s with pending := rest } t hs h
  · exact next_keeps hs (clockCycle_places s hs) h

end Sys2Proof.Machine
end

/-! # Commands and host bytes: the obligations -/

section
namespace Sys2Proof.Machine

open Sys2Proof (Byte BusFrame FrameEnd TryEnd Instr)

/-! ## Free places, and what is posted into one -/

/-- The free places are counted from the notices, the tags and the notice being read. -/
theorem freePlaces_congr {s t : State} (hn : t.notices.entries = s.notices.entries)
    (hr : t.port.reading = s.port.reading) (ht : t.tags = s.tags) : freePlaces t = freePlaces s := by
  have hres : reservations t = reservations s := by simp [reservations, tagAt, ht]
  simp [freePlaces, placesTaken, entriesPresent, overflowPresent, readingOverflow, hn, hr, hres]

/-- With a free place an unreserved notice enters the queue (R179). -/
theorem postUnreserved_of_room {s : State} (n : Notice) (h : 0 < freePlaces s) : postUnreserved n s = push n s :=
  if_pos h

/-- Without one it is counted as dropped (R179). -/
theorem postUnreserved_of_full {s : State} (n : Notice) (h : freePlaces s = 0) : postUnreserved n s = countDrop s :=
  if_neg (by omega)

/-- A station that moves with a free place posts its STATE (R87). -/
theorem moveTo_of_room {st : StationState} {cause : StateCause} {s : State} (h : 0 < freePlaces s) :
    moveTo st cause s = push (.state st cause) { s with station.state := st, station.lastCause := cause } :=
  postUnreserved_of_room (s := { setState st s with station.lastCause := cause }) _ h

/-- A tag table without entries holds no reservation. -/
theorem reservations_of_empty {s : State} (ht : s.tags = []) : reservations s = 0 := by
  simp [reservations, tagAt, ht, Table.get, Tag.free]

/-- An empty notice queue of a station without tags has room. -/
theorem freePlaces_pos_of_empty {s : State} (ht : s.tags = []) (he : s.notices.entries = [])
    (hr : s.port.reading = none) : 0 < freePlaces s := by
  simp [freePlaces, placesTaken, entriesPresent, reservations_of_empty ht, he, hr, overflowPresent, readingOverflow,
    Config.noticePlaces]

/-! ## Taking a command (R160) -/

/-- A command whose bytes fill the assembler, with its room free, is taken by a powered station (R160). -/
theorem powered_takeCommand {c : Command} {body : List Byte → State → State} {s : State} {b : Byte} {fs : List Byte}
    (hp : Powered s) (ha : s.port.assembler = b :: fs) (hc : completeCommand (b :: fs) = some c)
    (hr : roomFor c s = true) : powered (takeCommand c body) s = body fs (taken s) := by
  rw [powered_high _ hp, takeCommand_taken (by rw [ha]; exact hc) hr, ha, List.tail_cons]

/-- A command without its room is not taken (R160). -/
theorem powered_takeCommand_of_no_room {c : Command} (body : List Byte → State → State) {s : State}
    (hr : roomFor c s = false) : powered (takeCommand c body) s = s := by
  have h : takeCommand c body s = s := if_neg (fun ⟨_, h⟩ => by simp [hr] at h)
  unfold powered
  split
  · rfl
  · exact h

/-- With no free place there is room for RESTART alone (R160). -/
theorem roomFor_of_full {s : State} (h : freePlaces s = 0) {c : Command} (hc : c ≠ .restart) : roomFor c s = false := by
  cases c <;> simp_all [roomFor]

/-- With all 5 bound places held there is no room for a command that queues a bound frame (R160). -/
theorem roomFor_of_bound_held {s : State} (h : 5 ≤ boundHeld s) {c : Command}
    (hc : c ∈ [Command.acquire, .release, .extend, .cancel]) : roomFor c s = false := by
  have hfull : ¬ boundHeld s < Config.boundPlaces := Nat.not_lt.mpr h
  simp only [List.mem_cons, List.not_mem_nil, or_false] at hc
  rcases hc with rfl | rfl | rfl | rfl <;> simp [roomFor, hfull]

/-- Settles O7: each command's room condition fails, so it is not taken. -/
theorem commandWaitsForRoom : Obligations.CommandWaitsForRoom := by
  intro s
  refine ⟨fun hfull i hi => ?_, fun hbound i hi => ?_, fun htwo => ?_, fun tg q lh ll ha hrx => ?_⟩
  · simp only [List.mem_cons, List.not_mem_nil, or_false] at hi
    rcases hi with rfl | rfl | rfl | rfl | rfl | rfl | rfl | rfl | rfl | rfl | rfl <;>
      exact congrArg Host.Outcome.next (powered_takeCommand_of_no_room _ (roomFor_of_full hfull (by decide)))
  · simp only [List.mem_cons, List.not_mem_nil, or_false] at hi
    rcases hi with rfl | rfl | rfl | rfl <;>
      exact congrArg Host.Outcome.next (powered_takeCommand_of_no_room _ (roomFor_of_bound_held hbound (by decide)))
  · have hr : roomFor .acquire s = false := by simp [roomFor, show ¬ 2 ≤ freePlaces s by omega]
    exact congrArg Host.Outcome.next (powered_takeCommand_of_no_room _ hr)
  · obtain ⟨e, he, hown, hb⟩ := hrx
    have hbusy : tagFreeOfRx s tg.toNat = false := by
      simp only [tagFreeOfRx, Bool.not_eq_false', List.any_eq_true]
      exact ⟨e, he, by simp [hown, hb]⟩
    have hr : roomFor .acquire s = false := by simp [roomFor, ha, hbusy]
    exact congrArg Host.Outcome.next (powered_takeCommand_of_no_room _ hr)

/-! ## The checks of ACQUIRE, RELEASE, EXTEND and CANCEL (R161) -/

/-- Outside MEMBER and LEAVING a request for a tag is denied STATE (R161). -/
theorem onTag_off {s : State} (hm : s.station.state ≠ .member) (hl : s.station.state ≠ .leaving) (c : Command) (t : Nat)
    (inRange : Bool) (act : State → State) : onTag c t inRange act s = deny c .state s := by
  have hshare : s.station.state.sharing = false :=
    Bool.eq_false_iff.mpr fun h => ((sharing_iff _).mp h).elim hm hl
  exact if_pos hshare

/-- A tag number or an operand out of range is denied RANGE (R161). -/
theorem onTag_out_of_range {s : State} (hs : s.station.state = .member ∨ s.station.state = .leaving) {t : Nat}
    {inRange : Bool} (h : 16 ≤ t ∨ inRange = false) (c : Command) (act : State → State) :
    onTag c t inRange act s = deny c .range s := by
  have hshare : s.station.state.sharing = true := (sharing_iff _).mpr hs
  rw [onTag, if_neg (by simp [hshare]), if_pos (by simpa [Config.tagCount] using h)]

/-- A tag that is not in use is denied IDLE_TAG (R161). -/
theorem onTag_idle {s : State} (hs : s.station.state = .member ∨ s.station.state = .leaving) {t : Nat} (ht : t < 16)
    {inRange : Bool} (hin : inRange = true) (hu : (tagAt s t).inUse = false) (c : Command) (act : State → State) :
    onTag c t inRange act s = deny c .idleTag s := by
  have hshare : s.station.state.sharing = true := (sharing_iff _).mpr hs
  have hrange : ¬ (Config.tagCount ≤ t ∨ inRange = false) := by simpa [hin, Config.tagCount] using ht
  rw [onTag, if_neg (by simp [hshare]), if_neg hrange, if_pos hu]

/-- RELEASE stands behind the shared checks (R161). -/
theorem takeRelease_onTag (tg : Byte) :
    ∃ act, ∀ s, takeRelease [tg] s = onTag .release tg.toNat true act s := by
  unfold takeRelease
  exact ⟨_, fun _ => rfl⟩

/-- CANCEL stands behind the shared checks (R161). -/
theorem takeCancel_onTag (tg : Byte) :
    ∃ act, ∀ s, takeCancel [tg] s = onTag .cancel tg.toNat true act s := by
  unfold takeCancel
  exact ⟨_, fun _ => rfl⟩

/-- EXTEND stands behind the shared checks, its lease among the operands (R161). -/
theorem takeExtend_onTag (tg lh ll : Byte) :
    ∃ act, ∀ s, takeExtend [tg, lh, ll] s = onTag .extend tg.toNat (decide (u16 lh ll ≤ 4095)) act s := by
  unfold takeExtend
  exact ⟨_, fun _ => rfl⟩

/-- What RELEASE, CANCEL and EXTEND do, taken: the shared checks stand before their effect, with EXTEND's lease among
the operands in range. -/
theorem exec_onTag {s : State} {c : Command} {i : Instr} {tg : Byte} {more : List Byte} (hp : Powered s)
    (hci : c = .release ∧ i = .release ∧ more = [] ∨ c = .cancel ∧ i = .cancel ∧ more = [] ∨
      (∃ lh ll, c = .extend ∧ i = .extend ∧ more = [lh, ll]))
    (ha : s.port.assembler = byte c.code :: tg :: more) (hr : roomFor c s = true) :
    ∃ (inRange : Bool) (act : State → State),
      (inRange = false ↔ ∃ lh ll, more = [lh, ll] ∧ 4095 < u16 lh ll) ∧
      exec i s = .next (onTag c tg.toNat inRange act (taken s)) := by
  rcases hci with ⟨rfl, rfl, rfl⟩ | ⟨rfl, rfl, rfl⟩ | ⟨lh, ll, rfl, rfl, rfl⟩
  · obtain ⟨act, hact⟩ := takeRelease_onTag tg
    exact ⟨true, act, by simp, congrArg Host.Outcome.next ((powered_takeCommand hp ha rfl hr).trans (hact _))⟩
  · obtain ⟨act, hact⟩ := takeCancel_onTag tg
    exact ⟨true, act, by simp, congrArg Host.Outcome.next ((powered_takeCommand hp ha rfl hr).trans (hact _))⟩
  · obtain ⟨act, hact⟩ := takeExtend_onTag tg lh ll
    exact ⟨_, act, by simp, congrArg Host.Outcome.next ((powered_takeCommand hp ha rfl hr).trans (hact _))⟩

/-- Settles O8: ACQUIRE by the order of its own tests, the others by the shared ones. -/
theorem tagCommandsAreChecked : Obligations.TagCommandsAreChecked := by
  refine ⟨fun s tg q lh ll hp ha hr => ?_, fun s c i tg more hp hci ha hr => ?_⟩
  · have htaken : exec .acquire s = .next (takeAcquire [tg, q, lh, ll] (taken s)) :=
      congrArg Host.Outcome.next (powered_takeCommand hp ha rfl hr)
    rw [htaken]
    refine ⟨fun hm => ?_, fun hm hrange => ?_, fun hm ht hl hu => ?_⟩
    · exact congrArg _ (if_pos hm)
    · have hm' : ¬ (taken s).station.state ≠ .member := fun h => h hm
      exact congrArg _ ((if_neg hm').trans (if_pos hrange))
    · have hm' : ¬ (taken s).station.state ≠ .member := fun h => h hm
      have hrange : ¬ (Config.tagCount ≤ tg.toNat ∨ Config.maxLease < u16 lh ll) := by
        simp only [Config.tagCount, Config.maxLease]; omega
      exact congrArg _ ((if_neg hm').trans ((if_neg hrange).trans (if_pos hu)))
  · obtain ⟨inRange, act, hin, htaken⟩ := exec_onTag hp hci ha hr
    rw [htaken]
    refine ⟨fun hm hl => ?_, fun hs hout => ?_, fun hs ht hshort hu => ?_⟩
    · exact congrArg _ (onTag_off (s := taken s) hm hl c _ _ _)
    · exact congrArg _ (onTag_out_of_range (s := taken s) hs (hout.imp id hin.mpr) c _)
    · have hinTrue : inRange = true := by
        cases inRange with
        | true => rfl
        | false => exact absurd (hin.mp rfl) hshort
      exact congrArg _ (onTag_idle (s := taken s) hs ht hinTrue hu c _)

/-! ## Station commands -/

/-- Table 9-3's ranges as a test. -/
theorem setupInRange_iff (v : Setup) : setupInRange v = true ↔ v.allowed := by
  simp only [setupInRange, Bool.and_eq_true, decide_eq_true_eq, Setup.allowed, and_assoc]
  rfl

/-- Settles O9: by the order of SETUP's tests. -/
theorem setupStoresOrIsDenied : Obligations.SetupStoresOrIsDenied := by
  intro s br tu rh rl rt lh ll hp ha hf v
  have htaken : exec .setup s = .next (takeSetup [br, tu, rh, rl, rt, lh, ll] (taken s)) :=
    congrArg Host.Outcome.next (powered_takeCommand hp ha rfl (decide_eq_true hf))
  rw [htaken]
  refine ⟨fun hst => ?_, fun hst hlock => ?_, fun hst hlock hv => ?_, fun hst hlock hv => ?_⟩
  · exact congrArg _ (if_pos hst)
  all_goals have hst' : ¬ (taken s).station.state ≠ .localState := fun h => h hst
  · exact congrArg _ ((if_neg hst').trans (if_pos hlock))
  all_goals have hlock' : ¬ (taken s).station.lock = true := by simp [hlock]
  · have hrange : setupInRange v = false := Bool.eq_false_iff.mpr fun h => hv ((setupInRange_iff v).mp h)
    exact congrArg _ ((if_neg hst').trans ((if_neg hlock').trans (if_pos hrange)))
  · have hrange : ¬ setupInRange v = false := by simp [(setupInRange_iff v).mpr hv]
    exact congrArg _ ((if_neg hst').trans ((if_neg hlock').trans (if_neg hrange)))

/-- Settles O10: GO by the station state, with the free place that its room condition gives. -/
theorem goMovesToListen : Obligations.GoMovesToListen := by
  intro s hp ha hf
  have htaken : exec .go s = .next (takeGo [] (taken s)) :=
    congrArg Host.Outcome.next (powered_takeCommand hp ha rfl (decide_eq_true hf))
  rw [htaken]
  refine ⟨fun hst => congrArg _ (if_pos hst), fun hst => ?_⟩
  have hst' : ¬ (taken s).station.state ≠ .localState := fun h => h hst
  exact congrArg _ ((if_neg hst').trans (moveTo_of_room hf))

/-- Settles O12: the emptied notice queue has a place for the STATE. -/
theorem restartEmptiesTheStation : Obligations.RestartEmptiesTheStation := by
  intro s hp ha
  have htaken : exec .restart s = .next (takeRestart [] (taken s)) :=
    congrArg Host.Outcome.next (powered_takeCommand hp ha rfl rfl)
  rw [htaken]
  refine congrArg Host.Outcome.next ((moveTo_of_room (st := .localState) (cause := .restart)
    (freePlaces_pos_of_empty rfl rfl rfl)).trans ?_)
  clear htaken
  obtain ⟨⟨resetLow, _, _, _, _, _, _, _⟩, _, _, _, _, _, _, _, _, _, _⟩ := s
  obtain rfl : resetLow = false := hp
  rfl

/-- HATNn is asserted by an entry held or read that the masks let through (R184, R185). -/
theorem attention_iff {s : State} (hp : Powered s) : attention s = true ↔
    ∃ n, (n ∈ s.notices.entries ∨ ∃ k, s.port.reading = some ⟨n, k⟩) ∧ drawsAttention s n = true := by
  have hrun : s.station.resetLow = false := hp
  simp only [attention, hrun, Bool.not_false, Bool.true_and, Bool.or_eq_true, List.any_eq_true]
  constructor
  · rintro (⟨n, hn, hd⟩ | hread)
    · exact ⟨n, .inl hn, hd⟩
    · split at hread
      next r hr => exact ⟨r.notice, .inr ⟨r.done, hr⟩, hread⟩
      next => cases hread
  · rintro ⟨n, hn | ⟨k, hk⟩, hd⟩
    · exact .inl ⟨n, hn, hd⟩
    · right
      rw [hk]
      exact hd

/-- A notice draws attention by its class and its class's mask (R184). -/
theorem drawsAttention_iff (s : State) (n : Notice) : drawsAttention s n = true ↔
    n.rank = 0 ∨ (n.rank = 1 ∧ s.notices.resultMask = false) ∨ (n.rank = 2 ∧ s.notices.reportMask = false) := by
  simp [drawsAttention, or_assoc]

/-- Settles O15: MASK by the range of its byte, and HATNn by what the masks let through. -/
theorem maskSetsTheMasks : Obligations.MaskSetsTheMasks := by
  intro s m hp ha hf
  have htaken : exec .mask s = .next (takeMask [m] (taken s)) :=
    congrArg Host.Outcome.next (powered_takeCommand hp ha rfl (decide_eq_true hf))
  have hset : m.toNat < 4 → takeMask [m] (taken s) =
      { taken s with notices.resultMask := m.getLsbD 0, notices.reportMask := m.getLsbD 1 } :=
    fun h => if_neg (Nat.not_le.mpr h)
  rw [htaken]
  refine ⟨fun h => congrArg _ (if_pos h), fun h => congrArg _ (hset h), fun h t ht => ?_⟩
  obtain rfl := Host.Outcome.next.inj ht
  rw [hset h]
  exact (attention_iff (s := { taken s with notices.resultMask := m.getLsbD 0, notices.reportMask := m.getLsbD 1 })
    hp).trans (exists_congr fun n => and_congr_right' (drawsAttention_iff _ n))

/-! ## RELEASE (R169) -/

/-- RELEASE of a tag in use goes by the tag's phase (R169). -/
theorem takeRelease_inUse {s : State} {tg : Byte} (hs : s.station.state = .member ∨ s.station.state = .leaving)
    (ht : tg.toNat < 16) (hu : (tagAt s tg.toNat).inUse = true) :
    takeRelease [tg] s =
      if (tagAt s tg.toNat).phase ≠ some .held then deny .release .wrongPhase s
      else enqueue (.yield (tagAt s tg.toNat).claim) (some tg.toNat)
        (setTag tg.toNat { tagAt s tg.toNat with phase := some .yielding } s) := by
  unfold takeRelease
  exact onTag_inUse hs ht rfl hu .release _

/-- Settles O17: the taken command passes the shared checks, then by whether the tag is HELD. -/
theorem releaseQueuesYield : Obligations.ReleaseQueuesYield := by
  intro s tg hp ha hr hs ht hu
  have htaken : exec .release s = .next (takeRelease [tg] (taken s)) := congrArg Host.Outcome.next (powered_takeCommand hp ha rfl hr)
  rw [htaken, takeRelease_inUse (s := taken s) hs ht hu]
  exact ⟨fun hheld => congrArg _ (if_neg (fun h => h hheld)), fun hother => congrArg _ (if_pos hother)⟩

/-! ## Resets (R88) -/

/-- Settles O57: the state after a hard reset is empty. -/
theorem resetMeetsTheInvariants : Obligations.ResetMeetsTheInvariants := by
  refine ⟨by decide, claimsLawful_of_cleared rfl, placesLawful_of_empty rfl rfl rfl, ?_, List.Pairwise.nil, ?_, ?_⟩
  · exact ⟨by decide, (fun h => by cases h), by decide, by decide⟩
  · exact ⟨(fun h => by cases h), by decide, by decide, by decide⟩
  · exact fun _ => ⟨rfl, rfl, rfl, rfl, rfl, rfl, rfl, rfl, rfl, rfl, rfl, rfl, noTags_of_empty rfl⟩

end Sys2Proof.Machine
end

/-! # Resets, host bytes and reports: the obligations -/

section
namespace Sys2Proof.Machine

open Sys2Proof (Byte BusFrame FrameEnd TryEnd Instr)

/-! ## Folds that change nothing -/

/-- A fold whose every step leaves the state alone leaves it alone. -/
theorem foldl_eq_self {α : Type} {f : State → α → State} {s : State} : ∀ {l : List α}, (∀ a ∈ l, f s a = s) →
    l.foldl f s = s
  | [], _ => rfl
  | a :: l, h => by
    rw [List.foldl_cons, h a List.mem_cons_self]
    exact foldl_eq_self fun b hb => h b (List.mem_cons_of_mem a hb)

/-- With no WARN pending there is none to post (R180). -/
theorem postPendingWarns_of_none {s : State} (h : NoWarnPending s) : postPendingWarns s = s :=
  foldl_eq_self fun n hn => if_neg fun ⟨hw, _⟩ => by simp [h n (List.mem_range.mp hn)] at hw

/-- Without a free place pending WARNs stay pending (R180). -/
theorem postPendingWarns_of_full {s : State} (h : freePlaces s = 0) : postPendingWarns s = s :=
  foldl_eq_self fun _ _ => if_neg fun ⟨_, hf⟩ => by omega

/-- With no tag in use there is none to end (R173). -/
theorem endTags_of_noTags (cause : TagCause) {s : State} (h : NoTags s) : endTags cause s = s :=
  foldl_eq_self fun n hn => if_neg (by simp [h n (List.mem_range.mp hn)])

/-! ## Resets (R88) -/

/-- The reset state has the hard-reset values, whatever RESETn, the station number and the waiting steps are. -/
theorem reset_hardResetValues (low : Bool) (number : Nat) (steps : List Instr) :
    HardResetValues { State.reset with
      station := { State.reset.station with resetLow := low, number := number }, pending := steps } :=
  ⟨rfl, rfl, rfl, rfl, rfl, ⟨rfl, rfl, rfl, rfl, rfl, rfl, rfl, rfl, rfl, rfl, rfl, rfl, noTags_of_empty rfl⟩, rfl, rfl,
    rfl, rfl, rfl, rfl, rfl, rfl, rfl⟩

/-- Settles O2: both resets give the reset state, and every other step is held while RESETn is low. -/
theorem resetHoldsEveryBlock : Obligations.ResetHoldsEveryBlock := by
  refine ⟨⟨fun s => ⟨hardReset s, rfl, rfl, reset_hardResetValues true 0 s.pending⟩, fun s straps hlow => ?_⟩,
    fun s hlow => ⟨by simp [hrdy, hlow], by simp [attention, hlow], fun c hr hl => ?_⟩⟩
  · have hrel : resetRelease straps s = { State.reset with
        station := { State.reset.station with resetLow := false, number := straps.toNat }, pending := s.pending } :=
      if_pos hlow
    exact ⟨_, congrArg Host.Outcome.next hrel, rfl, rfl, reset_hardResetValues false straps.toNat s.pending⟩
  · cases c with
    | hardReset => exact absurd rfl hr
    | resetRelease straps => exact absurd rfl (hl straps)
    | _ => exact congrArg Host.Outcome.next (powered_low _ hlow)

/-! ## Host bytes written (R157, R159) -/

/-- A rise of HWSn in a spoiled cycle, unselected, or with HRSn low writes nothing (R157). -/
theorem writeByte_spoiled {s : State} {selected readLow : Bool}
    (h : selected = false ∨ readLow = true ∨ s.port.writeSpoiled = true) (b : Byte) :
    writeByte b selected readLow s = { s with
      port.writeSpoiled := false
      port.readSpoiled := s.port.readSpoiled || (selected && readLow) } := by
  refine if_neg ?_
  rcases h with h | h | h <;> simp [h]

/-- A byte in a cycle of its own is latched, after an aged-out partial command has left (R157, R159). -/
theorem exec_commandByteWrite_unspoiled {s : State} (hp : Powered s) (hw : s.port.writeSpoiled = false) (b : Byte) :
    exec (.commandByteWrite b true false) s = .next (latchByte b (expireAssembly s)) := by
  have hsame : { s with port.writeSpoiled := false, port.readSpoiled := s.port.readSpoiled || (true && false) } = s := by
    rw [Bool.true_and, Bool.or_false, ← hw]
  show Host.Outcome.next (powered (writeByte b true false) s) = _
  rw [powered_high _ hp, writeByte, hsame, hw]
  rfl

/-- The partial commands that are aged out (R159). -/
theorem assemblyAged_iff (s : State) : assemblyAged s = true ↔
    s.port.assembler ≠ [] ∧ completeCommand s.port.assembler = none ∧ 255 ≤ s.port.age := by
  simp only [assemblyAged, Bool.and_eq_true, decide_eq_true_eq, Bool.not_eq_true', List.isEmpty_eq_false_iff,
    Option.isNone_iff_eq_none, and_assoc]
  exact Iff.rfl

/-- What is not an aged-out partial command stays (R159). -/
theorem expireAssembly_of_young {s : State}
    (h : s.port.assembler = [] ∨ (completeCommand s.port.assembler).isSome = true ∨ s.port.age < 255) :
    expireAssembly s = s := by
  refine if_neg fun haged => ?_
  obtain ⟨hne, hpart, hage⟩ := (assemblyAged_iff s).mp haged
  rcases h with h | h | h
  · exact hne h
  · simp [hpart] at h
  · omega

/-- An aged-out partial command leaves with DENIED(FORMAT) (R159). -/
theorem expireAssembly_of_aged {s : State} {b : Byte} {bs : List Byte} (ha : s.port.assembler = b :: bs)
    (hpart : completeCommand (b :: bs) = none) (hage : 255 ≤ s.port.age) :
    expireAssembly s = postUnreserved (.denied b .format) (taken s) := by
  have haged : assemblyAged s = true := (assemblyAged_iff s).mpr ⟨by simp [ha], by rw [ha]; exact hpart, hage⟩
  rw [expireAssembly, if_pos haged, ha]
  rfl

/-- A byte behind a complete command is lost (R157). -/
theorem latchByte_lost {s : State} (h : (completeCommand s.port.assembler).isSome = true) (b : Byte) :
    latchByte b s = postUnreserved .hostOverrun s := if_pos h

/-- A first byte is a code (R159). -/
theorem latchByte_code {s : State} {b : Byte} (ha : s.port.assembler = []) (hb : (Command.ofCode b.toNat).isSome = true) :
    latchByte b s = { s with port.assembler := [b], port.age := 0 } := by
  simp [latchByte, ha, completeCommand, hb]

/-- A first byte that is no code is denied (R159). -/
theorem latchByte_unknown {s : State} {b : Byte} (ha : s.port.assembler = []) (hb : Command.ofCode b.toNat = none) :
    latchByte b s = postUnreserved (.denied b .format) s := by
  simp [latchByte, ha, completeCommand, hb]

/-- A byte behind a partial command is its next field byte (R159). -/
theorem latchByte_field {s : State} (ha : s.port.assembler ≠ []) (hpart : completeCommand s.port.assembler = none)
    (b : Byte) : latchByte b s = { s with port.assembler := s.port.assembler ++ [b] } := by
  simp [latchByte, ha, hpart]

/-- Settles O3: by what the assembler holds, and by the age of a partial command. -/
theorem hostBytesAreAssembled : Obligations.HostBytesAreAssembled := by
  refine ⟨fun s b hp => ⟨fun selected readLow h => ?_, fun hw => ?_⟩, fun s b bs hp ha hpart => ?_⟩
  · exact congrArg Host.Outcome.next ((powered_high _ hp).trans (writeByte_spoiled h b))
  · rw [exec_commandByteWrite_unspoiled hp hw]
    refine ⟨fun ha hb => ?_, fun ha hb hf => ?_, fun ha hpart hage => ?_, fun hfull hf => ?_⟩
    · rw [expireAssembly_of_young (.inl ha), latchByte_code ha hb]
    · rw [expireAssembly_of_young (.inl ha), latchByte_unknown ha hb, postUnreserved_of_room _ hf]
    · rw [expireAssembly_of_young (.inr (.inr hage)), latchByte_field ha hpart]
    · rw [expireAssembly_of_young (.inr (.inl hfull)), latchByte_lost hfull, postUnreserved_of_room _ hf]
  · refine ⟨fun hage hf => ?_, fun hage => ?_⟩
    · exact congrArg Host.Outcome.next ((powered_high _ hp).trans
        ((expireAssembly_of_aged ha hpart hage).trans (postUnreserved_of_room _ hf)))
    · exact congrArg Host.Outcome.next ((powered_high _ hp).trans (expireAssembly_of_young (.inr (.inr hage))))

/-! ## Notice bytes read (R158) -/

/-- A rise of HRSn in a spoiled cycle, unselected, or with HWSn low reads nothing (R157). -/
theorem readByte_spoiled {s : State} {selected writeLow : Bool}
    (h : selected = false ∨ writeLow = true ∨ s.port.readSpoiled = true) :
    readByte selected writeLow s = { s with
      port.readSpoiled := false
      port.writeSpoiled := s.port.writeSpoiled || (selected && writeLow) } := by
  refine if_neg ?_
  rcases h with h | h | h <;> simp [h]

/-- Inside a notice the next byte is driven, and there is more to read (R158). -/
theorem readNext_inside {s : State} {n : Notice} {k : Nat} {b : Byte} (hb : n.bytes[k]? = some b)
    (hk : k + 1 < n.bytes.length) :
    readNext ⟨n, k⟩ s = { s with port.dataOut := b, port.reading := some ⟨n, k + 1⟩ } := by
  rw [readNext, List.getD_eq_getElem?_getD, hb, Option.getD_some]
  exact if_pos hk

/-- The last byte of a notice is driven, and its reading is finished (R158). -/
theorem readNext_last {s : State} {n : Notice} {k : Nat} {b : Byte} (hb : n.bytes[k]? = some b)
    (hk : n.bytes.length = k + 1) : readNext ⟨n, k⟩ s = finishReading n { s with port.dataOut := b } := by
  rw [readNext, List.getD_eq_getElem?_getD, hb, Option.getD_some]
  exact if_neg (by simp [hk])

/-- Settles O6: by whether a notice is being read, and whether its last byte is due. -/
theorem noticeBytesAreRead : Obligations.NoticeBytesAreRead := by
  refine ⟨fun s hp => ⟨fun selected writeLow h => ?_, fun hr => ⟨fun hread he => ?_, fun n k b hread hb hk => ?_⟩⟩,
    fun s n k b hp hr hw hread hb hk => ?_⟩
  · exact congrArg Host.Outcome.next ((powered_high _ hp).trans (readByte_spoiled h))
  · rw [exec_noticeByteRead_unspoiled hp hr, consumeByte, hread, he]
    rfl
  · rw [exec_noticeByteRead_unspoiled hp hr, consumeByte, hread]
    exact congrArg Host.Outcome.next (readNext_inside hb hk)
  · have hlast : consumeByte s = finishReading n { s with port.dataOut := b } := by
      rw [consumeByte, hread]
      exact readNext_last hb hk
    rw [exec_noticeByteRead_unspoiled hp hr, hlast, finishReading]
    refine ⟨fun hno => ?_, fun hover hdrops => ?_⟩
    · have hnone : ¬ (n.isOverflow = true ∧ 0 < s.notices.heldDrops) := by
        rintro ⟨ho, hd⟩
        rcases hno with h | h
        · simp [h] at ho
        · omega
      exact congrArg Host.Outcome.next ((if_neg hnone).trans (postPendingWarns_of_none hw))
    · exact congrArg Host.Outcome.next ((if_pos ⟨hover, hdrops⟩).trans (postPendingWarns_of_none hw))

/-! ## STATUS and SURVEY (R165) -/

/-- A sum of powers of two stays below the next one. -/
theorem sum_pow_lt (p : Nat → Bool) : ∀ N,
    ((List.range N).map (fun t => if p t then 2 ^ t else 0)).sum < 2 ^ N
  | 0 => by simp
  | N + 1 => by
    have ih := sum_pow_lt p N
    rw [List.range_succ, List.map_append, List.sum_append, List.map_singleton, List.sum_singleton, Nat.pow_succ]
    split <;> omega

/-- Bit `t` of a sum of distinct powers of two says whether `2 ^ t` is among them. -/
theorem testBit_sum_pow (p : Nat → Bool) {t : Nat} : ∀ {N}, t < N →
    ((List.range N).map (fun t => if p t then 2 ^ t else 0)).sum.testBit t = p t
  | N + 1, ht => by
    have hlt := sum_pow_lt p N
    rw [List.range_succ, List.map_append, List.sum_append, List.map_singleton, List.sum_singleton]
    rcases Nat.lt_succ_iff_lt_or_eq.mp ht with h | rfl
    · have ih := testBit_sum_pow p h
      cases hN : p N with
      | false => simpa using ih
      | true => rw [if_pos rfl, Nat.add_comm, Nat.testBit_two_pow_add_gt h, ih]
    · have htop := Nat.testBit_lt_two_pow hlt
      cases hN : p t with
      | false => simpa using htop
      | true => rw [if_pos rfl, Nat.add_comm, Nat.testBit_two_pow_add_eq, htop, Bool.not_false]

/-- The copy source is the lowest-numbered MEMBER (R85). -/
theorem copySource_eq_some_iff {s : State} {d : Nat} : copySource s = some d ↔
    d < 32 ∧ rosterAt s d = .member ∧ ∀ b < d, rosterAt s b ≠ .member := by
  simp only [copySource, List.find?_range_eq_some, List.mem_range, Config.stationCount, beq_iff_eq, Bool.not_eq_true',
    beq_eq_false_iff_ne]
  exact ⟨fun ⟨h1, h2, h3⟩ => ⟨h2, h1, h3⟩, fun ⟨h1, h2, h3⟩ => ⟨h2, h1, h3⟩⟩

/-- The places of a ROSTER, one for each station (R165). -/
theorem rosterReply_place (s : State) {d : Nat} (hd : d < 32) : (rosterReply s).places[d]? = some (rosterPlace s d) := by
  simp [rosterReply, Config.stationCount, hd]

/-- The place of a station in the ROSTER of one that receives (R165). -/
theorem rosterPlace_of_receives {s : State} (h : s.station.state.receives = true) (d : Nat) :
    rosterPlace s d =
      (rosterAt s d, if d = s.station.number ∨ rosterAt s d = .absent then 0 else (silenceAt s d).getD 0) := by
  rw [rosterPlace, if_pos h]
  by_cases hd : d = s.station.number ∨ rosterAt s d = .absent
  · rw [if_pos hd, if_neg (by tauto)]
  · rw [if_neg hd, if_pos (by tauto)]

/-- Settles O13: the replies' fields, read off. -/
theorem statusAndSurveyReport : Obligations.StatusAndSurveyReport := by
  refine ⟨fun s hp ha hf => ?_, fun s hp ha hf => ?_⟩
  · have htaken : exec .status s = .next (takeStatus [] (taken s)) :=
      congrArg Host.Outcome.next (powered_takeCommand hp ha rfl (decide_eq_true hf))
    refine ⟨statusReply (taken s), htaken, rfl, rfl, rfl, rfl, rfl, rfl, rfl, rfl, rfl, rfl, rfl, rfl,
      fun hs => if_pos ((sharing_iff _).mpr hs), fun hm hl => if_neg fun h => ((sharing_iff _).mp h).elim hm hl,
      fun t ht => ?_⟩
    exact testBit_sum_pow (fun t => (tagAt s t).inUse) ht
  · have htaken : exec .survey s = .next (takeSurvey [] (taken s)) :=
      congrArg Host.Outcome.next (powered_takeCommand hp ha rfl (decide_eq_true hf))
    refine ⟨rosterReply (taken s), htaken, by simp [rosterReply, Config.stationCount], fun hoff => ⟨?_, fun d hd => ?_⟩,
      fun hon => ⟨fun d hd => ?_, fun d => ?_⟩⟩
    · exact if_neg (by simp [hoff])
    · rw [rosterReply_place _ hd]
      exact congrArg some (if_neg (by simp [hoff]))
    · rw [rosterReply_place _ hd]
      exact congrArg some (rosterPlace_of_receives (s := taken s) hon d)
    · have hsource : (rosterReply (taken s)).source = copySource s := if_pos hon
      rw [hsource]
      exact copySource_eq_some_iff

end Sys2Proof.Machine
end

/-! # Requests, departure and timers: the obligations -/

section
namespace Sys2Proof.Machine

open Sys2Proof (Byte BusFrame FrameEnd TryEnd Instr)

/-! ## The tag for a claim -/

/-- No tag is found for a claim that no tag in use names. -/
theorem findTag_of_unnamed {s : State} {c : Nat} (h : ∀ u < 16, (tagAt s u).inUse = true → (tagAt s u).claim ≠ c)
    (ps : List Phase) : findTag s c ps = none := by
  refine List.find?_eq_none.mpr fun u hu hfound => ?_
  simp only [Bool.and_eq_true, beq_iff_eq] at hfound
  exact h u (List.mem_range.mp hu) hfound.1.1 hfound.1.2

/-- A tag in use that names a claim is one that is found for it. -/
theorem findTag_isSome {s : State} {c u : Nat} (hu : u < 16) (hin : (tagAt s u).inUse = true)
    (hc : (tagAt s u).claim = c) {ps : List Phase} {p : Phase} (hp : (tagAt s u).phase = some p) (hps : p ∈ ps) :
    (findTag s c ps).isSome = true := by
  refine List.find?_isSome.mpr ⟨u, List.mem_range.mpr hu, ?_⟩
  simp only [hin, hc, hp, Bool.true_and, beq_self_eq_true, List.any_eq_true]
  exact ⟨p, hps, by simp⟩

/-- The one tag in use that names a claim is the one found for it. -/
theorem findTag_of_only {s : State} {c n : Nat} (hn : n < 16) (hin : (tagAt s n).inUse = true)
    (hc : (tagAt s n).claim = c) {ps : List Phase} {p : Phase} (hp : (tagAt s n).phase = some p) (hps : p ∈ ps)
    (honly : ∀ m < 16, m ≠ n → (tagAt s m).inUse = true → (tagAt s m).claim ≠ c) : findTag s c ps = some n := by
  cases hf : findTag s c ps with
  | none => exact absurd (findTag_isSome hn hin hc hp hps) (by simp [hf])
  | some m =>
    obtain ⟨hm, hmin, hmc, _⟩ := findTag_some hf
    by_cases hmn : m = n
    · rw [hmn]
    · exact absurd hmc (honly m hm hmn hmin)

/-- Every phase is among the phases. -/
theorem mem_allPhases (p : Phase) : p ∈ allPhases := by cases p <;> decide

/-- A notice posted changes no tag. -/
@[simp] theorem tagAt_push (n : Notice) (s : State) (u : Nat) : tagAt (push n s) u = tagAt s u := rfl

/-! ## The end of a tag, where no WARN is pending -/

/-- Where no other WARN is pending and no WARN of the tag is unread, its end posts its notice and frees it, and does
nothing else but withdraw its frames (R173, R180). -/
theorem endTag_of_no_warn {t : Nat} {n : Notice} {s : State} (hw : ∀ u < 16, u ≠ t → (tagAt s u).warnLatch = false)
    (hn : ∀ m ∈ s.notices.entries, m.isWarnOf t = false) (hn' : n.isWarnOf t = false) :
    endTag t n s = setTag t Tag.free (push n (withdrawBound t s)) := by
  have hkeep : (s.notices.entries ++ [n]).filter (fun m => !m.isWarnOf t) = s.notices.entries ++ [n] := by
    refine List.filter_eq_self.mpr fun m hm => ?_
    rcases List.mem_append.mp hm with h | h
    · simp [hn m h]
    · simp [List.mem_singleton.mp h, hn']
  have hsame : { setTag t Tag.free (push n (withdrawBound t s)) with
      notices.entries := (setTag t Tag.free (push n (withdrawBound t s))).notices.entries.filter
        (fun m => !m.isWarnOf t) } = setTag t Tag.free (push n (withdrawBound t s)) := by
    simp only [setTag_notices, push_entries, withdrawBound_notices, hkeep]
    rfl
  unfold endTag
  simp only [hsame]
  refine postPendingWarns_of_none fun u hu => ?_
  rw [tagAt_setTag]
  split
  · rfl
  next hut => exact hw u hu hut

/-- Without a frame bound to the tag nothing is withdrawn (R134). -/
theorem withdrawBound_of_none {t : Nat} {s : State} (h : ∀ e ∈ s.tx.entries, e.binding ≠ some t) :
    withdrawBound t s = s := by
  have hoffer : offerWithout t s = s.tx.offered := by
    refine if_neg ?_
    simp only [List.any_eq_true, Bool.and_eq_true, beq_iff_eq, not_exists, not_and]
    exact fun e he hb => absurd hb.1 (h e he)
  have hfilter : s.tx.entries.filter (fun e => e.binding != some t || e.onBus) = s.tx.entries :=
    List.filter_eq_self.mpr fun e he => by simp [h e he]
  have hmap : s.tx.entries.map (fun e => if e.binding = some t then { e with dead := true } else e) = s.tx.entries :=
    (List.map_congr_left fun e he => if_neg (h e he)).trans (List.map_id _)
  rw [withdrawBound, hfilter, hmap, hoffer]
  rfl

/-- The one READY frame bound to the tag leaves the queue (R134). -/
theorem withdrawBound_entries_of_split {t : Nat} {s : State} {older younger : List TxEntry} {e : TxEntry}
    (he : s.tx.entries = older ++ e :: younger) (hb : e.binding = some t) (hr : e.onBus = false)
    (hx : ∀ x ∈ older ++ younger, x.binding ≠ some t) : (withdrawBound t s).tx.entries = older ++ younger := by
  have hfilter : s.tx.entries.filter (fun e => e.binding != some t || e.onBus) = older ++ younger := by
    have ho : ∀ x ∈ older, (x.binding != some t || x.onBus) = true := fun x h => by simp [hx x (by simp [h])]
    have hy : ∀ x ∈ younger, (x.binding != some t || x.onBus) = true := fun x h => by simp [hx x (by simp [h])]
    rw [he, List.filter_append, List.filter_cons_of_neg (by simp [hb, hr]), List.filter_eq_self.mpr ho,
      List.filter_eq_self.mpr hy]
  rw [withdrawBound, setEntries_entries, hfilter]
  exact (List.map_congr_left fun x h => if_neg (hx x h)).trans (List.map_id _)

/-! ## ACQUIRE (R168) -/

/-- The mode bit of a request byte (R190). -/
theorem modeOf_eq (b : Byte) : modeOf b = if b.getLsbD 7 then .shared else .sole := by
  simp [modeOf, BitVec.msb_eq_getLsbD_last]

/-- An ACQUIRE of a MEMBER that passes the checks takes the tag and queues its ASK, or ends it at once where a tag in
use names the claim (R161, R168). -/
theorem takeAcquire_passed {s : State} {tg q lh ll : Byte} (hm : s.station.state = .member) (ht : tg.toNat < 16)
    (hl : u16 lh ll ≤ 4095) (hu : (tagAt s tg.toNat).inUse = false) :
    takeAcquire [tg, q, lh, ll] s =
      if (findTag s (q.toNat % 64) allPhases).isSome then
        endTag tg.toNat (.refused tg.toNat .duplicate) (setTag tg.toNat
          (acquiredTag (q.toNat % 64) (modeOf q) (q.getLsbD 6) (leaseOrDefault s (u16 lh ll))) s)
      else enqueue (.ask (q.toNat % 64) (modeOf q) (q.getLsbD 6) (leaseOrDefault s (u16 lh ll))) (some tg.toNat)
        (setTag tg.toNat (acquiredTag (q.toNat % 64) (modeOf q) (q.getLsbD 6) (leaseOrDefault s (u16 lh ll))) s) := by
  have hm' : ¬ s.station.state ≠ .member := fun h => h hm
  have hrange : ¬ (Config.tagCount ≤ tg.toNat ∨ Config.maxLease < u16 lh ll) := by
    simp only [Config.tagCount, Config.maxLease]; omega
  have hidle : ¬ (tagAt s tg.toNat).inUse = true := by simp [hu]
  exact (if_neg hm').trans ((if_neg hrange).trans (if_neg hidle))

/-- Settles O16: by whether a tag in use names the claim. -/
theorem acquireTakesTheTag : Obligations.AcquireTakesTheTag := by
  intro s tg q lh ll hp ha hr hm ht hl hu c mode lease
  have htaken : exec .acquire s = .next (takeAcquire [tg, q, lh, ll] (taken s)) :=
    congrArg Host.Outcome.next (powered_takeCommand hp ha rfl hr)
  rw [htaken, takeAcquire_passed (s := taken s) hm ht hl hu]
  refine ⟨fun hfree => ?_, fun ⟨u, hu16, huse, huc, hph⟩ hw hb hn => ?_⟩
  · have hnone : findTag (taken s) (q.toNat % 64) allPhases = none := findTag_of_unnamed (s := taken s) hfree allPhases
    rw [hnone, modeOf_eq]
    rfl
  · obtain ⟨p, hp⟩ := Option.isSome_iff_exists.mp hph
    have hsome : (findTag (taken s) (q.toNat % 64) allPhases).isSome = true :=
      findTag_isSome (s := taken s) hu16 huse huc hp (mem_allPhases p)
    have hend : ∀ g, endTag tg.toNat (.refused tg.toNat .duplicate) (setTag tg.toNat g (taken s)) =
        setTag tg.toNat Tag.free (push (.refused tg.toNat .duplicate) (setTag tg.toNat g (taken s))) := fun g => by
      have hother : ∀ v < 16, v ≠ tg.toNat → (tagAt (setTag tg.toNat g (taken s)) v).warnLatch = false :=
        fun v hv hvt => by
          rw [tagAt_setTag, if_neg hvt]
          exact hw v hv
      rw [endTag_of_no_warn hother hn rfl, withdrawBound_of_none (s := setTag tg.toNat g (taken s)) hb]
    rw [if_pos hsome, hend]
    refine ⟨_, rfl, rfl, rfl, fun v hv => ?_, rfl⟩
    rw [tagAt_setTag]
    split
    · rfl
    next hvt =>
      rw [tagAt_push, tagAt_setTag, if_neg hvt]
      rfl

/-! ## CANCEL (R171) -/

/-- CANCEL of a SENDING tag (R171). -/
theorem takeCancel_sending {s : State} {tg : Byte} (hs : s.station.state = .member ∨ s.station.state = .leaving)
    (ht : tg.toNat < 16) (hu : (tagAt s tg.toNat).inUse = true) (hp : (tagAt s tg.toNat).phase = some .sending) :
    takeCancel [tg] s =
      if (tagAt s tg.toNat).cancelPending then deny .cancel .wrongPhase s
      else if askReady s tg.toNat then endTag tg.toNat (.cancelled tg.toNat .host) s
      else setTag tg.toNat { tagAt s tg.toNat with cancelPending := true } s := by
  unfold takeCancel
  exact (onTag_inUse hs ht rfl hu .cancel _).trans (by simp [hp])

/-- CANCEL of a WAITING tag (R171). -/
theorem takeCancel_waiting {s : State} {tg : Byte} (hs : s.station.state = .member ∨ s.station.state = .leaving)
    (ht : tg.toNat < 16) (hu : (tagAt s tg.toNat).inUse = true) (hp : (tagAt s tg.toNat).phase = some .waiting) :
    takeCancel [tg] s = enqueue (.cancel (tagAt s tg.toNat).claim) (some tg.toNat)
      (setTag tg.toNat { tagAt s tg.toNat with phase := some .cancelling } s) := by
  unfold takeCancel
  exact (onTag_inUse hs ht rfl hu .cancel _).trans (by simp [hp])

/-- CANCEL of a tag that is neither SENDING nor WAITING is denied (R171). -/
theorem takeCancel_wrongPhase {s : State} {tg : Byte} (hs : s.station.state = .member ∨ s.station.state = .leaving)
    (ht : tg.toNat < 16) (hu : (tagAt s tg.toNat).inUse = true)
    (hp : (tagAt s tg.toNat).phase = some .cancelling ∨ (tagAt s tg.toNat).phase = some .held ∨
      (tagAt s tg.toNat).phase = some .yielding) : takeCancel [tg] s = deny .cancel .wrongPhase s := by
  unfold takeCancel
  refine (onTag_inUse hs ht rfl hu .cancel _).trans ?_
  rcases hp with hp | hp | hp <;> simp [hp]

/-- Settles O19: by the tag's phase, and for a SENDING tag by where its ASK stands. -/
theorem cancelActsByPhase : Obligations.CancelActsByPhase := by
  intro s tg hp ha hr hs ht hu g
  have htaken : exec .cancel s = .next (takeCancel [tg] (taken s)) :=
    congrArg Host.Outcome.next (powered_takeCommand hp ha rfl hr)
  rw [htaken]
  refine ⟨fun hph hpend hbus => ?_, fun hph => ?_, fun hph => ?_, fun older younger e hph hpend he hb hk hob hx hw hn => ?_⟩
  · have hnotReady : ¬ askReady (taken s) tg.toNat = true := by
      simp only [askReady, List.any_eq_true, Bool.and_eq_true, beq_iff_eq, Bool.not_eq_true', not_exists, not_and,
        Bool.not_eq_false]
      exact fun e he hbk => hbus e he hbk.1 hbk.2
    have hpend' : ¬ (tagAt (taken s) tg.toNat).cancelPending = true := Bool.eq_false_iff.mp hpend
    rw [takeCancel_sending (s := taken s) hs ht hu hph, if_neg hpend', if_neg hnotReady]
    rfl
  · rw [takeCancel_waiting (s := taken s) hs ht hu hph]
    rfl
  · rcases hph with hph | hph | hph | ⟨hph, hpend⟩
    · rw [takeCancel_wrongPhase (s := taken s) hs ht hu (.inl hph)]
      rfl
    · rw [takeCancel_wrongPhase (s := taken s) hs ht hu (.inr (.inl hph))]
      rfl
    · rw [takeCancel_wrongPhase (s := taken s) hs ht hu (.inr (.inr hph))]
      rfl
    · have hpend' : (tagAt (taken s) tg.toNat).cancelPending = true := hpend
      rw [takeCancel_sending (s := taken s) hs ht hu hph, if_pos hpend']
      rfl
  · have hready : askReady (taken s) tg.toNat = true := by
      simp only [askReady, List.any_eq_true, Bool.and_eq_true, beq_iff_eq, Bool.not_eq_true']
      exact ⟨e, by simp [he], ⟨hb, hk⟩, hob⟩
    have hpend' : ¬ (tagAt (taken s) tg.toNat).cancelPending = true := Bool.eq_false_iff.mp hpend
    rw [takeCancel_sending (s := taken s) hs ht hu hph, if_neg hpend', if_pos hready,
      endTag_of_no_warn (s := taken s) (fun u hu _ => hw u hu) hn rfl]
    refine ⟨_, rfl, withdrawBound_entries_of_split (s := taken s) he hb hob hx, tagAt_setTag_same _ _ _,
      fun u _ hut => ?_, rfl, rfl⟩
    exact (tagAt_setTag _ _ _ _).trans (if_neg hut)

/-! ## LEAVE (R98) -/

/-- An internal frame whose key is not present is queued where an internal place is free (R124, R133). -/
theorem queueInternal_of_free {s : State} {f : TxFrame} (hk : keyPresent f s = false) (hf : internalHeld s < 3) :
    queueInternal s f = enqueue f none s :=
  if_neg fun h => h.elim (fun h => by simp [hk] at h) (fun h => absurd hf (Nat.not_lt.mpr h))

/-- With no own frame unapplied, the internal places are held by the queue's entries alone (R123). -/
theorem internalHeld_of_no_own {s : State} (h : ∀ e ∈ s.apply.rx, e.own = false) :
    internalHeld s = (s.tx.entries.filter (·.binding.isNone)).length := by
  have hrx : s.apply.rx.filter (fun e => e.own && e.binding.isNone && !e.kind.isTrain) = [] :=
    List.filter_eq_nil_iff.mpr fun e he => by simp [h e he]
  rw [internalHeld, hrx, List.length_nil, Nat.add_zero]

/-- With no own frame unapplied, a key is present only in the queue (R124). -/
theorem keyPresent_of_no_own {s : State} (h : ∀ e ∈ s.apply.rx, e.own = false) (f : TxFrame) :
    keyPresent f s = s.tx.entries.any (fun e => e.frame.sameKey f) := by
  have hrx : s.apply.rx.any (fun e => e.own && e.kind == f.kind && e.payload.take f.keyBytes.length == f.keyBytes) =
      false := List.any_eq_false.mpr fun e he => by simp [h e he]
  rw [keyPresent, hrx, Bool.or_false]

/-- Frames of different kinds have different keys (R124). -/
theorem sameKey_of_kind_ne {f g : TxFrame} (h : f.kind ≠ g.kind) : f.sameKey g = false := by
  simp [TxFrame.sameKey, h]

/-- Where every entry is bound, none has the key, and no own frame is unapplied, an internal frame is queued. -/
theorem queueInternal_of_all_bound {s : State} {f : TxFrame} (hrx : ∀ e ∈ s.apply.rx, e.own = false)
    (hb : ∀ e ∈ s.tx.entries, e.binding.isSome = true) (hk : ∀ e ∈ s.tx.entries, e.frame.sameKey f = false) :
    queueInternal s f = enqueue f none s := by
  have hnone : s.tx.entries.filter (·.binding.isNone) = [] :=
    List.filter_eq_nil_iff.mpr fun e he => by simpa [Option.isSome_iff_ne_none] using hb e he
  refine queueInternal_of_free ?_ ?_
  · rw [keyPresent_of_no_own hrx]
    exact List.any_eq_false.mpr fun e he => by simp [hk e he]
  · rw [internalHeld_of_no_own hrx, hnone]
    decide

/-- With nothing queued and no own frame unapplied an internal frame is queued. -/
theorem queueInternal_of_empty {s : State} {f : TxFrame} (he : s.tx.entries = [])
    (hrx : ∀ e ∈ s.apply.rx, e.own = false) : queueInternal s f = enqueue f none s :=
  queueInternal_of_all_bound hrx (by simp [he]) (by simp [he])

/-- Settles O11: with the internal frames gone, the DROP's key is not present and its place is free. -/
theorem leaveStartsTheDeparture : Obligations.LeaveStartsTheDeparture := by
  intro s hp ha hf
  have htaken : exec .leave s = .next (takeLeave [] (taken s)) :=
    congrArg Host.Outcome.next (powered_takeCommand hp ha rfl (decide_eq_true hf))
  rw [htaken]
  refine ⟨fun h => congrArg Host.Outcome.next (if_pos h), fun hm hload hready hkind hrx => ?_⟩
  have hgo : ¬ ((taken s).station.state ≠ .member ∨ isLoading (taken s) = true) := by
    rintro (h | h)
    · exact h hm
    · exact absurd h (Bool.eq_false_iff.mp hload)
  have hbound : s.tx.entries.filter (fun e => e.binding.isSome || e.onBus) =
      s.tx.entries.filter (fun e => e.binding.isSome) := by
    refine List.filter_congr fun e he => ?_
    cases hb : e.binding with
    | none => simp [hready e he hb]
    | some t => rfl
  have hqueue : queueInternal { taken s with
        tx.entries := s.tx.entries.filter (fun e => e.binding.isSome), watch.roll := none } (.drop s.station.number) =
      enqueue (.drop s.station.number) none { taken s with
        tx.entries := s.tx.entries.filter (fun e => e.binding.isSome), watch.roll := none } :=
    queueInternal_of_all_bound hrx (fun e he => (List.mem_filter.mp he).2) fun e he =>
      sameKey_of_kind_ne (hkind e (List.mem_filter.mp he).1 (List.mem_filter.mp he).2)
  refine congrArg Host.Outcome.next ((if_neg hgo).trans ?_)
  simp only [hbound, hqueue]
  exact moveTo_of_room hf

/-! ## The listen, copy-wait and rest timers (R90, R93, R102) -/

/-- Entry to ENTERING with a free place posts its STATE (R91). -/
theorem enterEntering_of_room {cause : StateCause} {s : State} (h : 0 < freePlaces s) :
    enterEntering cause s = push (.state .entering cause) { queueInternal (setState .entering { s with
      tx.entries := s.tx.entries.filter keptAtEntering
      watch.watches := []
      watch.roll := none
      watch.listen := none
      watch.copyWait := none }) .enter with station := { s.station with state := .entering, lastCause := cause } } := by
  have hroom : 0 < freePlaces { queueInternal (setState .entering { s with
      tx.entries := s.tx.entries.filter keptAtEntering
      watch.watches := []
      watch.roll := none
      watch.listen := none
      watch.copyWait := none }) .enter with
        station := { s.station with state := .entering, lastCause := cause } } := by
    rw [freePlaces_congr (s := s) (by simp) (by simp) (by simp)]
    exact h
  have hst : (queueInternal (setState .entering { s with
      tx.entries := s.tx.entries.filter keptAtEntering
      watch.watches := []
      watch.roll := none
      watch.listen := none
      watch.copyWait := none }) .enter).station = { s.station with state := .entering } := by simp; rfl
  rw [← postUnreserved_of_room _ hroom]
  unfold enterEntering postState
  simp only [hst]

/-- Settles O24: each timer at its limit, and before. -/
theorem listenAndRestTimersExpire : Obligations.ListenAndRestTimersExpire := by
  refine ⟨fun s hp hst => ⟨fun hearly => ?_, fun hdue he hrx hf => ?_⟩, fun s hp hst => ⟨fun hearly => ?_, fun hdue hf => ?_⟩⟩
  · exact congrArg Host.Outcome.next ((powered_high _ hp).trans (if_neg fun h => hearly h.2))
  · refine congrArg Host.Outcome.next ((powered_high _ hp).trans ((if_pos ⟨hst, hdue⟩).trans ?_))
    have hnone : s.tx.entries.filter keptAtEntering = [] := by rw [he]; rfl
    rw [enterEntering_of_room (s := { s with station.attempts := 1 }) hf]
    simp only [hnone]
    rw [queueInternal_of_empty]
    · rfl
    · rfl
    · exact hrx
  · exact congrArg Host.Outcome.next ((powered_high _ hp).trans (if_neg fun h => hearly h.2))
  · exact congrArg Host.Outcome.next ((powered_high _ hp).trans ((if_pos ⟨hst, hdue⟩).trans (moveTo_of_room hf)))

end Sys2Proof.Machine
end

/-! # The copy wait, and notices without room: the obligations -/

section
namespace Sys2Proof.Machine

open Sys2Proof (Byte BusFrame FrameEnd TryEnd Instr)

/-! ## The copy wait (R93) -/

/-- The roster's entries and the silence counters are apart. -/
@[simp] theorem silenceAt_setRoster (a d : Nat) (e : RosterEntry) (s : State) :
    silenceAt (setRoster a e s) d = silenceAt s d := rfl

/-- The silence counter of another station is written. -/
theorem setSilence_other {d : Nat} {v : Option Nat} {s : State} (h : d ≠ s.station.number) :
    setSilence d v s = { s with watch.silence := Table.set none s.watch.silence d v } := if_neg h

/-- With an attempt left the station enters again (R92, R93). -/
theorem nextAttempt_of_left {cause : StateCause} {s : State} (h : s.station.attempts < 3) :
    nextAttempt cause s = enterEntering cause { s with station.attempts := s.station.attempts + 1 } := if_pos h

/-- Without one it is halted (R93, R103). -/
theorem nextAttempt_of_none_left {cause : StateCause} {s : State} (h : s.station.attempts = 3) :
    nextAttempt cause s = halt .noCopy s := if_neg (by rw [h]; decide)

/-- The silent entries of other stations become ABSENT; nothing else of roster and silence counters changes (R93). -/
theorem forgetIfSilent_at (s : State) (a d : Nat) :
    (rosterAt (forgetIfSilent s a) d =
      if d = a ∧ a ≠ s.station.number ∧ silenceAt s a = some (4 * s.station.setup.r) then .absent else rosterAt s d) ∧
    (silenceAt (forgetIfSilent s a) d =
      if d = a ∧ a ≠ s.station.number ∧ silenceAt s a = some (4 * s.station.setup.r) then none else silenceAt s d) := by
  unfold forgetIfSilent
  split
  next h =>
    have hr : rosterAt (setSilence a none (setRoster a .absent s)) d = rosterAt (setRoster a .absent s) d := by
      simp [rosterAt]
    rw [hr, rosterAt_setRoster, silenceAt_setSilence a d none (setRoster a .absent s) h.1]
    simp [h.1, h.2]
  next h => simp [h]

theorem forgetIfSilent_station (s : State) (a : Nat) : (forgetIfSilent s a).station = s.station := by
  unfold forgetIfSilent
  split <;> simp

/-- The forgetting of the silent entries among `l`. -/
theorem foldl_forgetIfSilent_at (d : Nat) : ∀ (l : List Nat) (s : State),
    (rosterAt (l.foldl forgetIfSilent s) d =
      if d ∈ l ∧ d ≠ s.station.number ∧ silenceAt s d = some (4 * s.station.setup.r) then .absent else rosterAt s d) ∧
    (silenceAt (l.foldl forgetIfSilent s) d =
      if d ∈ l ∧ d ≠ s.station.number ∧ silenceAt s d = some (4 * s.station.setup.r) then none else silenceAt s d)
  | [], s => by simp
  | a :: l, s => by
    obtain ⟨ihr, ihs⟩ := foldl_forgetIfSilent_at d l (forgetIfSilent s a)
    obtain ⟨hr, hs⟩ := forgetIfSilent_at s a d
    rw [List.foldl_cons, ihr, ihs, hr, hs, forgetIfSilent_station]
    by_cases hda : d = a
    · subst hda
      by_cases hsil : d ≠ s.station.number ∧ silenceAt s d = some (4 * s.station.setup.r)
      · simp [hsil]
      · have hn : ¬ (d ∈ l ∧ d ≠ s.station.number ∧ silenceAt s d = some (4 * s.station.setup.r)) := fun h => hsil h.2
        simp [hsil]
    · simp [hda]

/-- The state in which the next attempt begins, after the silent entries were forgotten (R93). -/
abbrev forgetSilent (s : State) : State := (List.range Config.stationCount).foldl forgetIfSilent s

/-- Only roster and silence counters change with the forgetting. -/
theorem foldl_forgetIfSilent_eq : ∀ (l : List Nat) (s : State), ∃ roster silence,
    l.foldl forgetIfSilent s = { s with replica.roster := roster, watch.silence := silence }
  | [], s => ⟨s.replica.roster, s.watch.silence, rfl⟩
  | a :: l, s => by
    obtain ⟨r, v, h⟩ := foldl_forgetIfSilent_eq l (forgetIfSilent s a)
    rw [List.foldl_cons, h]
    unfold forgetIfSilent
    split
    next hd =>
      rw [setSilence_other (s := setRoster a .absent s) hd.1]
      exact ⟨r, v, rfl⟩
    next => exact ⟨r, v, rfl⟩

/-- An internal frame's key is present once it was to be queued with an internal place free (R124, R133). -/
theorem keyPresent_queueInternal {s : State} (f : TxFrame) (h : internalHeld s < 3) :
    keyPresent f (queueInternal s f) = true := by
  rcases queueInternal_cases s f with ⟨_, _, hq⟩ | ⟨hpresent | hfull, hq⟩ <;> rw [hq]
  · simp [keyPresent, newEntry, TxFrame.sameKey]
  · exact hpresent
  · exact absurd h (Nat.not_lt.mpr hfull)

/-- Fewer entries hold no more internal places. -/
theorem internalHeld_filter_le (p : TxEntry → Bool) {s t : State} (he : t.tx.entries = s.tx.entries.filter p)
    (ha : t.apply = s.apply) : internalHeld t ≤ internalHeld s := by
  rw [internalHeld, internalHeld, he, ha]
  exact Nat.add_le_add_right (List.filter_sublist.filter _).length_le _

/-- A station without tags that is halted with a free place leaves the bus and posts its STATE (R103). -/
theorem halt_of_noTags {cause : StateCause} {s : State} (hn : NoTags s) (hf : 0 < freePlaces s) :
    halt cause s = push (.state .halted cause) { leaveBus s with
      station := { s.station with state := .halted, lastCause := cause, disagree := 0 } } := by
  rw [halt, endTags_of_noTags _ hn]
  exact moveTo_of_room hf

/-- Settles O25: the expiry is held, or the next attempt begins on the roster without its silent entries, or the station
halts. -/
theorem copyWaitEnds : Obligations.CopyWaitEnds := by
  intro s hp hst hdue
  have hcopy : copyWaitDue s = true := by simp [copyWaitDue, hdue]
  obtain ⟨roster, silence, hu⟩ := foldl_forgetIfSilent_eq (List.range Config.stationCount) s
  have hat := fun d => foldl_forgetIfSilent_at d (List.range Config.stationCount) s
  have hexec : isLoading s = false → exec .copyWaitExpiry s =
      .next (nextAttempt .copyWait { s with replica.roster := roster, watch.silence := silence }) := fun hload =>
    congrArg Host.Outcome.next ((powered_high _ hp).trans
      ((if_pos ⟨hst, hcopy, hload⟩).trans (congrArg (nextAttempt .copyWait) hu)))
  rw [hu] at hat
  refine ⟨fun hload => ?_, fun hload hatt hint hf => ?_, fun hload hatt hn hf => ?_⟩
  · exact congrArg Host.Outcome.next ((powered_high _ hp).trans (if_neg fun h => by simp [hload] at h))
  · have henter := enterEntering_of_room (cause := .copyWait) (s := { s with
      replica.roster := roster, watch.silence := silence, station.attempts := s.station.attempts + 1 }) hf
    have hnext := nextAttempt_of_left (cause := .copyWait)
      (s := { s with replica.roster := roster, watch.silence := silence }) hatt
    rw [hexec hload, hnext, henter]
    refine ⟨_, rfl, rfl, by simp, ?_, by simp, by simp, by simp, by simp, by simp, by simp, fun d hd => ⟨fun hsil => ?_, fun hkept => ?_⟩⟩
    · exact keyPresent_queueInternal .enter (lt_of_le_of_lt (internalHeld_filter_le keptAtEntering rfl rfl) hint)
    · obtain ⟨hr, hs⟩ := hat d
      rw [if_pos ⟨List.mem_range.mpr hd, hsil⟩] at hr hs
      exact ⟨by simpa [rosterAt] using hr, by simpa [silenceAt] using hs⟩
    · obtain ⟨hr, hs⟩ := hat d
      have hno : ¬ (d ∈ List.range Config.stationCount ∧ d ≠ s.station.number ∧
          silenceAt s d = some (4 * s.station.setup.r)) := fun ⟨_, h1, h2⟩ => hkept.elim h1 (fun h => h h2)
      rw [if_neg hno] at hr hs
      exact ⟨by simpa [rosterAt] using hr, by simpa [silenceAt] using hs⟩
  · have hnext := nextAttempt_of_none_left (cause := .copyWait)
      (s := { s with replica.roster := roster, watch.silence := silence }) hatt
    have hgone := (halt_gone .noCopy { s with replica.roster := roster, watch.silence := silence }).2
    have hhalt := halt_of_noTags (cause := .noCopy)
      (s := { s with replica.roster := roster, watch.silence := silence }) hn hf
    rw [hexec hload, hnext]
    refine ⟨_, rfl, hgone, ?_⟩
    rw [hhalt]
    exact ⟨rfl, rfl, rfl, rfl⟩

/-! ## Notices without room (R179) -/

/-- A notice that is no OVERFLOW is not bumped. -/
theorem map_bump_of_none {es : List Notice} (h : es.any Notice.isOverflow = false) : es.map Notice.bump = es := by
  refine (List.map_congr_left fun m hm => ?_).trans (List.map_id _)
  have hno : m.isOverflow = false := by simpa using List.any_eq_false.mp h m hm
  cases m with
  | overflow n => cases hno
  | _ => rfl

/-- A drop is counted where the OVERFLOW stands (R179). -/
theorem countDrop_countedDrop (s : State) : CountedDrop s (countDrop s) := by
  refine ⟨fun hno => ?_, fun older younger n hread he hothers => ?_, fun hread => if_pos hread⟩
  · obtain ⟨hany, hread⟩ := Bool.or_eq_false_iff.mp hno
    rw [countDrop, if_neg (by simp [hread]), if_neg (by simp [hany])]
  · have hany : s.notices.entries.any Notice.isOverflow = true := by simp [he, Notice.isOverflow]
    rw [List.any_append, Bool.or_eq_false_iff] at hothers
    rw [countDrop, if_neg (by simp [hread]), if_pos hany, he, List.map_append, List.map_cons,
      map_bump_of_none hothers.1, map_bump_of_none hothers.2]
    rfl

/-- Counting a drop changes the notices only. -/
theorem countDrop_other (s : State) : { countDrop s with notices := s.notices } = s := by
  rcases countDrop_cases s with ⟨_, h⟩ | ⟨_, _, h⟩ | ⟨_, h⟩ <;> rw [h] <;> rfl

/-- With no free place an unreserved notice is counted (R179). -/
theorem postUnreserved_countedDrop {s : State} (h : freePlaces s = 0) (n : Notice) :
    CountedDrop s (postUnreserved n s) := by
  rw [postUnreserved_of_full n h]
  exact countDrop_countedDrop s

/-- What a poster did beside its notice stands, where the notice found no free place (R179). -/
theorem countedDrop_of_poster {s u : State} (hn : u.notices = s.notices) (hf : freePlaces u = 0) (n : Notice) :
    CountedDrop { postUnreserved n u with notices := s.notices } (postUnreserved n u) := by
  rw [← hn, postUnreserved_of_full n hf, countDrop_other]
  exact countDrop_countedDrop u

/-- A change of tags that keeps each reservation keeps the free places. -/
theorem freePlaces_of_reservations {s t : State} (hn : t.notices.entries = s.notices.entries)
    (hr : t.port.reading = s.port.reading) (ht : ∀ u, (tagAt t u).reservations = (tagAt s u).reservations) :
    freePlaces t = freePlaces s := by
  have hres : reservations t = reservations s := by simp [reservations, ht]
  simp [freePlaces, placesTaken, entriesPresent, overflowPresent, readingOverflow, hn, hr, hres]

/-- A tag written with its reservations kept keeps the free places. -/
theorem freePlaces_setTag {n : Nat} {v : Tag} {s : State} (h : v.reservations = (tagAt s n).reservations) :
    freePlaces (setTag n v s) = freePlaces s := by
  refine freePlaces_of_reservations rfl rfl fun u => ?_
  rw [tagAt_setTag]
  split
  next hu => rw [hu, h]
  next => rfl

/-! ### At the application of an own frame -/

/-- An own frame's tag, in use, is the one it is bound to (R44). -/
theorem boundTag_eq {e : RxEntry} {n : Nat} {s : State} (ho : e.own = true) (hb : e.binding = some n)
    (hu : (tagAt s n).inUse = true) : boundTag e s = some n := by
  simp [boundTag, hb, ho, hu]

/-- The outcome of an own ASK reaches its SENDING tag (R49). -/
theorem toAskTag_of_sending {e : RxEntry} {n : Nat} {s : State} (hb : boundTag e s = some n)
    (hp : (tagAt s n).phase = some .sending) (act : Nat → State → State) : toAskTag e act s = act n s := by
  rw [toAskTag, hb]
  exact if_pos hp

/-- An ASK of a MEMBER that neither holds nor waits, with waiters before it, may wait, and finds room in the pool
(R48). -/
theorem askDecision_queued {a : AskFields} {d : Nat} {s : State} (hm : rosterAt s d = .member)
    (hh : ∀ h ∈ (claimAt s a.claim).holders, h.station ≠ d) (hw : ∀ w ∈ (claimAt s a.claim).waiters, w.station ≠ d)
    (hg : (claimAt s a.claim).waiters ≠ [] ∨ grantTest (claimAt s a.claim).holders a.mode = false)
    (hwait : a.noWait = false) (hpool : occupancy s < 128) : askDecision a d s = .queued := by
  have hholds : holdsClaim s a.claim d = false := List.any_eq_false.mpr fun h hm => by simp [hh h hm]
  have hwaits : waitsOn s a.claim d = false := List.any_eq_false.mpr fun w hm => by simp [hw w hm]
  have hgrant : ¬ ((claimAt s a.claim).waiters = [] ∧ grantTest (claimAt s a.claim).holders a.mode = true) :=
    fun ⟨h1, h2⟩ => hg.elim (fun h => h h1) (fun h => by simp [h] at h2)
  have hfull : ¬ Config.poolSize ≤ occupancy s := Nat.not_le.mpr hpool
  rw [askDecision, if_neg (by simp [hm]), if_neg (by simp [hholds, hwaits]), if_neg hgrant, if_neg (by simp [hwait]),
    if_neg hfull]

/-- The step that applies the oldest received frame (R41). -/
theorem exec_apply {k : FrameKind} {body : RxEntry → State → State} {e : RxEntry} {rest : List RxEntry} {s : State}
    (h : FrontIs s k e rest) : powered (applyFront k body) s = body e (atFront e rest s) :=
  (powered_high _ h.1).trans (applyFront_of_frontIs k body e rest s h)

end Sys2Proof.Machine
end

/-! # Notices without room, at the posters -/

section
namespace Sys2Proof.Machine

open Sys2Proof (Byte BusFrame FrameEnd TryEnd Instr)

/-! ## What the rule of the oldest received frame finds -/

@[simp] theorem atFront_station (e : RxEntry) (rest : List RxEntry) (s : State) :
    (atFront e rest s).station = s.station := rfl

@[simp] theorem atFront_replica (e : RxEntry) (rest : List RxEntry) (s : State) :
    (atFront e rest s).replica = s.replica := rfl

@[simp] theorem atFront_tx (e : RxEntry) (rest : List RxEntry) (s : State) : (atFront e rest s).tx = s.tx := rfl

@[simp] theorem atFront_train (e : RxEntry) (rest : List RxEntry) (s : State) :
    (atFront e rest s).train = s.train := rfl

@[simp] theorem atFront_link (e : RxEntry) (rest : List RxEntry) (s : State) : (atFront e rest s).link = s.link := rfl

@[simp] theorem atFront_port (e : RxEntry) (rest : List RxEntry) (s : State) : (atFront e rest s).port = s.port := rfl

@[simp] theorem atFront_notices (e : RxEntry) (rest : List RxEntry) (s : State) :
    (atFront e rest s).notices = s.notices := rfl

@[simp] theorem atFront_tags (e : RxEntry) (rest : List RxEntry) (s : State) : (atFront e rest s).tags = s.tags := rfl

@[simp] theorem atFront_claimAt (e : RxEntry) (rest : List RxEntry) (s : State) (c : Nat) :
    claimAt (atFront e rest s) c = claimAt s c := rfl

@[simp] theorem atFront_rosterAt (e : RxEntry) (rest : List RxEntry) (s : State) (d : Nat) :
    rosterAt (atFront e rest s) d = rosterAt s d := rfl

@[simp] theorem atFront_tagAt (e : RxEntry) (rest : List RxEntry) (s : State) (n : Nat) :
    tagAt (atFront e rest s) n = tagAt s n := rfl

@[simp] theorem atFront_watchAt (e : RxEntry) (rest : List RxEntry) (s : State) (c h : Nat) :
    watchAt (atFront e rest s) c h = watchAt s c h := rfl

/-- The free places are as before the application. -/
theorem atFront_freePlaces (e : RxEntry) (rest : List RxEntry) (s : State) :
    freePlaces (atFront e rest s) = freePlaces s := freePlaces_congr rfl rfl rfl

/-! ## ASK with its fields in range (R47, R48) -/

/-- Claim, flags and lease of an ASK in their ranges (R47). -/
theorem AskFields.inRange_of {a : AskFields} (hc : a.claim < 64) (hf : a.flags < 4) (hl : 1 ≤ a.lease)
    (hl' : a.lease ≤ 4095) : a.inRange = true := by
  have h0 : (a.lease == 0) = false := by simpa using Nat.one_le_iff_ne_zero.mp hl
  have hmax : decide (Config.maxLease < a.lease) = false := decide_eq_false (Nat.not_lt.mpr hl')
  simp [AskFields.inRange, leaseOutOfRange, Config.claimCount, hc, hf, h0, hmax]

/-- An ASK in range is decided where the claim table is shared (R48). -/
theorem askBody_decided {a : AskFields} {e : RxEntry} {s : State} (hp : parseAsk e.payload = some a)
    (hs : s.station.state = .member ∨ s.station.state = .leaving) (hr : a.inRange = true) :
    askBody e s = askEffect a e (askDecision a e.sender s) s := by
  have hshare : s.station.state.sharing = true := (sharing_iff _).mpr hs
  simp [askBody, hp, hshare, hr]

/-- An ASK queued with no cancel pending: WAITING, with QUEUED (R49). -/
theorem tagAskQueued_plain {c p n : Nat} {s : State} (h : (tagAt s n).cancelPending = false) :
    tagAskQueued c p n s =
      postUnreserved (.queued n p) (setTag n { tagAt s n with phase := some .waiting } s) :=
  if_neg (by simp [h])

/-! ## Frames that name a hold (R52) -/

/-- A reference matches where the holder's slot has the serial (R5). -/
theorem refMatches_iff {s : State} {c h serial : Nat} :
    refMatches s c h serial = true ↔ ∃ x, slotOf (claimAt s c) h = some x ∧ x.serial = serial := by
  unfold refMatches
  cases hs : slotOf (claimAt s c) h <;> simp

/-- Leases of 1 to 4095 are in range. -/
theorem leaseOutOfRange_eq_false {l : Nat} (h1 : 1 ≤ l) (h2 : l ≤ 4095) : leaseOutOfRange l = false := by
  have h0 : (l == 0) = false := by simpa using Nat.one_le_iff_ne_zero.mp h1
  have hmax : decide (Config.maxLease < l) = false := decide_eq_false (Nat.not_lt.mpr h2)
  rw [leaseOutOfRange, h0, hmax, Bool.or_self]

/-- A matching EXTEND of a MEMBER renews the hold; at its sender its tag is told (R52). -/
theorem extendBody_matching {e : RxEntry} {s : State} {c serial l : Nat} (hp : parseExtend e.payload = some (c, serial, l))
    (hs : s.station.state = .member ∨ s.station.state = .leaving) (ht : rosterAt s e.sender = .member) (hc : c < 64)
    (h1 : 1 ≤ l) (h2 : l ≤ 4095) (hr : refMatches s c e.sender serial = true) :
    extendBody e s =
      if e.sender = s.station.number then
        tagExtended c l (nextSerial (claimAt s c).serial) (extendHold c e.sender l s)
      else extendHold c e.sender l s := by
  have hshare : s.station.state.sharing = true := (sharing_iff _).mpr hs
  have hturn : inTurn e s = true := by simp [inTurn, ht]
  have hclaim : decide (c < Config.claimCount) = true := decide_eq_true hc
  simp [extendBody, hp, hshare, hturn, hclaim, leaseOutOfRange_eq_false h1 h2, hr]

/-- The clearing of a latch changes the warn latch of a tag at most. -/
theorem clearLatch_tagAt (c : Nat) (s : State) (u : Nat) :
    ∃ w, tagAt (clearLatch c s) u = { tagAt s u with warnLatch := w } := by
  unfold clearLatch
  split
  next t _ =>
    rw [tagAt_setTag]
    split
    next hu => exact ⟨false, by rw [hu]⟩
    next => exact ⟨_, rfl⟩
  next => exact ⟨_, rfl⟩

/-- This station's hold with a lease of 2 or more restarts above its warn point, with nothing posted (R72, R74). -/
theorem startWatch_own {c h l serial : Nat} {s : State} (hh : h = s.station.number) (hl : 2 ≤ l) :
    startWatch c h l serial s = setWatch c h (some ⟨serial, l, false⟩) s := by
  have hstart : watchStart s h l = l := if_pos hh
  have habove : ¬ l ≤ warnPoint l := by simp only [warnPoint]; omega
  rw [startWatch, startWatchAt, hstart, if_neg fun h => habove h.2]

/-- An extension of this station's hold with a lease of 2 or more: record, LAPSE, latch and watch (R9, R72). -/
theorem extendHold_own {c h l : Nat} {s : State} (hh : h = s.station.number) (hl : 2 ≤ l) :
    extendHold c h l s =
      setWatch c h (some ⟨nextSerial (claimAt s c).serial, l, false⟩)
        (clearLatch c (withdrawLapse c h (setClaim c ((claimAt s c).extend h l) s))) := by
  unfold extendHold
  simp only [if_pos hh]
  exact startWatch_own (by simpa using hh) hl

/-- It changes no tag but for the warn latch. -/
theorem extendHold_own_tagAt {c h l : Nat} {s : State} (hh : h = s.station.number) (hl : 2 ≤ l) (u : Nat) :
    ∃ w, tagAt (extendHold c h l s) u = { tagAt s u with warnLatch := w } := by
  rw [extendHold_own hh hl]
  exact clearLatch_tagAt c (withdrawLapse c h (setClaim c ((claimAt s c).extend h l) s)) u

theorem extendHold_own_notices {c h l : Nat} {s : State} (hh : h = s.station.number) (hl : 2 ≤ l) :
    (extendHold c h l s).notices = s.notices := by
  rw [extendHold_own hh hl]
  simp

/-- The tag for an extended hold is the one in use that names the claim (R52). -/
theorem tagExtended_of_only {c l serial n : Nat} {s : State} (hn : n < 16) (hin : (tagAt s n).inUse = true)
    (hc : (tagAt s n).claim = c) (hp : (tagAt s n).phase = some .held ∨ (tagAt s n).phase = some .yielding)
    (honly : ∀ m < 16, m ≠ n → (tagAt s m).inUse = true → (tagAt s m).claim ≠ c) :
    tagExtended c l serial s = postUnreserved (.extended n serial)
      (setTag n { tagAt s n with lease := l, extendInFlight := false } s) := by
  have hfind : findTag s c [.held, .yielding] = some n := by
    rcases hp with hp | hp
    · exact findTag_of_only hn hin hc hp (by simp) honly
    · exact findTag_of_only hn hin hc hp (by simp) honly
  rw [tagExtended, hfind]

/-! ## CANCEL that is stale (R55) -/

/-- A CANCEL of a MEMBER that does not wait on the claim is stale (R55). -/
theorem cancelBody_stale {e : RxEntry} {s : State} {c : Nat} (hp : parseOne e.payload = some c)
    (hs : s.station.state = .member ∨ s.station.state = .leaving) (ht : rosterAt s e.sender = .member)
    (hw : 64 ≤ c ∨ ∀ w ∈ (claimAt s c).waiters, w.station ≠ e.sender) : cancelBody e s = staleCancel e s := by
  have hshare : s.station.state.sharing = true := (sharing_iff _).mpr hs
  have hturn : inTurn e s = true := by simp [inTurn, ht]
  have hno : (decide (c < Config.claimCount) && waitsOn s c e.sender) = false := by
    rcases hw with hw | hw
    · simp [Config.claimCount, Nat.not_lt.mpr hw]
    · have hwaits : waitsOn s c e.sender = false := List.any_eq_false.mpr fun w hm => by simp [hw w hm]
      rw [hwaits, Bool.and_false]
  simp only [cancelBody, hp, hshare, hturn, hno, Bool.and_self, if_true, Bool.false_eq_true, if_false]

/-- A station that moves without a free place moves all the same, and its STATE is counted (R87, R179). -/
theorem moveTo_countedDrop {st : StationState} {cause : StateCause} {s u : State} (hn : u.notices = s.notices)
    (hf : freePlaces u = 0) :
    CountedDrop { moveTo st cause u with notices := s.notices } (moveTo st cause u) :=
  countedDrop_of_poster (u := { setState st u with station.lastCause := cause }) hn hf _

/-- Settles O4: the poster's other effects are those before its notice, and the notice is counted. -/
theorem noticeWithoutRoomIsCounted : Obligations.NoticeWithoutRoomIsCounted := by
  intro s hf
  refine ⟨fun n => postUnreserved_countedDrop hf n, fun hp => ⟨fun b hw hlost => ?_, fun ha hpart hage => ?_,
    fun hst hdue => ?_, fun e rest n hm ho hself hb hn hu hturn => ⟨fun cb fb lh ll hfront hpay hc hfl hl1 hl2 hph hpend hwait
      hh hws hpool => ?_, fun c serial lease hfront hpay hc hl1 hl2 hslot htc hph honly => ?_,
      fun cb hfront hpay hws hph => ?_⟩⟩⟩
  · rw [exec_commandByteWrite_unspoiled hp hw]
    rcases hlost with hfull | ⟨hempty, hunknown⟩
    · rw [expireAssembly_of_young (.inr (.inl hfull)), latchByte_lost hfull]
      exact ⟨_, rfl, postUnreserved_countedDrop hf _⟩
    · rw [expireAssembly_of_young (.inl hempty), latchByte_unknown hempty hunknown]
      exact ⟨_, rfl, postUnreserved_countedDrop hf _⟩
  · obtain ⟨b, bs, hbs⟩ := List.exists_cons_of_ne_nil ha
    rw [hbs] at hpart
    exact ⟨_, congrArg Host.Outcome.next ((powered_high _ hp).trans (expireAssembly_of_aged hbs hpart hage)),
      postUnreserved_countedDrop (s := taken s) hf _⟩
  · refine ⟨_, congrArg Host.Outcome.next ((powered_high _ hp).trans (if_pos ⟨hst, hdue⟩)), by simp, by simp, ?_⟩
    exact moveTo_countedDrop rfl hf
  · have hrange : AskFields.inRange ⟨cb.toNat, fb.toNat, u16 lh ll⟩ = true :=
      AskFields.inRange_of hc (by show fb.toNat < 4; omega) hl1 hl2
    have hparse : parseAsk e.payload = some ⟨cb.toNat, fb.toNat, u16 lh ll⟩ := by rw [hpay]; rfl
    have hnowait : AskFields.noWait ⟨cb.toNat, fb.toNat, u16 lh ll⟩ = false := by
      have : fb.toNat / 2 % 2 = 0 := by omega
      simp [AskFields.noWait, this]
    have hdecide : askDecision ⟨cb.toNat, fb.toNat, u16 lh ll⟩ e.sender (atFront e rest s) = .queued :=
      askDecision_queued hturn hh hws (.inl hwait) hnowait hpool
    have hexec : exec .applyAsk s = .next (askEffect ⟨cb.toNat, fb.toNat, u16 lh ll⟩ e .queued (atFront e rest s)) := by
      rw [← hdecide, ← askBody_decided (s := atFront e rest s) hparse (.inl hm) hrange]
      exact congrArg Host.Outcome.next (exec_apply hfront)
    have hact : askEffect ⟨cb.toNat, fb.toNat, u16 lh ll⟩ e .queued (atFront e rest s) = _ :=
      (toAskTag_of_sending (s := appendWaiter cb.toNat _ (atFront e rest s)) (boundTag_eq ho hb hu) hph _).trans
        (tagAskQueued_plain hpend)
    refine ⟨_, hexec.trans (congrArg Host.Outcome.next hact), ?_, countedDrop_of_poster rfl ?_ _⟩
    · simp [tagAt, setTag]
    · rw [freePlaces_setTag (by rfl)]
      exact (freePlaces_congr rfl rfl rfl).trans hf
  · have hmatch : refMatches (atFront e rest s) c e.sender serial = true := refMatches_iff.mpr hslot
    have hbody := extendBody_matching hpay (s := atFront e rest s) (.inl hm) hturn hc (by omega) hl2 hmatch
    have htags := fun u => extendHold_own_tagAt (c := c) (s := atFront e rest s) hself hl1 u
    obtain ⟨w, htag⟩ := htags n
    have hothers : ∀ m < 16, m ≠ n → (tagAt (extendHold c e.sender lease (atFront e rest s)) m).inUse = true →
        (tagAt (extendHold c e.sender lease (atFront e rest s)) m).claim ≠ c := fun m hm16 hmn hin => by
      obtain ⟨v, hv⟩ := htags m
      rw [hv] at hin ⊢
      exact honly m hm16 hmn hin
    have htold := tagExtended_of_only (l := lease) (serial := nextSerial (claimAt s c).serial) hn
      (by rw [htag]; exact hu) (by rw [htag]; exact htc) (.inl (by rw [htag]; exact hph)) hothers
    have hexec : exec .applyExtend s = .next (postUnreserved (.extended n (nextSerial (claimAt s c).serial))
        (setTag n { tagAt (extendHold c e.sender lease (atFront e rest s)) n with lease := lease, extendInFlight := false }
          (extendHold c e.sender lease (atFront e rest s)))) := by
      rw [← htold]
      exact congrArg Host.Outcome.next ((exec_apply hfront).trans (hbody.trans (if_pos hself)))
    refine ⟨_, hexec, ?_, countedDrop_of_poster ?_ ?_ _⟩
    · simp [tagAt, setTag]
    · exact extendHold_own_notices hself hl1
    · rw [freePlaces_setTag (by rfl), freePlaces_of_reservations (s := s), hf]
      · rw [extendHold_own_notices (s := atFront e rest s) hself hl1]
        rfl
      · simp
      · intro u
        obtain ⟨v, hv⟩ := htags u
        rw [hv]
        rfl
  · have hbody := cancelBody_stale (e := e) (s := atFront e rest s) (c := cb.toNat) (by rw [hpay]; rfl) (.inl hm) hturn
      (.inr hws)
    have hlate : staleCancel e (atFront e rest s) = postUnreserved (.tooLate n) (atFront e rest s) := by
      rw [staleCancel, boundTag_eq (s := atFront e rest s) ho hb hu]
      exact if_pos hph
    have hexec : exec .applyCancel s = .next (postUnreserved (.tooLate n) (atFront e rest s)) := by
      rw [← hlate, ← hbody]
      exact congrArg Host.Outcome.next (exec_apply hfront)
    exact ⟨_, hexec, postUnreserved_countedDrop ((atFront_freePlaces e rest s).trans hf) _⟩

end Sys2Proof.Machine
end

/-! # Ticks and WARNs: the obligations -/

section
namespace Sys2Proof.Machine

open Sys2Proof (Byte BusFrame FrameEnd TryEnd Instr)

/-! ## Pending WARNs (R180) -/

/-- A notice that is no OVERFLOW takes one of the free places (R175). -/
theorem freePlaces_push {m : Notice} (hm : m.isOverflow = false) (s : State) :
    freePlaces (push m s) = freePlaces s - 1 := by
  have h := placesTaken_push m s
  rw [hm, Bool.or_false] at h
  simp only [freePlaces]
  omega

/-- The WARN of tag `n` as it is posted now. -/
def warnOf (s : State) (n : Nat) : Notice := .warn n (ticksLeft s (tagAt s n).claim s.station.number)

/-- The WARN of tag `n` is posted and its latch clears (R180). -/
def postWarn (s : State) (n : Nat) : State := push (warnOf s n) (setTag n { tagAt s n with warnLatch := false } s)

/-- A pending WARN is posted where a place is free (R180). -/
theorem postPendingWarn_of_pending {s : State} {n : Nat} (hw : (tagAt s n).warnLatch = true) (hf : 0 < freePlaces s) :
    postPendingWarn s n = postWarn s n := if_pos ⟨hw, hf⟩

theorem postPendingWarn_of_not_pending {s : State} {n : Nat} (hw : (tagAt s n).warnLatch = false) :
    postPendingWarn s n = s := if_neg fun h => by simp [hw] at h

theorem tagAt_postWarn (s : State) (n u : Nat) :
    tagAt (postWarn s n) u = if u = n then { tagAt s n with warnLatch := false } else tagAt s u := by
  rw [postWarn, tagAt_push, tagAt_setTag]

theorem freePlaces_postWarn (s : State) (n : Nat) : freePlaces (postWarn s n) = freePlaces s - 1 := by
  rw [postWarn, freePlaces_push rfl, freePlaces_setTag (by rfl)]

/-- Of the tags of `l`, those with a WARN pending post it while places are free, in their order (R180). -/
theorem foldl_postPendingWarn : ∀ {l : List Nat}, l.Nodup → ∀ s : State, l.foldl postPendingWarn s =
    ((l.filter (fun n => (tagAt s n).warnLatch)).take (freePlaces s)).foldl postWarn s
  | [], _, s => by simp
  | n :: l, hl, s => by
    obtain ⟨hn, hl'⟩ := List.nodup_cons.mp hl
    rw [List.foldl_cons]
    cases hw : (tagAt s n).warnLatch with
    | false =>
      rw [postPendingWarn_of_not_pending hw, List.filter_cons_of_neg (by simp [hw])]
      exact foldl_postPendingWarn hl' s
    | true =>
      rcases Nat.eq_zero_or_pos (freePlaces s) with hf | hf
      · rw [hf, List.take_zero, List.foldl_nil, ← List.foldl_cons]
        exact foldl_eq_self fun m _ => if_neg fun h => absurd h.2 (by omega)
      · have hsame : l.filter (fun m => (tagAt (postWarn s n) m).warnLatch) = l.filter (fun m => (tagAt s m).warnLatch) := by
          refine List.filter_congr fun m hm => ?_
          rw [tagAt_postWarn, if_neg fun h : m = n => hn (h ▸ hm)]
        obtain ⟨k, hk⟩ : ∃ k, freePlaces s = k + 1 := ⟨freePlaces s - 1, by omega⟩
        rw [postPendingWarn_of_pending hw hf, foldl_postPendingWarn hl', hsame, freePlaces_postWarn, hk,
          List.filter_cons_of_pos (by simp [hw]), List.take_succ_cons, List.foldl_cons]
        rfl

/-- What the posting of the WARNs of distinct tags does: their notices in order, and their latches clear (R180). -/
theorem foldl_postWarn : ∀ {l : List Nat}, l.Nodup → ∀ s : State,
    (l.foldl postWarn s).notices.entries = s.notices.entries ++ l.map (warnOf s) ∧
      (∀ u, tagAt (l.foldl postWarn s) u = if u ∈ l then { tagAt s u with warnLatch := false } else tagAt s u) ∧
      l.foldl postWarn s = { s with
        tags := (l.foldl postWarn s).tags
        notices.entries := (l.foldl postWarn s).notices.entries }
  | [], _, s => by simp
  | n :: l, hl, s => by
    obtain ⟨hn, hl'⟩ := List.nodup_cons.mp hl
    obtain ⟨hentries, htags, hrest⟩ := foldl_postWarn hl' (postWarn s n)
    have hwarn : l.map (warnOf (postWarn s n)) = l.map (warnOf s) := by
      refine List.map_congr_left fun m hm => ?_
      have hmn : m ≠ n := fun h => hn (h ▸ hm)
      rw [warnOf, tagAt_postWarn, if_neg hmn]
      rfl
    rw [List.foldl_cons]
    refine ⟨?_, fun u => ?_, ?_⟩
    · rw [hentries, hwarn]
      simp [postWarn]
    · rw [htags, tagAt_postWarn]
      by_cases hun : u = n
      · subst hun
        simp [hn]
      · simp [hun]
    · rw [hrest]
      rfl

/-- The tags whose WARNs are posted: those pending, in number order, as many as places are free (R180). -/
def warnsPosted (s : State) : List Nat :=
  ((List.range 16).filter (fun n => (tagAt s n).warnLatch)).take (freePlaces s)

theorem warnsPosted_nodup (s : State) : (warnsPosted s).Nodup :=
  (List.nodup_range.filter _).sublist (List.take_sublist _ _)

/-- Posting the pending WARNs posts those (R180). -/
theorem postPendingWarns_eq (s : State) : postPendingWarns s = (warnsPosted s).foldl postWarn s :=
  foldl_postPendingWarn List.nodup_range s

theorem postPendingWarns_entries (s : State) :
    (postPendingWarns s).notices.entries = s.notices.entries ++ (warnsPosted s).map (warnOf s) := by
  rw [postPendingWarns_eq]
  exact (foldl_postWarn (warnsPosted_nodup s) s).1

theorem tagAt_postPendingWarns (s : State) (u : Nat) : tagAt (postPendingWarns s) u =
    if u ∈ warnsPosted s then { tagAt s u with warnLatch := false } else tagAt s u := by
  rw [postPendingWarns_eq]
  exact (foldl_postWarn (warnsPosted_nodup s) s).2.1 u

/-- It changes tags and unread notices only. -/
theorem postPendingWarns_changes (s : State) : postPendingWarns s = { s with
    tags := (postPendingWarns s).tags, notices.entries := (postPendingWarns s).notices.entries } := by
  rw [postPendingWarns_eq]
  exact (foldl_postWarn (warnsPosted_nodup s) s).2.2

/-- Settles O22: the step posts the pending WARNs. -/
theorem pendingWarnsArePosted : Obligations.PendingWarnsArePosted := by
  intro s hp posted
  refine ⟨_, congrArg Host.Outcome.next (powered_high _ hp), postPendingWarns_entries s, tagAt_postPendingWarns s,
    fun h => ?_, postPendingWarns_changes s⟩
  exact h.elim postPendingWarns_of_none postPendingWarns_of_full

/-! ## The tick (R67, R68, R71) -/

/-- Between `s` and `t` no more of a tag changed than its warn latch. -/
def LatchesOnly (s t : State) : Prop := ∀ n, ∃ latch, tagAt t n = { tagAt s n with warnLatch := latch }

theorem LatchesOnly.refl (s : State) : LatchesOnly s s := fun n => ⟨(tagAt s n).warnLatch, rfl⟩

theorem LatchesOnly.trans {s t u : State} (h1 : LatchesOnly s t) (h2 : LatchesOnly t u) : LatchesOnly s u := fun n => by
  obtain ⟨_, h1⟩ := h1 n
  obtain ⟨w, h2⟩ := h2 n
  exact ⟨w, by rw [h2, h1]⟩

/-- The tag found for a claim is found by what a latch leaves alone. -/
theorem LatchesOnly.findTag {s t : State} (h : LatchesOnly s t) (c : Nat) (ps : List Phase) :
    Machine.findTag t c ps = Machine.findTag s c ps := by
  refine List.find?_congr fun n _ => ?_
  obtain ⟨_, hn⟩ := h n
  rw [hn]

theorem setLatch_latchesOnly (n : Nat) (latch : Bool) (s : State) :
    LatchesOnly s (setTag n { tagAt s n with warnLatch := latch } s) := fun u => by
  rw [tagAt_setTag]
  split
  next h => exact ⟨latch, by rw [h]⟩
  next => exact ⟨_, rfl⟩

theorem latchIfWarned_latchesOnly (before s : State) (c : Nat) : LatchesOnly s (latchIfWarned before s c) := by
  unfold latchIfWarned
  (repeat' split)
  · exact setLatch_latchesOnly _ _ s
  · exact .refl s
  · exact .refl s

/-- The latching of the claims in `l` changes tags only, and of them the warn latch. -/
theorem foldl_latchIfWarned (before : State) : ∀ (l : List Nat) (s : State),
    LatchesOnly s (l.foldl (latchIfWarned before) s) ∧
      l.foldl (latchIfWarned before) s = { s with tags := (l.foldl (latchIfWarned before) s).tags }
  | [], s => ⟨.refl s, rfl⟩
  | c :: l, s => by
    obtain ⟨hl, he⟩ := foldl_latchIfWarned before l (latchIfWarned before s c)
    have hc : latchIfWarned before s c = { s with tags := (latchIfWarned before s c).tags } := by
      unfold latchIfWarned
      (repeat' split) <;> rfl
    rw [List.foldl_cons]
    refine ⟨(latchIfWarned_latchesOnly before s c).trans hl, ?_⟩
    rw [he, hc]

/-- The state after a tick's timers, in which the leases and silence counters are counted. -/
abbrev timersTicked (s : State) : State := tickTimers { s with watch.tickCount := 0 }

/-- The watches lowered, before the latches are set (R71). -/
abbrev watchesLowered (s : State) : State := { s with watch.watches := Table.map none (tickWatch s) s.watch.watches }

/-- The latches set for the watches newly warned (R74). -/
abbrev latchesSet (s : State) : State :=
  (List.range Config.claimCount).foldl (latchIfWarned s) (watchesLowered s)

theorem tickLeases_eq (s : State) : tickLeases s = postPendingWarns (latchesSet s) := rfl

/-- A lowered watch (R71). -/
theorem watchAt_watchesLowered {s : State} (h : Table.wf none s.watch.watches = true) (c d : Nat) :
    watchAt (watchesLowered s) c d = tickWatch s (watchKey c d) (watchAt s c d) :=
  Table.get_map none (tickWatch s) (fun _ => rfl) s.watch.watches (watchKey c d) h

/-- A counted tick lowers a watch by one, to 0 at the least (R71). -/
theorem tickWatch_value (s : State) (k : Nat) (w : Option Watch) :
    (tickWatch s k w).map (fun w => (w.serial, w.value)) = w.map (fun w => (w.serial, w.value - 1)) := by
  cases w with
  | none => rfl
  | some w =>
    rw [tickWatch]
    split
    next h => simp [h]
    next => split <;> rfl

/-- A silence counter counts up to 4R (R95). -/
theorem silenceAt_tickSilence {s : State} (h : Table.wf none s.watch.silence = true) (d : Nat) :
    silenceAt (tickSilence s) d = (silenceAt s d).map (fun n => min (4 * s.station.setup.r) (n + 1)) :=
  Table.get_map none (fun _ v => v.map (fun n => min (4 * s.station.setup.r) (n + 1))) (fun _ => rfl)
    s.watch.silence d h

/-- A tick in a train pause counts the timers alone (R68). -/
theorem tick_of_pause {s : State} (h : s.watch.pause = true) : tick s = timersTicked s := if_pos h

/-- A tick outside a train pause counts silence counters and watches too (R68). -/
theorem tick_of_counted {s : State} (h : s.watch.pause = false) : tick s = tickLeases (tickSilence (timersTicked s)) :=
  if_neg (by show ¬ s.watch.pause = true; simp [h])

/-- A counted tick on the leases changes watches, tags and unread notices only (R71, R74). -/
theorem tickLeases_changes (s : State) : tickLeases s = { s with
    watch.watches := (tickLeases s).watch.watches
    tags := (tickLeases s).tags
    notices.entries := (tickLeases s).notices.entries } := by
  have hpost := postPendingWarns_changes (latchesSet s)
  have hlatch := (foldl_latchIfWarned s (List.range Config.claimCount) (watchesLowered s)).2
  rw [← tickLeases_eq] at hpost
  have hwatch : (tickLeases s).watch.watches = (watchesLowered s).watch.watches := by
    rw [tickLeases_eq, postPendingWarns_watch, latchesSet, hlatch]
  rw [hwatch]
  generalize tickLeases s = t at hpost ⊢
  rw [latchesSet, hlatch] at hpost
  exact hpost

/-- Settles O20: the timers, then by the train pause the silence counters, the watches and the WARNs. -/
theorem tickCounts : Obligations.TickCounts := by
  intro s hp htab up r u
  obtain ⟨_, _, _, hwatches, hsilence, _⟩ := htab
  have hu : timersTicked s = u := rfl
  refine ⟨fun hpause => ?_, fun hpause => ?_⟩
  · exact congrArg Host.Outcome.next ((powered_high _ hp).trans ((tick_of_pause hpause).trans hu))
  · obtain ⟨hlatch, heq⟩ := foldl_latchIfWarned (tickSilence u) (List.range Config.claimCount)
      (watchesLowered (tickSilence u))
    refine ⟨tickLeases (tickSilence u), congrArg Host.Outcome.next ((powered_high _ hp).trans (tick_of_counted hpause)),
      fun c h => ?_, fun d => ?_, fun n => ?_, ⟨(warnsPosted (latchesSet (tickSilence u))).map
        (warnOf (latchesSet (tickSilence u))), ?_, fun m hm => ?_⟩, ?_⟩
    · have hw : watchAt (tickLeases (tickSilence u)) c h = watchAt (watchesLowered (tickSilence u)) c h := by
        rw [tickLeases_eq, watchAt, postPendingWarns_watch, latchesSet, heq]
        rfl
      rw [hw, watchAt_watchesLowered (s := tickSilence u) hwatches, tickWatch_value]
      rfl
    · have hs : silenceAt (tickLeases (tickSilence u)) d = silenceAt (tickSilence u) d := by
        rw [tickLeases_eq, silenceAt, postPendingWarns_watch, latchesSet, heq]
        rfl
      rw [hs, silenceAt_tickSilence (s := u) hsilence]
      rfl
    · obtain ⟨_, h1⟩ := hlatch n
      obtain ⟨w, h2⟩ := postPendingWarns_tagAt (latchesSet (tickSilence u)) n
      refine ⟨w, ?_⟩
      rw [tickLeases_eq, h2, h1]
      rfl
    · rw [tickLeases_eq, postPendingWarns_entries, latchesSet, heq]
      rfl
    · obtain ⟨n, _, rfl⟩ := List.mem_map.mp hm
      exact ⟨n, _, rfl⟩
    · have hsilent : (tickLeases (tickSilence u)).watch.silence = (tickSilence u).watch.silence := by
        rw [tickLeases_eq, postPendingWarns_watch, latchesSet, heq]
      rw [hsilent]
      exact tickLeases_changes (tickSilence u)

/-! ## The warn point (R74) -/

/-- The place of an own watch names its claim and this station. -/
theorem watchKey_split {c h : Nat} (hh : h < 32) : watchKey c h % 32 = h ∧ watchKey c h / 32 = c := by
  simp only [watchKey, Config.stationCount]
  omega

/-- The tick that lowers an own watch to its warn point marks it warned (R74). -/
theorem tickWatch_at_warnPoint {s : State} {c serial : Nat} {h : HoldSlot} (hn : s.station.number < 32)
    (hs : slotOf (claimAt s c) s.station.number = some h) :
    tickWatch s (watchKey c s.station.number) (some ⟨serial, max 1 (h.lease / 4) + 1, false⟩) =
      some ⟨serial, max 1 (h.lease / 4), true⟩ := by
  obtain ⟨hmod, hdiv⟩ := watchKey_split (c := c) hn
  have hlease : ownLease s c = h.lease := by simp [ownLease, hs]
  simp [tickWatch, Config.stationCount, hmod, hdiv, hlease, warnPoint]

/-- A watch marked warned stays so while it is lowered (R74). -/
theorem tickWatch_warned (s : State) (k serial v : Nat) :
    tickWatch s k (some ⟨serial, v + 1, true⟩) = some ⟨serial, v, true⟩ := by
  simp [tickWatch]

/-- What a latching of claim `b` does to tag `n`, the one tag in use for claim `c`: it is marked where `b` is `c` and
its watch has become warned, and else stays. -/
theorem latchIfWarned_only {s u before : State} {c n : Nat} (hu : LatchesOnly s u) (hn : n < 16)
    (hin : (tagAt s n).inUse = true) (hc : (tagAt s n).claim = c) {p : Phase} (hp : (tagAt s n).phase = some p)
    (honly : ∀ m < 16, m ≠ n → (tagAt s m).inUse = true → (tagAt s m).claim ≠ c) (b : Nat) :
    tagAt (latchIfWarned before u b) n =
      if b = c ∧ isWarned before c = false ∧ isWarned u c = true then { tagAt u n with warnLatch := true }
      else tagAt u n := by
  have hfind : findTag u c allPhases = some n :=
    (hu.findTag c allPhases).trans (findTag_of_only hn hin hc hp (mem_allPhases p) honly)
  unfold latchIfWarned
  by_cases hb : b = c
  · subst hb
    simp only [hfind, true_and]
    split
    · exact tagAt_setTag_same _ _ _
    · rfl
  · simp only [hb, false_and, if_false]
    split
    · split
      next m hm =>
        obtain ⟨_, _, hmc, _⟩ := findTag_some hm
        obtain ⟨_, hun⟩ := hu n
        have hmn : n ≠ m := fun h => by
          rw [← h, hun] at hmc
          exact hb (hmc.symm.trans hc)
        rw [tagAt_setTag, if_neg hmn]
      · rfl
    · rfl

/-- The latching of the claims leaves a tag alone whose watch was warned before. -/
theorem latchesSet_of_warned {s : State} {c n : Nat} (hn : n < 16) (hin : (tagAt s n).inUse = true)
    (hc : (tagAt s n).claim = c) {p : Phase} (hp : (tagAt s n).phase = some p)
    (honly : ∀ m < 16, m ≠ n → (tagAt s m).inUse = true → (tagAt s m).claim ≠ c) (hw : isWarned s c = true) :
    tagAt (latchesSet s) n = tagAt s n := by
  suffices h : ∀ (l : List Nat) (u : State), LatchesOnly s u → tagAt u n = tagAt s n →
      tagAt (l.foldl (latchIfWarned s) u) n = tagAt s n from
    h _ _ (LatchesOnly.refl s) rfl
  intro l
  induction l with
  | nil => exact fun _ _ h => h
  | cons b l ih =>
    intro u hu h
    refine ih _ (hu.trans (latchIfWarned_latchesOnly s u b)) ?_
    rw [latchIfWarned_only hu hn hin hc hp honly b, if_neg (by simp [hw]), h]

/-- The latching of the claims marks the tag of a watch that has become warned. -/
theorem latchesSet_of_newly_warned {s : State} {c n : Nat} (hc64 : c < 64) (hn : n < 16)
    (hin : (tagAt s n).inUse = true) (hc : (tagAt s n).claim = c) {p : Phase} (hp : (tagAt s n).phase = some p)
    (honly : ∀ m < 16, m ≠ n → (tagAt s m).inUse = true → (tagAt s m).claim ≠ c) (hbefore : isWarned s c = false)
    (hnow : isWarned (watchesLowered s) c = true) :
    tagAt (latchesSet s) n = { tagAt s n with warnLatch := true } := by
  suffices h : ∀ (l : List Nat) (u : State), LatchesOnly s u → isWarned u c = true →
      (c ∈ l ∨ tagAt u n = { tagAt s n with warnLatch := true }) →
      tagAt (l.foldl (latchIfWarned s) u) n = { tagAt s n with warnLatch := true } from
    h _ _ (LatchesOnly.refl s) hnow (.inl (List.mem_range.mpr hc64))
  intro l
  induction l with
  | nil => exact fun _ _ _ h => h.resolve_left (by simp)
  | cons b l ih =>
    intro u hu hwarned h
    have heq := (foldl_latchIfWarned s [b] u).2
    simp only [List.foldl_cons, List.foldl_nil] at heq
    refine ih _ (hu.trans (latchIfWarned_latchesOnly s u b)) (by rw [heq]; exact hwarned) ?_
    rw [latchIfWarned_only hu hn hin hc hp honly b]
    obtain ⟨_, hun⟩ := hu n
    by_cases hb : b = c
    · exact .inr (by rw [if_pos ⟨hb, hbefore, hwarned⟩, hun])
    · rw [if_neg fun h => hb h.1]
      exact h.imp (fun hmem => (List.mem_cons.mp hmem).resolve_left (Ne.symm hb)) id

/-- With 16 free places or more every pending WARN is posted (R180). -/
theorem mem_warnsPosted_of_room {s : State} (h : 16 ≤ freePlaces s) {n : Nat} :
    n ∈ warnsPosted s ↔ n < 16 ∧ (tagAt s n).warnLatch = true := by
  have hlen : ((List.range 16).filter (fun n => (tagAt s n).warnLatch)).length ≤ freePlaces s :=
    (List.length_filter_le _ _).trans (by simpa using h)
  rw [warnsPosted, List.take_of_length_le hlen]
  simp

/-- Only pending WARNs are posted (R180). -/
theorem warnLatch_of_mem_warnsPosted {s : State} {n : Nat} (h : n ∈ warnsPosted s) : (tagAt s n).warnLatch = true := by
  simpa using (List.mem_filter.mp (List.mem_of_mem_take h)).2

/-- The latches change no place. -/
theorem freePlaces_latchesSet (s : State) : freePlaces (latchesSet s) = freePlaces s := by
  obtain ⟨hl, he⟩ := foldl_latchIfWarned s (List.range Config.claimCount) (watchesLowered s)
  refine freePlaces_of_reservations (by rw [latchesSet, he]) (by rw [latchesSet, he]) fun u => ?_
  obtain ⟨_, h⟩ := hl u
  rw [h]
  rfl

/-- Settles O21: the tag of a watch newly warned is marked, then its WARN is posted or not by the free places; a watch
warned before marks nothing. -/
theorem warnAtTheWarnPoint : Obligations.WarnAtTheWarnPoint := by
  intro s c n serial h hp htab hpause hc hn hnum hslot hin hclaim hph hlatch honly v
  obtain ⟨_, _, _, hwf, _, _⟩ := htab
  obtain ⟨p, hphase⟩ : ∃ p, (tagAt s n).phase = some p := hph.elim (fun h => ⟨_, h⟩) (fun h => ⟨_, h⟩)
  have hexec : exec .tick s = .next (tickLeases (tickSilence (timersTicked s))) :=
    congrArg Host.Outcome.next ((powered_high _ hp).trans (tick_of_counted hpause))
  rw [hexec]
  obtain ⟨u, hu, hnumber, hclaimAt, htagAt, hnotices, hwatchAt, hwf'⟩ : ∃ u, tickSilence (timersTicked s) = u ∧
      u.station.number = s.station.number ∧ claimAt u c = claimAt s c ∧ (∀ m, tagAt u m = tagAt s m) ∧
      u.notices = s.notices ∧ watchAt u c s.station.number = watchAt s c s.station.number ∧
      Table.wf none u.watch.watches = true := ⟨_, rfl, rfl, rfl, fun _ => rfl, rfl, rfl, hwf⟩
  have hfree : freePlaces u = freePlaces s := by
    rw [← hu]
    exact freePlaces_congr rfl rfl rfl
  rw [hu]
  have hlow := watchAt_watchesLowered hwf' c u.station.number
  have hlatched : watchAt (latchesSet u) c u.station.number = watchAt (watchesLowered u) c u.station.number := by
    rw [latchesSet, (foldl_latchIfWarned u (List.range Config.claimCount) (watchesLowered u)).2]
    rfl
  have hticked : watchAt (tickLeases u) c u.station.number = watchAt (watchesLowered u) c u.station.number := by
    rw [tickLeases_eq, watchAt, postPendingWarns_watch]
    exact hlatched
  have hnewly : watchAt s c s.station.number = some ⟨serial, v + 1, false⟩ →
      watchAt (watchesLowered u) c s.station.number = some ⟨serial, v, true⟩ ∧
        tagAt (latchesSet u) n = { tagAt s n with warnLatch := true } := fun hw => by
    have hmark : watchAt (watchesLowered u) c u.station.number = some ⟨serial, v, true⟩ := by
      rw [hlow, hnumber, hwatchAt, hw, ← hnumber]
      exact tickWatch_at_warnPoint (by rw [hnumber]; exact hnum) (by rw [hclaimAt, hnumber]; exact hslot)
    have hbefore : isWarned u c = false := by simp [isWarned, hnumber, hwatchAt, hw]
    have hnow : isWarned (watchesLowered u) c = true := by
      rw [isWarned]
      exact (congrArg (fun w => match w with | some w => w.warned | none => false) hmark)
    refine ⟨by rw [← hnumber]; exact hmark, ?_⟩
    rw [latchesSet_of_newly_warned hc hn (by rw [htagAt]; exact hin) (by rw [htagAt]; exact hclaim)
      (by rw [htagAt]; exact hphase) (fun m => by rw [htagAt]; exact honly m) hbefore hnow, htagAt]
  rw [hnumber] at hticked hlatched
  refine ⟨fun hw hroom => ?_, fun hw hfull => ?_, fun k hw => ?_⟩
  · obtain ⟨hmark, htag⟩ := hnewly hw
    have hposted : n ∈ warnsPosted (latchesSet u) := by
      rw [mem_warnsPosted_of_room (by rw [freePlaces_latchesSet, hfree]; exact hroom), htag]
      exact ⟨hn, rfl⟩
    refine ⟨_, rfl, hticked.trans hmark, ?_, ?_⟩
    · have hwarn : warnOf (latchesSet u) n = .warn n v := by
        have hclaimed : (tagAt (latchesSet u) n).claim = c := by
          rw [htag]
          exact hclaim
        have hstation : (latchesSet u).station.number = s.station.number := by
          rw [latchesSet, (foldl_latchIfWarned u (List.range Config.claimCount) (watchesLowered u)).2]
          exact hnumber
        rw [warnOf, hclaimed, hstation, ticksLeft, hlatched.trans hmark]
      rw [tickLeases_eq, postPendingWarns_entries, ← hwarn]
      exact List.mem_append_right _ (List.mem_map_of_mem hposted)
    · rw [tickLeases_eq, tagAt_postPendingWarns, if_pos hposted, htag, ← hlatch]
  · obtain ⟨hmark, htag⟩ := hnewly hw
    have hsame : tickLeases u = latchesSet u := by
      rw [tickLeases_eq, postPendingWarns_of_full (by rw [freePlaces_latchesSet, hfree]; exact hfull)]
    refine ⟨_, rfl, hticked.trans hmark, ?_, ?_⟩
    · rw [hsame, latchesSet, (foldl_latchIfWarned u (List.range Config.claimCount) (watchesLowered u)).2]
      exact hnotices
    · rw [hsame, htag]
  · have hwarned : isWarned u c = true := by simp [isWarned, hnumber, hwatchAt, hw]
    have htag : tagAt (latchesSet u) n = tagAt s n := by
      rw [latchesSet_of_warned hn (by rw [htagAt]; exact hin) (by rw [htagAt]; exact hclaim)
        (by rw [htagAt]; exact hphase) (fun m => by rw [htagAt]; exact honly m) hwarned, htagAt]
    refine ⟨_, rfl, ?_, ?_⟩
    · rw [hticked, ← hnumber, hlow, hnumber, hwatchAt, hw]
      exact tickWatch_warned u _ serial k
    · rw [tickLeases_eq, tagAt_postPendingWarns, if_neg, htag]
      exact fun hmem => by simpa [htag, hlatch] using warnLatch_of_mem_warnsPosted hmem

end Sys2Proof.Machine
end

/-! # Owed internal frames: the obligation -/

section
namespace Sys2Proof.Machine

open Sys2Proof (Byte BusFrame FrameEnd TryEnd Instr)

/-! ## The order of the due frames (Table 7-5) -/

/-- `f` may come before `g` among the due frames: by kind code, DROPs by station, LAPSEs by claim. -/
def DueOrder (f g : TxFrame) : Prop :=
  f.kind.code ≤ g.kind.code ∧ (∀ a b, f = .drop a → g = .drop b → a < b) ∧
    ∀ c h n c' h' n', f = .lapse c h n → g = .lapse c' h' n' → c ≤ c'

/-- Frames of different kinds are ordered by their kind codes. -/
theorem DueOrder.of_code {f g : TxFrame} (h : f.kind.code < g.kind.code) : DueOrder f g :=
  ⟨h.le, fun a b hf hg => by subst hf hg; exact absurd h (lt_irrefl _),
    fun c h' n c' h'' n' hf hg => by subst hf hg; exact absurd h (lt_irrefl _)⟩

theorem dueDrops_order (s : State) : (dueDrops s).Pairwise DueOrder := by
  refine List.Pairwise.map _ (R := fun a b => a < b) (fun a b hab => ⟨le_rfl, ?_, ?_⟩) (List.pairwise_lt_range.filter _)
  · rintro _ _ ⟨⟩ ⟨⟩
    exact hab
  · rintro _ _ _ _ _ _ ⟨⟩

/-- The due LAPSEs on a claim name it. -/
theorem eq_lapse_of_mem_dueLapsesOn {s : State} {c : Nat} {f : TxFrame} (h : f ∈ dueLapsesOn s c) :
    ∃ d n, f = .lapse c d n := by
  obtain ⟨x, _, hx⟩ := List.mem_filterMap.mp h
  split at hx
  · split at hx
    · exact ⟨_, _, (Option.some.inj hx).symm⟩
    · cases hx
  · cases hx

theorem dueLapses_order (s : State) : (dueLapses s).Pairwise DueOrder := by
  refine List.pairwise_flatMap.mpr ⟨fun c _ => ?_, List.pairwise_lt_range.imp fun hab f hf g hg => ?_⟩
  · refine List.pairwise_of_forall_mem_list fun f hf g hg => ?_
    obtain ⟨_, _, rfl⟩ := eq_lapse_of_mem_dueLapsesOn hf
    obtain ⟨_, _, rfl⟩ := eq_lapse_of_mem_dueLapsesOn hg
    refine ⟨le_rfl, ?_, ?_⟩
    · rintro _ _ ⟨⟩
    · rintro _ _ _ _ _ _ ⟨⟩ ⟨⟩
      exact le_rfl
  · obtain ⟨_, _, rfl⟩ := eq_lapse_of_mem_dueLapsesOn hf
    obtain ⟨_, _, rfl⟩ := eq_lapse_of_mem_dueLapsesOn hg
    refine ⟨le_rfl, ?_, ?_⟩
    · rintro _ _ ⟨⟩
    · rintro _ _ _ _ _ _ ⟨⟩ ⟨⟩
      exact hab.le

/-- What is due of each duty has the duty's kind. -/
theorem kind_of_mem_dueDrops {s : State} {f : TxFrame} (h : f ∈ dueDrops s) : f.kind = .drop := by
  obtain ⟨_, _, rfl⟩ := List.mem_map.mp h
  rfl

theorem kind_of_mem_dueLapses {s : State} {f : TxFrame} (h : f ∈ dueLapses s) : f.kind = .lapse := by
  obtain ⟨_, _, hc⟩ := List.mem_flatMap.mp h
  obtain ⟨_, _, rfl⟩ := eq_lapse_of_mem_dueLapsesOn hc
  rfl

theorem eq_of_mem_dueHead {s : State} {f : TxFrame} (h : f ∈ dueHead s) : f = .trainHead := by
  unfold dueHead at h
  split at h <;> simpa using h

theorem eq_of_mem_dueRoll {s : State} {joining : Bool} {f : TxFrame} (h : f ∈ dueRoll s joining) : f = .roll joining := by
  unfold dueRoll at h
  split at h <;> simpa using h

theorem dueHead_order (s : State) : (dueHead s).Pairwise DueOrder := by
  unfold dueHead
  split <;> simp

theorem dueRoll_order (s : State) (joining : Bool) : (dueRoll s joining).Pairwise DueOrder := by
  unfold dueRoll
  split <;> simp

/-- The due frames stand in Table 7-5's order. -/
theorem dueFrames_order (s : State) : (dueFrames s).Pairwise DueOrder := by
  unfold dueFrames
  cases s.station.state with
  | member =>
    refine List.pairwise_append.mpr ⟨List.pairwise_append.mpr ⟨List.pairwise_append.mpr ⟨dueDrops_order s,
      dueLapses_order s, fun f hf g hg => .of_code ?_⟩, dueHead_order s, fun f hf g hg => .of_code ?_⟩,
      dueRoll_order s false, fun f hf g hg => .of_code ?_⟩
    · rw [kind_of_mem_dueDrops hf, kind_of_mem_dueLapses hg]
      decide
    · rw [eq_of_mem_dueHead hg]
      rcases List.mem_append.mp hf with hf | hf
      · rw [kind_of_mem_dueDrops hf]
        decide
      · rw [kind_of_mem_dueLapses hf]
        decide
    · rw [eq_of_mem_dueRoll hg]
      rcases List.mem_append.mp hf with hf | hf
      · rcases List.mem_append.mp hf with hf | hf
        · rw [kind_of_mem_dueDrops hf]
          decide
        · rw [kind_of_mem_dueLapses hf]
          decide
      · rw [eq_of_mem_dueHead hf]
        decide
  | entering => exact List.pairwise_singleton _ _
  | awaitCopy => exact dueRoll_order s true
  | leaving => exact List.pairwise_singleton _ _
  | _ => exact List.Pairwise.nil

/-- The LAPSE due for a holder of claim `c` (R76). -/
def lapseIfDue (s : State) (c : Nat) (x : HoldSlot) : Option TxFrame :=
  match watchAt s c x.station with
  | some w => if w.value = 0 then some (.lapse c x.station w.serial) else none
  | none => none

theorem dueLapsesOn_eq (s : State) (c : Nat) : dueLapsesOn s c = (claimAt s c).holders.filterMap (lapseIfDue s c) := rfl

/-- The LAPSE due for a holder names it. -/
theorem station_of_lapseIfDue {s : State} {c h n b : Nat} {x : HoldSlot} (hx : lapseIfDue s b x = some (.lapse c h n)) :
    x.station = h := by
  unfold lapseIfDue at hx
  split at hx
  · split at hx
    · cases hx
      rfl
    · cases hx
  · cases hx

/-- A LAPSE that is due is the one for each holder of its station. -/
theorem lapseIfDue_of_due {s : State} {c h n : Nat} (hd : Due s (.lapse c h n)) {x : HoldSlot} (hx : x.station = h) :
    lapseIfDue s c x = some (.lapse c h n) := by
  obtain ⟨_, _, _, w, hw, hw0, hwn⟩ := hd
  simp [lapseIfDue, hx, hw, hw0, hwn]

/-- A due LAPSE for a holder that stands before the other, on the same claim, is due before it. -/
theorem dueFrames_split_lapse {s : State} {c h n h' n' : Nat} (hd : Due s (.lapse c h n)) (hd' : Due s (.lapse c h' n'))
    {older younger : List Nat} (hs : (claimAt s c).holders.map (·.station) = older ++ h :: younger) (hh : h ∉ older)
    (hh' : h' ∈ older) :
    ∃ l1 l2, dueFrames s = l1 ++ .lapse c h n :: l2 ∧ .lapse c h n ∉ l1 ∧ .lapse c h' n' ∈ l1 := by
  obtain ⟨H1, H2, hH, rfl, hH2⟩ := List.map_eq_append_iff.mp hs
  obtain ⟨x, H3, rfl, hx, _⟩ := List.map_eq_cons_iff.mp hH2
  obtain ⟨x', hx', hx's⟩ := List.mem_map.mp hh'
  have hon : dueLapsesOn s c = H1.filterMap (lapseIfDue s c) ++ .lapse c h n :: H3.filterMap (lapseIfDue s c) := by
    rw [dueLapsesOn_eq, hH, List.filterMap_append, List.filterMap_cons, lapseIfDue_of_due hd hx]
  obtain ⟨A, B, hAB⟩ := List.append_of_mem (List.mem_range.mpr hd.2.1)
  have hcA : c ∉ A := by
    have hnodup := List.nodup_range (n := 64)
    rw [hAB] at hnodup
    exact fun hc => (List.disjoint_of_nodup_append hnodup) hc List.mem_cons_self
  have hl : dueLapses s = A.flatMap (dueLapsesOn s) ++
      (H1.filterMap (lapseIfDue s c) ++ .lapse c h n :: H3.filterMap (lapseIfDue s c) ++ B.flatMap (dueLapsesOn s)) := by
    show (List.range 64).flatMap (dueLapsesOn s) = _
    rw [hAB, List.flatMap_append, List.flatMap_cons, hon]
  have hdue : dueFrames s = dueDrops s ++ dueLapses s ++ dueHead s ++ dueRoll s false := by
    unfold dueFrames
    rw [hd.1]
  refine ⟨dueDrops s ++ (A.flatMap (dueLapsesOn s) ++ H1.filterMap (lapseIfDue s c)),
    H3.filterMap (lapseIfDue s c) ++ B.flatMap (dueLapsesOn s) ++ dueHead s ++ dueRoll s false, ?_, ?_, ?_⟩
  · rw [hdue, hl]
    simp
  · simp only [List.mem_append, not_or]
    refine ⟨fun hm => ?_, fun hm => ?_, fun hm => ?_⟩
    · exact absurd (kind_of_mem_dueDrops hm) (by simp [TxFrame.kind])
    · obtain ⟨a, ha, hf⟩ := List.mem_flatMap.mp hm
      obtain ⟨_, _, heq⟩ := eq_lapse_of_mem_dueLapsesOn hf
      cases heq
      exact hcA ha
    · obtain ⟨y, hy, hyf⟩ := List.mem_filterMap.mp hm
      exact hh (station_of_lapseIfDue hyf ▸ List.mem_map_of_mem hy)
  · exact List.mem_append_right _ (List.mem_append_right _
      (List.mem_filterMap.mpr ⟨x', hx', lapseIfDue_of_due hd' hx's⟩))

/-! ## Queuing what is owed (R124, R133) -/

/-- Internal frames newly queued behind the entries of the queue. -/
def queuedBehind (fs : List TxFrame) (s : State) : State :=
  { s with tx.entries := s.tx.entries ++ fs.map (fun f => newEntry f none) }

theorem queuedBehind_cons (f : TxFrame) (fs : List TxFrame) (s : State) :
    queuedBehind (f :: fs) s = queuedBehind fs (enqueue f none s) := by
  simp [queuedBehind, enqueue, setEntries]

/-- A key once present stays so while frames are queued. -/
theorem keyPresent_queuedBehind {f : TxFrame} {s : State} (h : keyPresent f s = true) (fs : List TxFrame) :
    keyPresent f (queuedBehind fs s) = true := by
  simp only [keyPresent, queuedBehind, List.any_append, Bool.or_eq_true] at h ⊢
  exact h.imp .inl id

/-- Frames queued hold more internal places, not fewer. -/
theorem internalHeld_queuedBehind (fs : List TxFrame) (s : State) : internalHeld s ≤ internalHeld (queuedBehind fs s) := by
  simp only [internalHeld, queuedBehind, List.filter_append, List.length_append]
  omega

theorem keyPresent_enqueue_self (f : TxFrame) (s : State) : keyPresent f (enqueue f none s) = true := by
  simp [keyPresent, newEntry, TxFrame.sameKey]

/-- A frame whose key is not present behind another one has another key than that. -/
theorem not_present_of_enqueue {f g : TxFrame} {s : State} (h : keyPresent g (enqueue f none s) = false) :
    keyPresent g s = false ∧ f.sameKey g = false := by
  simp only [keyPresent, enqueue_entries, enqueue_apply, List.any_append, List.any_cons, List.any_nil, newEntry,
    Bool.or_eq_false_iff, Bool.or_false] at h ⊢
  exact ⟨⟨h.1.1, h.2⟩, h.1.2⟩

/-- `queued` are the frames that the free internal places take of those due in `l` (R133). -/
structure TakenOf (l queued : List TxFrame) (s : State) : Prop where
  result : l.foldl queueInternal s = queuedBehind queued s
  sublist : queued.Sublist l
  absent : ∀ f ∈ queued, keyPresent f s = false
  distinct : queued.Pairwise (fun f g => f.sameKey g = false)
  served : ∀ f ∈ l, keyPresent f (queuedBehind queued s) = true ∨ 3 ≤ internalHeld (queuedBehind queued s)
  inOrder : ∀ f ∈ queued, ∃ l1 l2, l = l1 ++ f :: l2 ∧ f ∉ l1 ∧ ∀ g ∈ l1, keyPresent g (queuedBehind queued s) = true
  full : 3 ≤ internalHeld s → queued = []

theorem exists_takenOf : ∀ (l : List TxFrame) (s : State), ∃ queued, TakenOf l queued s
  | [], s => ⟨[], by simp [queuedBehind], by simp, by simp, by simp, by simp, by simp, fun _ => rfl⟩
  | a :: l, s => by
    rcases queueInternal_cases s a with ⟨hk, hf, hq⟩ | ⟨hstay, hq⟩
    · obtain ⟨queued, ih⟩ := exists_takenOf l (enqueue a none s)
      have hself := keyPresent_queuedBehind (keyPresent_enqueue_self a s) queued
      refine ⟨a :: queued, ?_, ih.sublist.cons_cons a, ?_, ?_, ?_, ?_, fun h => absurd h (Nat.not_le.mpr hf)⟩
      · rw [List.foldl_cons, hq, ih.result, queuedBehind_cons]
      · intro f hm
        rcases List.mem_cons.mp hm with rfl | hm
        · exact hk
        · exact (not_present_of_enqueue (ih.absent f hm)).1
      · exact List.pairwise_cons.mpr ⟨fun f hm => (not_present_of_enqueue (ih.absent f hm)).2, ih.distinct⟩
      · intro f hm
        rw [queuedBehind_cons]
        rcases List.mem_cons.mp hm with rfl | hm
        · exact .inl hself
        · exact ih.served f hm
      · intro f hm
        rw [queuedBehind_cons]
        rcases List.mem_cons.mp hm with rfl | hm
        · exact ⟨[], l, rfl, by simp, by simp⟩
        · obtain ⟨l1, l2, rfl, hf1, hpres⟩ := ih.inOrder f hm
          have hne : f ≠ a := fun h => by
            have habsent := ih.absent f hm
            rw [h, keyPresent_enqueue_self] at habsent
            cases habsent
          refine ⟨a :: l1, l2, rfl, by simp [hne, hf1], fun g hg => ?_⟩
          rcases List.mem_cons.mp hg with rfl | hg
          · exact hself
          · exact hpres g hg
    · obtain ⟨queued, ih⟩ := exists_takenOf l s
      have hserved : keyPresent a (queuedBehind queued s) = true ∨ 3 ≤ internalHeld (queuedBehind queued s) :=
        hstay.imp (fun h => keyPresent_queuedBehind h queued) (fun h => le_trans h (internalHeld_queuedBehind queued s))
      refine ⟨queued, by rw [List.foldl_cons, hq, ih.result], ih.sublist.cons a, ih.absent, ih.distinct,
        List.forall_mem_cons.mpr ⟨hserved, ih.served⟩, fun f hm => ?_, ih.full⟩
      rcases hstay with hpresent | hfull
      · obtain ⟨l1, l2, rfl, hf1, hpres⟩ := ih.inOrder f hm
        have hne : f ≠ a := fun h => by simp [← h, ih.absent f hm] at hpresent
        refine ⟨a :: l1, l2, rfl, by simp [hne, hf1], fun g hg => ?_⟩
        rcases List.mem_cons.mp hg with rfl | hg
        · exact keyPresent_queuedBehind hpresent queued
        · exact hpres g hg
      · rw [ih.full hfull] at hm
        cases hm

/-- Two splits of a list at the first occurrence of an element are one. -/
theorem first_split_unique {α : Type} {f : α} : ∀ {a b c d : List α}, a ++ f :: b = c ++ f :: d → f ∉ a → f ∉ c → a = c
  | [], _, [], _, _, _, _ => rfl
  | [], _, x :: c, _, h, _, hc => absurd (List.cons.inj h).1 (fun h => hc (by simp [h]))
  | x :: a, _, [], _, h, ha, _ => absurd (List.cons.inj h).1.symm (fun h => ha (by simp [h]))
  | x :: a, _, y :: c, _, h, ha, hc => by
    obtain ⟨rfl, htail⟩ := List.cons.inj h
    have ha' : f ∉ a := fun hm => ha (List.mem_cons_of_mem _ hm)
    have hc' : f ∉ c := fun hm => hc (List.mem_cons_of_mem _ hm)
    rw [first_split_unique (a := a) (c := c) htail ha' hc']

/-! ## The four steps (R133) -/

/-- A frame of kind `k` is owed where one is due whose key is not present. -/
theorem owes_eq_false_iff {k : FrameKind} {s : State} :
    owes k s = false ↔ ∀ f, Due s f → f.kind = k → keyPresent f s = true := by
  simp only [owes, List.any_eq_false, Bool.and_eq_true, beq_iff_eq, Bool.not_eq_true', not_and, Bool.not_eq_false,
    mem_dueFrames_iff]

/-- Each of the four steps queues what is owed where a frame of its kind is, and does nothing elsewhere. -/
theorem exec_owed {s : State} {i : Instr} {p : TxFrame → Prop} (hp : Powered s)
    (hi : i = .leaseWatchExpiry ∧ (∀ f, p f ↔ f.kind = .lapse) ∨ i = .rollDue ∧ (∀ f, p f ↔ f.kind = .roll) ∨
      i = .silenceExpiry ∧ (∀ f, p f ↔ f.kind = .drop) ∧ s.station.state = .member ∨
      i = .owedFrameQueue ∧ ∀ f, p f) :
    exec i s = .next (fillOwed s) ∨
      (exec i s = .next s ∧ ∀ f, Due s f → p f → keyPresent f s = true) := by
  rcases hi with ⟨rfl, hk⟩ | ⟨rfl, hk⟩ | ⟨rfl, hk, hm⟩ | ⟨rfl, _⟩
  · by_cases h : s.station.state = .member ∧ owes .lapse s = true
    · exact .inl (congrArg Host.Outcome.next ((powered_high _ hp).trans (if_pos h)))
    · refine .inr ⟨congrArg Host.Outcome.next ((powered_high _ hp).trans (if_neg h)), fun f hd hpf => ?_⟩
      by_cases hm : s.station.state = .member
      · exact owes_eq_false_iff.mp (Bool.eq_false_iff.mpr fun ho => h ⟨hm, ho⟩) f hd ((hk f).mp hpf)
      · have hkf := (hk f).mp hpf
        cases f with
        | lapse c d n => exact absurd hd.1 hm
        | _ => cases hkf
  · by_cases h : owes .roll s = true
    · exact .inl (congrArg Host.Outcome.next ((powered_high _ hp).trans (if_pos h)))
    · exact .inr ⟨congrArg Host.Outcome.next ((powered_high _ hp).trans (if_neg h)),
        fun f hd hpf => owes_eq_false_iff.mp (Bool.eq_false_iff.mpr h) f hd ((hk f).mp hpf)⟩
  · by_cases h : s.station.state = .member ∧ owes .drop s = true
    · exact .inl (congrArg Host.Outcome.next ((powered_high _ hp).trans (if_pos h)))
    · exact .inr ⟨congrArg Host.Outcome.next ((powered_high _ hp).trans (if_neg h)), fun f hd hpf =>
        owes_eq_false_iff.mp (Bool.eq_false_iff.mpr fun ho => h ⟨hm, ho⟩) f hd ((hk f).mp hpf)⟩
  · exact .inl (congrArg Host.Outcome.next (powered_high _ hp))

/-- Where nothing that a step looks for is owed, it changes nothing. -/
theorem exec_owed_of_none {s : State} {i : Instr} {p : TxFrame → Prop} (hp : Powered s)
    (hi : i = .leaseWatchExpiry ∧ (∀ f, p f ↔ f.kind = .lapse) ∨ i = .rollDue ∧ (∀ f, p f ↔ f.kind = .roll) ∨
      i = .silenceExpiry ∧ (∀ f, p f ↔ f.kind = .drop) ∧ s.station.state = .member ∨
      i = .owedFrameQueue ∧ ∀ f, p f)
    (hnone : ∀ f, Due s f → p f → keyPresent f s = true) : exec i s = .next s := by
  rcases hi with ⟨rfl, hk⟩ | ⟨rfl, hk⟩ | ⟨rfl, hk, _⟩ | ⟨rfl, hall⟩
  · have ho : owes .lapse s = false := owes_eq_false_iff.mpr fun f hd hf => hnone f hd ((hk f).mpr hf)
    exact congrArg Host.Outcome.next ((powered_high _ hp).trans (if_neg (by simp [ho])))
  · have ho : owes .roll s = false := owes_eq_false_iff.mpr fun f hd hf => hnone f hd ((hk f).mpr hf)
    exact congrArg Host.Outcome.next ((powered_high _ hp).trans (if_neg (by simp [ho])))
  · have ho : owes .drop s = false := owes_eq_false_iff.mpr fun f hd hf => hnone f hd ((hk f).mpr hf)
    exact congrArg Host.Outcome.next ((powered_high _ hp).trans (if_neg (by simp [ho])))
  · exact congrArg Host.Outcome.next ((powered_high _ hp).trans
      (foldl_eq_self fun f hf => if_pos (.inl (hnone f ((mem_dueFrames_iff s f).mp hf) (hall f)))))

/-- Of what is taken, nothing due that stands before it is left out. -/
theorem TakenOf.before {s : State} {queued : List TxFrame} (h : TakenOf (dueFrames s) queued s) {f g : TxFrame}
    (hf : f ∈ queued) (hg : Due s g) (hne : g ≠ f) (hlater : ¬ DueOrder f g) :
    keyPresent g (queuedBehind queued s) = true := by
  obtain ⟨l1, l2, hl, _, hpres⟩ := h.inOrder f hf
  have horder := dueFrames_order s
  have hmem := (mem_dueFrames_iff s g).mpr hg
  rw [hl] at horder hmem
  rcases List.mem_append.mp hmem with hm | hm
  · exact hpres g hm
  · rcases List.mem_cons.mp hm with hm | hm
    · exact absurd hm hne
    · exact absurd ((List.pairwise_cons.mp (List.pairwise_append.mp horder).2.1).1 g hm) hlater

/-- Settles O23: what is taken of the due frames, in their order; or nothing, where nothing is owed. -/
theorem owedFramesAreQueued : Obligations.OwedFramesAreQueued := by
  intro s i p hp hi
  refine ⟨exec_owed_of_none hp hi, ?_⟩
  rcases exec_owed hp hi with hexec | ⟨hexec, hnone⟩
  · obtain ⟨queued, h⟩ := exists_takenOf (dueFrames s) s
    refine ⟨queued, queuedBehind queued s, hexec.trans (congrArg Host.Outcome.next h.result), rfl,
      fun f hf => ⟨(mem_dueFrames_iff s f).mp (h.sublist.subset hf), h.absent f hf⟩, ?_,
      fun f hd _ => h.served f ((mem_dueFrames_iff s f).mpr hd), fun f hf g hg hlt => ?_, fun a ha b hba hb => ?_,
      fun c d n hf c' d' n' hg hbefore => ?_⟩
    · exact (((dueFrames_order s).sublist h.sublist).and h.distinct).imp fun ⟨⟨h1, h2, h3⟩, h4⟩ => ⟨h1, h4, h2, h3⟩
    · exact h.before hf hg (fun he => by rw [he] at hlt; exact lt_irrefl _ hlt) (fun ho => absurd ho.1 (Nat.not_le.mpr hlt))
    · exact h.before ha hb (fun he => by cases he; exact lt_irrefl _ hba)
        (fun ho => absurd (ho.2.1 a b rfl rfl) (Nat.lt_asymm hba))
    · rcases hbefore with hlt | ⟨rfl, older, younger, hs, hold, hold'⟩
      · exact h.before hf hg (fun he => by cases he; exact lt_irrefl _ hlt)
          (fun ho => absurd (ho.2.2 c d n c' d' n' rfl rfl) (Nat.not_le.mpr hlt))
      · have hd : Due s (.lapse c' d n) := (mem_dueFrames_iff s _).mp (h.sublist.subset hf)
        obtain ⟨l1, l2, hl, hf1, hpres⟩ := h.inOrder _ hf
        obtain ⟨k1, k2, hk, hfk, hgk⟩ := dueFrames_split_lapse hd hg hs hold hold'
        have hsame : k1 = l1 := first_split_unique (hk.symm.trans hl) hfk hf1
        exact hpres _ (hsame ▸ hgk)
  · refine ⟨[], s, hexec, by simp, by simp, by simp, fun f hd hpf => .inl (hnone f hd hpf), by simp, by simp, by simp⟩

end Sys2Proof.Machine
end

/-! # Formats: the obligation -/

section
namespace Sys2Proof.Machine

open Sys2Proof (Byte BusFrame FrameEnd TryEnd Instr)

/-! ## Numbers as bytes -/

/-- The byte of a number below 256 carries it. -/
theorem toNat_byte {n : Nat} (h : n < 256) : (byte n).toNat = n := by
  rw [byte, BitVec.toNat_ofNat]
  exact Nat.mod_eq_of_lt h

/-- The byte of a byte's number is the byte. -/
theorem byte_toNat (b : Byte) : byte b.toNat = b := by simp [byte]

/-- The two bytes of a number below 65536 carry it. -/
theorem u16_bytes {n : Nat} (h : n < 65536) : u16 (byte (n / 256)) (byte (n % 256)) = n := by
  rw [u16, toNat_byte (by omega), toNat_byte (by omega)]
  omega

/-- A digest is its two bytes (R190). -/
theorem digest_halves (d : BitVec 16) : d.extractLsb' 8 8 ++ d.extractLsb' 0 8 = d := by
  apply BitVec.eq_of_getLsbD_eq
  intro i hi
  rw [BitVec.getLsbD_append]
  simp only [BitVec.getLsbD_extractLsb']
  by_cases h : i < 8
  · simp [h]
  · simp only [h, decide_false, cond_false]
    have h8 : i - 8 < 8 := by omega
    simp [h8, show 8 + (i - 8) = i by omega]

/-- A mask is its four bytes (R190). -/
theorem mask_quarters (m : BitVec 32) :
    maskOf (m.extractLsb' 24 8) (m.extractLsb' 16 8) (m.extractLsb' 8 8) (m.extractLsb' 0 8) = m := by
  apply BitVec.eq_of_getLsbD_eq
  intro i hi
  simp only [maskOf, BitVec.getLsbD_append, BitVec.getLsbD_extractLsb']
  by_cases h1 : i < 16
  · by_cases h2 : i < 8
    · simp [h1, h2]
    · have h3 : i - 8 < 8 := by omega
      simp [h1, h2, h3, show 8 + (i - 8) = i by omega]
  · by_cases h2 : i - 16 < 8
    · simp [h1, h2, show 16 + (i - 16) = i by omega]
    · have h3 : i - 16 - 8 < 8 := by omega
      simp [h1, h2, h3, show 24 + (i - 16 - 8) = i by omega]

/-! ## Station and mode (R190) -/

theorem toNat_stationModeByte (m : Mode) {d : Nat} (hd : d < 32) :
    (stationModeByte m d).toNat = (match m with | .sole => 0 | .shared => 128) + d := by
  have hmod : d % 32 = d := Nat.mod_eq_of_lt hd
  cases m
  · rw [stationModeByte, hmod, toNat_byte (by omega)]
  · rw [stationModeByte, hmod, toNat_byte (by omega)]

theorem stationOf_stationModeByte (m : Mode) {d : Nat} (hd : d < 32) : stationOf (stationModeByte m d) = d := by
  rw [stationOf, toNat_stationModeByte m hd]
  cases m <;> simp only [] <;> omega

theorem modeOf_stationModeByte (m : Mode) {d : Nat} (hd : d < 32) : modeOf (stationModeByte m d) = m := by
  have h := toNat_stationModeByte m hd
  rw [modeOf, BitVec.msb_eq_decide, h]
  cases m
  · exact if_neg (by simp only [decide_eq_true_eq]; omega)
  · exact if_pos (by simp only [decide_eq_true_eq]; omega)

/-! ## The fields of a TRAIN-CLAIM (R109, R190) -/

/-- Holders are read back from their bytes. -/
theorem parseHolders_append : ∀ (hs : List (HoldSlot × Nat)) (rest : List Byte),
    (∀ h ∈ hs, h.1.station < 32 ∧ h.1.lease < 65536 ∧ h.1.serial < 256 ∧ h.2 < 65536) →
    parseHolders hs.length (hs.flatMap holderBytes ++ rest) = some (hs, rest)
  | [], _, _ => rfl
  | ⟨⟨d, m, l, n⟩, left⟩ :: hs, rest, h => by
    obtain ⟨hd, hl, hn, hleft⟩ := h _ List.mem_cons_self
    have ih := parseHolders_append hs rest fun x hx => h x (List.mem_cons_of_mem _ hx)
    simp only [List.length_cons, List.flatMap_cons, holderBytes, bytes16, List.cons_append, List.nil_append,
      parseHolders, ih, stationOf_stationModeByte m hd, modeOf_stationModeByte m hd, u16_bytes hl,
      u16_bytes hleft, toNat_byte hn]

/-- Waiters are read back from their bytes. -/
theorem parseWaiters_flatMap : ∀ ws : List Waiter, (∀ w ∈ ws, w.station < 32 ∧ w.lease < 65536) →
    parseWaiters ws.length (ws.flatMap canonicalWaiter) = some ws
  | [], _ => rfl
  | ⟨d, m, l⟩ :: ws, h => by
    obtain ⟨hd, hl⟩ := h _ List.mem_cons_self
    have ih := parseWaiters_flatMap ws fun x hx => h x (List.mem_cons_of_mem _ hx)
    simp only [List.length_cons, List.flatMap_cons, canonicalWaiter, bytes16, List.cons_append, List.nil_append,
      parseWaiters, ih, Option.map_some, stationOf_stationModeByte m hd, modeOf_stationModeByte m hd, u16_bytes hl]

/-- A TRAIN-CLAIM is read back. -/
theorem parseClaim_claimBytes {f : ClaimFields} (hc : f.claim < 256) (hn : f.serial < 256) (hh : f.holders.length < 8)
    (hw : f.waiters.length < 32)
    (hhs : ∀ h ∈ f.holders, h.1.station < 32 ∧ h.1.lease < 65536 ∧ h.1.serial < 256 ∧ h.2 < 65536)
    (hws : ∀ w ∈ f.waiters, w.station < 32 ∧ w.lease < 65536) : parseClaim (claimBytes f) = some f := by
  have hcounts : (byte (f.holders.length * 32 + f.waiters.length)).toNat = f.holders.length * 32 + f.waiters.length :=
    toNat_byte (by omega)
  have hdiv : (f.holders.length * 32 + f.waiters.length) / 32 = f.holders.length := by omega
  have hmod : (f.holders.length * 32 + f.waiters.length) % 32 = f.waiters.length := by omega
  simp only [claimBytes, List.cons_append, List.nil_append, parseClaim, hcounts, hdiv, hmod,
    parseHolders_append f.holders _ hhs, parseWaiters_flatMap f.waiters hws, Option.map_some, toNat_byte hc, toNat_byte hn]

/-! ## Bits (R141) -/

theorem bitsNat_concat (bs : List Bool) (b : Bool) : bitsNat (bs ++ [b]) = 2 * bitsNat bs + b.toNat := by
  rw [bitsNat, List.foldl_append]
  rfl

theorem natBits_succ (w n : Nat) : natBits (w + 1) n = natBits w (n / 2) ++ [n.testBit 0] := by
  rw [natBits, List.range_succ, List.map_append, List.map_singleton]
  congr 1
  · refine List.map_congr_left fun i hi => ?_
    have hiw : i < w := List.mem_range.mp hi
    rw [← Nat.testBit_succ, show w + 1 - 1 - i = w - 1 - i + 1 by omega]
  · rw [show w + 1 - 1 - w = 0 by omega]

@[simp] theorem length_natBits (w n : Nat) : (natBits w n).length = w := by simp [natBits]

/-- The bits of a number carry it. -/
theorem bitsNat_natBits (w n : Nat) : bitsNat (natBits w n) = n % 2 ^ w := by
  induction w generalizing n with
  | zero => simp [natBits, bitsNat, Nat.mod_one]
  | succ w ih =>
    rw [natBits_succ, bitsNat_concat, ih, Nat.pow_succ', Nat.mod_mul, Nat.testBit_zero]
    rcases Nat.mod_two_eq_zero_or_one n with h | h <;> simp [h] <;> omega

/-- Bits are those of the number that they carry. -/
theorem natBits_bitsNat (bs : List Bool) : natBits bs.length (bitsNat bs) = bs := by
  induction bs using List.reverseRecOn with
  | nil => rfl
  | append_singleton bs b ih =>
    have hdiv : (2 * bitsNat bs + b.toNat) / 2 = bitsNat bs := by cases b <;> simp <;> omega
    have hbit : (2 * bitsNat bs + b.toNat).testBit 0 = b := by
      rw [Nat.testBit_zero]
      cases b <;> simp
    rw [List.length_append, List.length_singleton, bitsNat_concat, natBits_succ, hdiv, hbit, ih]

theorem bitsNat_lt (bs : List Bool) : bitsNat bs < 2 ^ bs.length := by
  rw [← natBits_bitsNat bs, bitsNat_natBits, length_natBits]
  exact Nat.mod_lt _ (Nat.two_pow_pos _)

/-- `w` bits are those of the bit vector that they make. -/
theorem natBits_ofNat {w : Nat} {bs : List Bool} (h : bs.length = w) :
    natBits w (BitVec.ofNat w (bitsNat bs)).toNat = bs := by
  subst h
  rw [BitVec.toNat_ofNat, Nat.mod_eq_of_lt (bitsNat_lt bs), natBits_bitsNat]

/-- The bits of a bit vector make it. -/
theorem ofNat_bitsNat {w : Nat} (v : BitVec w) : BitVec.ofNat w (bitsNat (natBits w v.toNat)) = v := by
  rw [bitsNat_natBits, Nat.mod_eq_of_lt v.isLt]
  simp

theorem length_byteBits (bytes : List Byte) : (byteBits bytes).length = 8 * bytes.length := by
  induction bytes with
  | nil => rfl
  | cons b bytes ih => rw [byteBits, List.flatMap_cons, List.length_append, length_natBits, ← byteBits, ih,
      List.length_cons]; omega

/-- Bytes are read back from their bits, whatever follows. -/
theorem readBytes_byteBits : ∀ (bytes : List Byte) (rest : List Bool),
    readBytes bytes.length (byteBits bytes ++ rest) = bytes
  | [], _ => rfl
  | b :: bytes, rest => by
    have hsplit : byteBits (b :: bytes) ++ rest = natBits 8 b.toNat ++ (byteBits bytes ++ rest) := by
      rw [byteBits, List.flatMap_cons, List.append_assoc]
      rfl
    rw [hsplit, List.length_cons, readBytes, List.take_left' (length_natBits 8 _), List.drop_left' (length_natBits 8 _),
      readBytes_byteBits bytes rest, byte, ofNat_bitsNat]

/-- Bits are those of the bytes read from them. -/
theorem byteBits_readBytes : ∀ (n : Nat) (bs : List Bool), 8 * n ≤ bs.length → byteBits (readBytes n bs) = bs.take (8 * n)
  | 0, _, _ => rfl
  | n + 1, bs, h => by
    have h8 : (bs.take 8).length = 8 := by rw [List.length_take]; omega
    have ih := byteBits_readBytes n (bs.drop 8) (by rw [List.length_drop]; omega)
    have hbyte : natBits 8 (byte (bitsNat (bs.take 8))).toNat = bs.take 8 := natBits_ofNat h8
    rw [readBytes, byteBits, List.flatMap_cons, hbyte, ← byteBits, ih, show 8 * (n + 1) = 8 + 8 * n by omega,
      List.take_add]

@[simp] theorem length_readBytes (n : Nat) (bs : List Bool) : (readBytes n bs).length = n := by
  induction n generalizing bs with
  | zero => rfl
  | succ n ih => rw [readBytes, List.length_cons, ih]

/-! ## Frames (R141, R189) -/

theorem length_bits (f : BusFrame) : (BusFrame.bits f).length = 32 + 8 * f.payload.length := by
  simp only [BusFrame.bits, List.length_append, length_natBits, length_byteBits]
  omega

/-- A frame whose length field counts its payload is read back from its bits (R141). -/
theorem readFrame_bits {f : BusFrame} (h : f.payload.length = f.length.toNat) : readFrame (BusFrame.bits f) = some f := by
  have hcut4 : BusFrame.bits f = natBits 4 f.kind.toNat ++ (natBits 5 f.sender.toNat ++ (natBits 7 f.length.toNat ++
      (byteBits f.payload ++ natBits 16 f.check.toNat))) := by
    simp only [BusFrame.bits, List.append_assoc]
  have hcut9 : BusFrame.bits f = (natBits 4 f.kind.toNat ++ natBits 5 f.sender.toNat) ++ (natBits 7 f.length.toNat ++
      (byteBits f.payload ++ natBits 16 f.check.toNat)) := by
    simp only [BusFrame.bits, List.append_assoc]
  have hcut16 : BusFrame.bits f = (natBits 4 f.kind.toNat ++ natBits 5 f.sender.toNat ++ natBits 7 f.length.toNat) ++
      (byteBits f.payload ++ natBits 16 f.check.toNat) := by
    simp only [BusFrame.bits, List.append_assoc]
  have hfield : lengthField (BusFrame.bits f) = f.length.toNat := by
    rw [lengthField, hcut9, List.drop_left' (by simp), List.take_left' (by simp), bitsNat_natBits,
      Nat.mod_eq_of_lt f.length.isLt]
  have hlength : (BusFrame.bits f).length = 32 + 8 * lengthField (BusFrame.bits f) := by rw [length_bits, hfield, h]
  have hkind : BitVec.ofNat 4 (bitsNat ((BusFrame.bits f).take 4)) = f.kind := by
    rw [hcut4, List.take_left' (by simp), ofNat_bitsNat]
  have hsender : BitVec.ofNat 5 (bitsNat (((BusFrame.bits f).drop 4).take 5)) = f.sender := by
    rw [hcut4, List.drop_left' (by simp), List.take_left' (by simp), ofNat_bitsNat]
  have hcount : BitVec.ofNat 7 f.length.toNat = f.length := by simp
  have hpayload : readBytes f.length.toNat ((BusFrame.bits f).drop 16) = f.payload := by
    rw [hcut16, List.drop_left' (by simp), ← h, readBytes_byteBits]
  have hcheck : BitVec.ofNat 16 (bitsNat (((BusFrame.bits f).drop (16 + 8 * f.length.toNat)).take 16)) = f.check := by
    rw [BusFrame.bits, List.drop_left' (by simp [length_byteBits, h]; omega), List.take_of_length_le (by simp),
      ofNat_bitsNat]
  rw [readFrame, if_pos hlength, hfield, hkind, hsender, hcount, hpayload, hcheck]

/-- The bits that carry a frame are its bits, and its length field counts its payload (R141). -/
theorem bits_of_readFrame {bs : List Bool} {f : BusFrame} (h : readFrame bs = some f) :
    BusFrame.bits f = bs ∧ f.payload.length = f.length.toNat := by
  unfold readFrame at h
  split at h
  next hlen =>
    obtain rfl := Option.some.inj h
    have hfield : (BitVec.ofNat 7 (lengthField bs)).toNat = lengthField bs := by
      have hlt := bitsNat_lt ((bs.drop 9).take 7)
      have h7 : ((bs.drop 9).take 7).length = 7 := by rw [List.length_take, List.length_drop]; omega
      rw [h7] at hlt
      exact Nat.mod_eq_of_lt hlt
    have hkind : natBits 4 (BitVec.ofNat 4 (bitsNat (bs.take 4))).toNat = bs.take 4 :=
      natBits_ofNat (by rw [List.length_take]; omega)
    have hsender : natBits 5 (BitVec.ofNat 5 (bitsNat ((bs.drop 4).take 5))).toNat = (bs.drop 4).take 5 :=
      natBits_ofNat (by rw [List.length_take, List.length_drop]; omega)
    have hlength : natBits 7 (BitVec.ofNat 7 (lengthField bs)).toNat = (bs.drop 9).take 7 :=
      natBits_ofNat (by rw [List.length_take, List.length_drop]; omega)
    have hpayload : byteBits (readBytes (lengthField bs) (bs.drop 16)) = (bs.drop 16).take (8 * lengthField bs) :=
      byteBits_readBytes _ _ (by rw [List.length_drop]; omega)
    have hcheck : natBits 16 (BitVec.ofNat 16 (bitsNat ((bs.drop (16 + 8 * lengthField bs)).take 16))).toNat =
        bs.drop (16 + 8 * lengthField bs) := by
      rw [List.take_of_length_le (by rw [List.length_drop]; omega)]
      exact natBits_ofNat (by rw [List.length_drop]; omega)
    refine ⟨?_, by rw [length_readBytes, hfield]⟩
    rw [BusFrame.bits, hkind, hsender, hlength, hpayload, hcheck]
    calc bs.take 4 ++ (bs.drop 4).take 5 ++ (bs.drop 9).take 7 ++ (bs.drop 16).take (8 * lengthField bs) ++
          bs.drop (16 + 8 * lengthField bs)
        = bs.take (4 + 5 + 7 + 8 * lengthField bs) ++ bs.drop (4 + 5 + 7 + 8 * lengthField bs) := by
          rw [List.take_add, List.take_add, List.take_add]
      _ = bs := List.take_append_drop _ _
  next => cases h

/-- The frame that this station sends, read from its bits (R189). -/
theorem readFrame_sentBits {s : State} {o : OwnFrame} (ho : s.link.sending = some o) (hn : s.station.number < 32)
    (hl : o.payload.length < 128) :
    ∃ f, readFrame (sentBits s) = some f ∧ f.kind.toNat = o.kind.code ∧ f.sender.toNat = s.station.number ∧
      f.length.toNat = o.payload.length ∧ f.payload = o.payload ∧ f.check = BusFrame.computedCheck f := by
  obtain ⟨f, hf, hk, hs, hlen, hp, hc⟩ : ∃ f, sentFrame s = some f ∧ f.kind = BitVec.ofNat 4 o.kind.code ∧
      f.sender = BitVec.ofNat 5 s.station.number ∧ f.length = BitVec.ofNat 7 o.payload.length ∧
      f.payload = o.payload ∧ f.check = BusFrame.computedCheck f := by
    rw [sentFrame, ho]
    exact ⟨_, rfl, rfl, rfl, rfl, rfl, rfl⟩
  have hcode : o.kind.code < 16 := by cases o.kind <;> decide
  have hlength : f.length.toNat = o.payload.length := by
    rw [hlen, BitVec.toNat_ofNat]
    exact Nat.mod_eq_of_lt hl
  refine ⟨f, ?_, ?_, ?_, hlength, hp, hc⟩
  · rw [sentBits, hf]
    exact readFrame_bits (by rw [hp, hlength])
  · rw [hk, BitVec.toNat_ofNat]
    exact Nat.mod_eq_of_lt hcode
  · rw [hs, BitVec.toNat_ofNat]
    exact Nat.mod_eq_of_lt hn

/-- The four bytes of an ASK are read as the claim, the flags and the lease that they were made of. -/
theorem parseAsk_bytes {c k lease : Nat} (hc : c < 256) (hk : k < 256) (hl : lease < 65536) :
    parseAsk ([byte c, byte k] ++ bytes16 lease) = some ⟨c, k, lease⟩ := by
  simp only [bytes16, List.cons_append, List.nil_append, parseAsk, toNat_byte hc, toNat_byte hk, u16_bytes hl]

/-- An ASK is read back (R190). -/
theorem parseAsk_askBytes {c lease : Nat} (mode : Mode) (noWait : Bool) (hc : c < 256) (hl : lease < 65536) :
    ∃ a, parseAsk (askBytes c mode noWait lease) = some a ∧ a.claim = c ∧ a.mode = mode ∧ a.noWait = noWait ∧
      a.lease = lease ∧ a.flags < 4 := by
  match mode, noWait with
  | .sole, false => exact ⟨_, parseAsk_bytes (k := 0) hc (by decide) hl, rfl, by simp [AskFields.mode], by simp [AskFields.noWait], rfl, by simp⟩
  | .sole, true => exact ⟨_, parseAsk_bytes (k := 2) hc (by decide) hl, rfl, by simp [AskFields.mode], by simp [AskFields.noWait], rfl, by simp⟩
  | .shared, false => exact ⟨_, parseAsk_bytes (k := 1) hc (by decide) hl, rfl, by simp [AskFields.mode], by simp [AskFields.noWait], rfl, by simp⟩
  | .shared, true => exact ⟨_, parseAsk_bytes (k := 3) hc (by decide) hl, rfl, by simp [AskFields.mode], by simp [AskFields.noWait], rfl, by simp⟩

/-- Settles O59: kind by kind, then the bits, cut at the fields' widths. -/
theorem payloadsReadBack : Obligations.PayloadsReadBack := by
  refine ⟨fun c mode noWait lease => parseAsk_askBytes mode noWait, fun c serial hc hn => ?_, fun c serial lease hc hn hl => ?_,
    fun c h serial hc hh hn => ?_, fun joining dig => ?_, fun dig => ?_, fun h hk ho => ?_, fun n hn => ?_,
    fun f hf => ⟨length_bits f, readFrame_bits hf⟩, fun bs f => bits_of_readFrame, fun s o => readFrame_sentBits,
    fun f => parseClaim_claimBytes⟩
  · simp only [yieldBytes, parseYield, toNat_byte hc, toNat_byte hn]
  · simp only [extendBytes, bytes16, List.cons_append, List.nil_append, parseExtend, toNat_byte hc, toNat_byte hn,
      u16_bytes hl]
  · simp only [lapseBytes, parseLapse, toNat_byte hc, toNat_byte hh, toNat_byte hn]
  · simp only [rollBytes, digestBytes, parseRoll, digest_halves]
    cases joining <;> rfl
  · simp only [digestBytes, parseTail, digest_halves]
  · simp only [headBytes, maskBytes, List.cons_append, List.nil_append, parseHead, mask_quarters, toNat_byte hk,
      toNat_byte ho]
  · simp only [parseOne, toNat_byte hn]

end Sys2Proof.Machine
end

/-! # The running digest: the obligation -/

section
namespace Sys2Proof.Machine

open Sys2Proof (Byte BusFrame FrameEnd TryEnd Instr)

/-- The claims below `n` that a train carries (R109). -/
def carriedBelow (s : State) (n : Nat) : List Nat :=
  (List.range n).filter (fun c => !(claimAt s c).holders.isEmpty)

/-- The train record after the claims below `n`: what it has counted and taken into its running digest, once the
claims after the last carried one are taken as FREE (R116, R147). -/
structure TakenBelow (s : State) (r₀ : LinkTrain) (n : Nat) (r : LinkTrain) : Prop where
  next_le : r.nextClaim ≤ n
  digested : crcFrom r.runDigest (freeClaimBytes (n - r.nextClaim)) =
    crcFrom r₀.runDigest ((List.range n).flatMap fun c => canonicalClaim (claimAt s c))
  occupied : r.runOccupancy = ((List.range n).map fun c => (claimAt s c).waiters.length).sum
  counted : r.count = (carriedBelow s n).length

theorem laterClaims_none (s : State) : laterClaims none s = carriedBelow s 64 := by
  simp only [laterClaims, carriedBelow, notAbove, Bool.not_false, Bool.and_true, Config.claimCount]

/-- One more FREE claim is three more zero bytes (R191). -/
theorem freeClaimBytes_succ (n : Nat) :
    freeClaimBytes (n + 1) = freeClaimBytes n ++ canonicalClaim ClaimRecord.free := by
  rw [freeClaimBytes, Nat.mul_add, List.replicate_add]
  rfl

/-- A carried claim is read back from its fields as the record that it is (R109). -/
theorem claimFields_record (c : Nat) (s : State) :
    (⟨(claimFields c s).serial, (claimFields c s).holders.map (·.1), (claimFields c s).waiters⟩ : ClaimRecord) =
      claimAt s c := by
  simp [claimFields, Function.comp_def]

theorem TakenBelow.zero {s : State} {r₀ : LinkTrain} (hn : r₀.nextClaim = 0) (ho : r₀.runOccupancy = 0)
    (hc : r₀.count = 0) : TakenBelow s r₀ 0 r₀ where
  next_le := by rw [hn]
  digested := by rw [hn]; rfl
  occupied := by rw [ho]; rfl
  counted := by rw [hc]; rfl

/-- A claim with no holders, FREE with serial 0, adds nothing to the record but three zero bytes due. -/
theorem TakenBelow.skip {s : State} {r₀ r : LinkTrain} {n : Nat} (h : TakenBelow s r₀ n r)
    (hfree : claimAt s n = ClaimRecord.free) : TakenBelow s r₀ (n + 1) r where
  next_le := Nat.le_succ_of_le h.next_le
  digested := by
    rw [Nat.succ_sub h.next_le, freeClaimBytes_succ, crcFrom_append, h.digested, ← crcFrom_append, List.range_succ,
      List.flatMap_append, List.flatMap_singleton, hfree]
  occupied := by simp [List.range_succ, h.occupied, hfree, ClaimRecord.free]
  counted := by simp [carriedBelow, List.range_succ, h.counted, hfree, ClaimRecord.free]

/-- A claim with holders is carried: the FREE claims before it and then the claim itself are taken in. -/
theorem TakenBelow.carry {s : State} {r₀ r : LinkTrain} {n : Nat} (h : TakenBelow s r₀ n r)
    (hheld : (claimAt s n).holders ≠ []) : TakenBelow s r₀ (n + 1) (r.advance (claimFields n s)) where
  next_le := Nat.le_refl _
  digested := by
    have hnow : (r.advance (claimFields n s)).nextClaim = n + 1 := rfl
    have hrun : (r.advance (claimFields n s)).runDigest =
        crcFrom r.runDigest (freeClaimBytes (n - r.nextClaim) ++ canonicalClaim (claimAt s n)) :=
      congrArg (fun x => crcFrom r.runDigest (freeClaimBytes (n - r.nextClaim) ++ canonicalClaim x))
        (claimFields_record n s)
    rw [hnow, Nat.sub_self, hrun, crcFrom_append _ (freeClaimBytes (n - r.nextClaim)), h.digested, ← crcFrom_append,
      List.range_succ, List.flatMap_append, List.flatMap_singleton, show freeClaimBytes 0 = [] from rfl,
      List.append_nil, crcFrom_append]
  occupied := by simp [LinkTrain.advance, claimFields, List.range_succ, h.occupied]
  counted := by simp [LinkTrain.advance, carriedBelow, List.range_succ, h.counted, hheld]

/-- The record follows the claim table, claim by claim. -/
theorem takenBelow_foldl {s : State} {r₀ : LinkTrain}
    (hfree : ∀ c < 64, (claimAt s c).holders = [] → claimAt s c = ClaimRecord.free) (h : TakenBelow s r₀ 0 r₀) :
    ∀ n ≤ 64, TakenBelow s r₀ n ((carriedBelow s n).foldl (fun r c => r.advance (claimFields c s)) r₀)
  | 0, _ => h
  | n + 1, hn => by
    have ih := takenBelow_foldl hfree h n (Nat.le_of_succ_le hn)
    by_cases hheld : (claimAt s n).holders = []
    · have hsame : carriedBelow s (n + 1) = carriedBelow s n := by simp [carriedBelow, List.range_succ, hheld]
      rw [hsame]
      exact ih.skip (hfree n hn hheld)
    · have hmore : carriedBelow s (n + 1) = carriedBelow s n ++ [n] := by
        simp [carriedBelow, List.range_succ, hheld]
      rw [hmore, List.foldl_append]
      exact ih.carry hheld

/-- Settles O60: the record is followed along the claim table; over all 64 claims, with the claims after the last
carried one taken as FREE, it has digested the member mask and then the whole table. -/
theorem runningDigestIsTheSourceDigest : Obligations.RunningDigestIsTheSourceDigest := by
  intro s loads hfree train
  have htaken := takenBelow_foldl (r₀ := LinkTrain.start s.station.number (headFields s) loads) hfree
    (TakenBelow.zero rfl rfl rfl) 64 (Nat.le_refl _)
  have htrain : train = (carriedBelow s 64).foldl (fun r c => r.advance (claimFields c s))
      (LinkTrain.start s.station.number (headFields s) loads) := by rw [← laterClaims_none]
  rw [← htrain] at htaken
  refine ⟨htaken.digested.trans ?_, htaken.occupied, htaken.counted.trans ?_⟩
  · exact (crcFrom_append _ _ _).symm
  · exact congrArg List.length (laterClaims_none s).symm

end Sys2Proof.Machine
end

/-! # The command queue: the obligation O1

No operation writes the queue of commands: one lemma per operation, from the operations that it is made of. -/

section
namespace Sys2Proof.Machine

open Sys2Proof (Byte BusFrame FrameEnd TryEnd Instr)

@[simp] theorem ite_pending (p : Prop) [Decidable p] (s t : State) :
    (if p then s else t).pending = if p then s.pending else t.pending := apply_ite State.pending p s t

@[simp] theorem foldl_pending {α : Type} (f : State → α → State) (h : ∀ s a, (f s a).pending = s.pending)
    (l : List α) (s : State) : (l.foldl f s).pending = s.pending := foldl_keeps State.pending f h l s

@[simp] theorem sideline_pending (cause : StateCause) (s : State) :
    (sideline cause s).pending = s.pending := by
  unfold sideline
  simp

@[simp] theorem halt_pending (cause : StateCause) (s : State) :
    (halt cause s).pending = s.pending := by
  unfold halt
  simp

@[simp] theorem departureEnds_pending (s : State) :
    (departureEnds s).pending = s.pending := by
  unfold departureEnds
  simp

@[simp] theorem enterEntering_pending (cause : StateCause) (s : State) :
    (enterEntering cause s).pending = s.pending := by
  unfold enterEntering
  simp

@[simp] theorem enterAfresh_pending (cause : StateCause) (s : State) :
    (enterAfresh cause s).pending = s.pending := by
  unfold enterAfresh
  simp

@[simp] theorem nextAttempt_pending (cause : StateCause) (s : State) :
    (nextAttempt cause s).pending = s.pending := by
  unfold nextAttempt
  (repeat' split) <;> simp

@[simp] theorem forgetIfSilent_pending (s : State) (d : Nat) :
    (forgetIfSilent s d).pending = s.pending := by
  unfold forgetIfSilent
  (repeat' split) <;> simp

@[simp] theorem copyWaitExpires_pending (s : State) :
    (copyWaitExpires s).pending = s.pending := by
  unfold copyWaitExpires
  simp

@[simp] theorem readyAgain_pending (counted : Bool) (s : State) :
    (readyAgain counted s).pending = s.pending := by
  unfold readyAgain
  simp

@[simp] theorem trainReturn_pending (counted : Bool) (e : TxEntry) (s : State) :
    (trainReturn counted e s).pending = s.pending := by
  unfold trainReturn
  simp

@[simp] theorem returnHead_pending (s : State) :
    (returnHead s).pending = s.pending := by
  unfold returnHead
  (repeat' split) <;> simp

@[simp] theorem busToIdle_pending (s : State) :
    (busToIdle s).pending = s.pending := by
  unfold busToIdle
  simp

@[simp] theorem stopLoading_pending (s : State) :
    (stopLoading s).pending = s.pending := by
  unfold stopLoading
  simp

@[simp] theorem discardCopy_pending (s : State) :
    (discardCopy s).pending = s.pending := by
  unfold discardCopy
  (repeat' split) <;> simp

@[simp] theorem endRun_pending (s : State) :
    (endRun s).pending = s.pending := by
  unfold endRun
  (repeat' split) <;> simp

@[simp] theorem settleRun_pending (s : State) :
    (settleRun s).pending = s.pending := by
  unfold settleRun
  (repeat' split) <;> simp

@[simp] theorem latchIfWarned_pending (before : State) (s : State) (c : Nat) :
    (latchIfWarned before s c).pending = s.pending := by
  unfold latchIfWarned
  (repeat' split) <;> simp

@[simp] theorem tickLeases_pending (s : State) :
    (tickLeases s).pending = s.pending := by
  unfold tickLeases
  simp

@[simp] theorem tickSilence_pending (s : State) :
    (tickSilence s).pending = s.pending := by
  unfold tickSilence
  simp

@[simp] theorem tickTimers_pending (s : State) :
    (tickTimers s).pending = s.pending := by
  unfold tickTimers
  (repeat' split) <;> simp

@[simp] theorem tick_pending (s : State) :
    (tick s).pending = s.pending := by
  unfold tick
  simp

@[simp] theorem countIdle_pending (cycles : Nat) (s : State) :
    (countIdle cycles s).pending = s.pending := by
  unfold countIdle
  (repeat' split) <;> simp

@[simp] theorem clockCycle_pending (s : State) :
    (clockCycle s).pending = s.pending := by
  unfold clockCycle
  simp

@[simp] theorem leaseWatchExpiry_pending (s : State) :
    (leaseWatchExpiry s).pending = s.pending := by
  unfold leaseWatchExpiry
  (repeat' split) <;> simp

@[simp] theorem rollDue_pending (s : State) :
    (rollDue s).pending = s.pending := by
  unfold rollDue
  (repeat' split) <;> simp

@[simp] theorem silenceExpiry_pending (s : State) :
    (silenceExpiry s).pending = s.pending := by
  unfold silenceExpiry
  (repeat' split) <;> simp

@[simp] theorem listenTimerExpiry_pending (s : State) :
    (listenTimerExpiry s).pending = s.pending := by
  unfold listenTimerExpiry
  (repeat' split) <;> simp

@[simp] theorem copyWaitExpiry_pending (s : State) :
    (copyWaitExpiry s).pending = s.pending := by
  unfold copyWaitExpiry
  (repeat' split) <;> simp

@[simp] theorem restTimerExpiry_pending (s : State) :
    (restTimerExpiry s).pending = s.pending := by
  unfold restTimerExpiry
  (repeat' split) <;> simp

@[simp] theorem acceptFrame_pending (k : FrameKind) (sender : Nat) (payload : List Byte) (own : Bool) (binding : Option Nat) (s : State) :
    (acceptFrame k sender payload own binding s).pending = s.pending := by
  unfold acceptFrame
  simp

@[simp] theorem endFrame_pending (e : FrameEnd) (s : State) :
    (endFrame e s).pending = s.pending := by
  unfold endFrame
  (repeat' split) <;> simp

@[simp] theorem refuseFrame_pending (counts : Bool) (e : FrameEnd) (s : State) :
    (refuseFrame counts e s).pending = s.pending := by
  unfold refuseFrame
  (repeat' split) <;> simp

@[simp] theorem takeFrame_pending (k : FrameKind) (f : BusFrame) (e : FrameEnd) (s : State) :
    (takeFrame k f e s).pending = s.pending := by
  unfold takeFrame
  simp

@[simp] theorem slotsOf_pending (f : BusFrame) (otherVeto : Bool) (e : FrameEnd) (s : State) :
    (slotsOf f otherVeto e s).pending = s.pending := by
  unfold slotsOf
  (repeat' split) <;> simp

@[simp] theorem receiveFrame_pending (sampled : List Bool) (otherVeto : Bool) (e : FrameEnd) (s : State) :
    (receiveFrame sampled otherVeto e s).pending = s.pending := by
  unfold receiveFrame
  (repeat' split) <;> simp

@[simp] theorem endIfUsed_pending (t : Nat) (n : Notice) (s : State) :
    (endIfUsed t n s).pending = s.pending := by
  unfold endIfUsed
  (repeat' split) <;> simp

@[simp] theorem tooLateIfHeld_pending (t : Nat) (s : State) :
    (tooLateIfHeld t s).pending = s.pending := by
  unfold tooLateIfHeld
  (repeat' split) <;> simp

@[simp] theorem clearExtend_pending (t : Nat) (s : State) :
    (clearExtend t s).pending = s.pending := by
  unfold clearExtend
  simp

@[simp] theorem staleEffect_pending (e : TxEntry) (s : State) :
    (staleEffect e s).pending = s.pending := by
  unfold staleEffect
  (repeat' split) <;> simp

@[simp] theorem withdrawIfStale_pending (s : State) (e : TxEntry) :
    (withdrawIfStale s e).pending = s.pending := by
  unfold withdrawIfStale
  (repeat' split) <;> simp

@[simp] theorem revalidate_pending (s : State) :
    (revalidate s).pending = s.pending := by
  unfold revalidate
  simp

@[simp] theorem offer_pending (s : State) :
    (offer s).pending = s.pending := by
  unfold offer
  (repeat' split) <;> simp

@[simp] theorem openEntry_pending (e : TxEntry) (s : State) :
    (openEntry e s).pending = s.pending := by
  unfold openEntry
  (repeat' split) <;> simp

@[simp] theorem pullOffered_pending (s : State) :
    (pullOffered s).pending = s.pending := by
  unfold pullOffered
  (repeat' split) <;> simp

@[simp] theorem openFrame_pending (pull : Bool) (s : State) :
    (openFrame pull s).pending = s.pending := by
  unfold openFrame
  (repeat' split) <;> simp

@[simp] theorem frameOpen_pending (elapsed : Nat) (pull : Bool) (s : State) :
    (frameOpen elapsed pull s).pending = s.pending := by
  unfold frameOpen
  simp

@[simp] theorem limitEffect_pending (f : TxFrame) (binding : Option Nat) (s : State) :
    (limitEffect f binding s).pending = s.pending := by
  unfold limitEffect
  (repeat' split) <;> simp

@[simp] theorem atLimit_pending (e : TxEntry) (s : State) :
    (atLimit e s).pending = s.pending := by
  unfold atLimit
  simp

@[simp] theorem failTrain_pending (s : State) :
    (failTrain s).pending = s.pending := by
  unfold failTrain
  simp

@[simp] theorem returnEntry_pending (counted : Bool) (e : TxEntry) (s : State) :
    (returnEntry counted e s).pending = s.pending := by
  unfold returnEntry
  (repeat' split) <;> simp

@[simp] theorem returnTry_pending (counted : Bool) (s : State) :
    (returnTry counted s).pending = s.pending := by
  unfold returnTry
  (repeat' split) <;> simp

@[simp] theorem afterStall_pending (linesHigh : Bool) (s : State) :
    (afterStall linesHigh s).pending = s.pending := by
  unfold afterStall
  (repeat' split) <;> simp

@[simp] theorem afterBreak_pending (rise : Bool) (s : State) :
    (afterBreak rise s).pending = s.pending := by
  unfold afterBreak
  (repeat' split) <;> simp

@[simp] theorem afterEnd_pending (e : TryEnd) (s : State) :
    (afterEnd e s).pending = s.pending := by
  unfold afterEnd
  (repeat' split) <;> simp

@[simp] theorem afterOwn_pending (e : TryEnd) (s : State) :
    (afterOwn e s).pending = s.pending := by
  unfold afterOwn
  (repeat' split) <;> simp

@[simp] theorem ownAccepted_pending (s : State) :
    (ownAccepted s).pending = s.pending := by
  unfold ownAccepted
  simp

@[simp] theorem acceptOwn_pending (o : OwnFrame) (binding : Option Nat) (s : State) :
    (acceptOwn o binding s).pending = s.pending := by
  unfold acceptOwn
  simp

@[simp] theorem acceptSingle_pending (o : OwnFrame) (e : TxEntry) (ending : TryEnd) (s : State) :
    (acceptSingle o e ending s).pending = s.pending := by
  unfold acceptSingle
  (repeat' split) <;> simp

@[simp] theorem relink_pending (c : Composer) (s : State) :
    (relink c s).pending = s.pending := by
  unfold relink
  simp

@[simp] theorem acceptTrain_pending (o : OwnFrame) (ending : TryEnd) (s : State) :
    (acceptTrain o ending s).pending = s.pending := by
  unfold acceptTrain
  dsimp only
  (repeat' split) <;> simp

@[simp] theorem acceptTry_pending (o : OwnFrame) (ending : TryEnd) (s : State) :
    (acceptTry o ending s).pending = s.pending := by
  unfold acceptTry
  (repeat' split) <;> simp

@[simp] theorem countSlots_pending (vetoLow heardLow : Bool) (s : State) :
    (countSlots vetoLow heardLow s).pending = s.pending := by
  unfold countSlots
  (repeat' split) <;> simp

@[simp] theorem reportUnheard_pending (s : State) :
    (reportUnheard s).pending = s.pending := by
  unfold reportUnheard
  (repeat' split) <;> simp

@[simp] theorem reportClash_pending (s : State) :
    (reportClash s).pending = s.pending := by
  unfold reportClash
  (repeat' split) <;> simp

@[simp] theorem trySlots_pending (o : OwnFrame) (vetoLow heardLow : Bool) (ending : TryEnd) (s : State) :
    (trySlots o vetoLow heardLow ending s).pending = s.pending := by
  unfold trySlots
  (repeat' split) <;> simp

@[simp] theorem tryClashed_pending (e : FrameEnd) (s : State) :
    (tryClashed e s).pending = s.pending := by
  unfold tryClashed
  simp

@[simp] theorem countTail_pending (s : State) :
    (countTail s).pending = s.pending := by
  unfold countTail
  (repeat' split) <;> simp

@[simp] theorem tryCut_pending (o : OwnFrame) (vetoLow : Option Bool) (ending : TryEnd) (s : State) :
    (tryCut o vetoLow ending s).pending = s.pending := by
  unfold tryCut
  (repeat' split) <;> simp

@[simp] theorem tryLost_pending (o : OwnFrame) (ending : TryEnd) (s : State) :
    (tryLost o ending s).pending = s.pending := by
  unfold tryLost
  (repeat' split) <;> simp

@[simp] theorem endTry_pending (o : OwnFrame) (sampled : List Bool) (ending : TryEnd) (s : State) :
    (endTry o sampled ending s).pending = s.pending := by
  unfold endTry
  (repeat' split) <;> simp

@[simp] theorem tryOutcome_pending (sampled : List Bool) (ending : TryEnd) (s : State) :
    (tryOutcome sampled ending s).pending = s.pending := by
  unfold tryOutcome
  (repeat' split) <;> simp

@[simp] theorem cutFrame_pending (sampled : List Bool) (ending : TryEnd) (s : State) :
    (cutFrame sampled ending s).pending = s.pending := by
  unfold cutFrame
  (repeat' split) <;> simp

@[simp] theorem stall_pending (sampled : List Bool) (linesHigh : Bool) (s : State) :
    (stall sampled linesHigh s).pending = s.pending := by
  unfold stall
  simp

@[simp] theorem frameBreak_pending (sampled : List Bool) (rise : Bool) (s : State) :
    (frameBreak sampled rise s).pending = s.pending := by
  unfold frameBreak
  simp

@[simp] theorem lineStuck_pending (s : State) :
    (lineStuck s).pending = s.pending := by
  unfold lineStuck
  (repeat' split) <;> simp

@[simp] theorem busIdleReturn_pending (s : State) :
    (busIdleReturn s).pending = s.pending := by
  unfold busIdleReturn
  (repeat' split) <;> simp

@[simp] theorem lineFallWithoutOpen_pending (s : State) :
    (lineFallWithoutOpen s).pending = s.pending := by
  unfold lineFallWithoutOpen
  (repeat' split) <;> simp

@[simp] theorem commonSteps_pending (e : RxEntry) (s : State) :
    (commonSteps e s).pending = s.pending := by
  unfold commonSteps
  (repeat' split) <;> simp

@[simp] theorem beforeApply_pending (e : RxEntry) (s : State) :
    (beforeApply e s).pending = s.pending := by
  unfold beforeApply
  (repeat' split) <;> simp

@[simp] theorem applyEntry_pending (body : RxEntry → State → State) (s : State)
    (h : ∀ e s, (body e s).pending = s.pending) : (applyEntry body s).pending = s.pending := by
  unfold applyEntry
  (repeat' split) <;> simp [h]

@[simp] theorem applyFront_pending (k : FrameKind) (body : RxEntry → State → State) (s : State)
    (h : ∀ e s, (body e s).pending = s.pending) :
    (applyFront k body s).pending = s.pending := by
  unfold applyFront
  (repeat' split) <;> simp [h]

@[simp] theorem appendWaiter_pending (c : Nat) (w : Waiter) (s : State) :
    (appendWaiter c w s).pending = s.pending := by
  unfold appendWaiter
  simp

@[simp] theorem tagAskGranted_pending (serial : Nat) (t : Nat) (s : State) :
    (tagAskGranted serial t s).pending = s.pending := by
  unfold tagAskGranted
  (repeat' split) <;> simp

@[simp] theorem tagAskQueued_pending (claim position : Nat) (t : Nat) (s : State) :
    (tagAskQueued claim position t s).pending = s.pending := by
  unfold tagAskQueued
  (repeat' split) <;> simp

@[simp] theorem toAskTag_pending (e : RxEntry) (act : Nat → State → State) (s : State)
    (h : ∀ t s, (act t s).pending = s.pending) :
    (toAskTag e act s).pending = s.pending := by
  unfold toAskTag
  (repeat' split) <;> simp [h]

@[simp] theorem askEffect_pending (a : AskFields) (e : RxEntry) (o : AskOutcome) (s : State) :
    (askEffect a e o s).pending = s.pending := by
  unfold askEffect
  (repeat' split) <;> simp

@[simp] theorem askBody_pending (e : RxEntry) (s : State) :
    (askBody e s).pending = s.pending := by
  unfold askBody
  (repeat' split) <;> simp

@[simp] theorem removeAndPromote_pending (c h : Nat) (s : State) :
    (removeAndPromote c h s).pending = s.pending := by
  unfold removeAndPromote
  simp

@[simp] theorem endTagFor_pending (c : Nat) (ps : List Phase) (n : Nat → Notice) (s : State) :
    (endTagFor c ps n s).pending = s.pending := by
  unfold endTagFor
  (repeat' split) <;> simp

@[simp] theorem yieldBody_pending (e : RxEntry) (s : State) :
    (yieldBody e s).pending = s.pending := by
  unfold yieldBody
  (repeat' split) <;> simp

@[simp] theorem staleExtend_pending (e : RxEntry) (s : State) :
    (staleExtend e s).pending = s.pending := by
  unfold staleExtend
  (repeat' split) <;> simp

@[simp] theorem tagExtended_pending (c l serial : Nat) (s : State) :
    (tagExtended c l serial s).pending = s.pending := by
  unfold tagExtended
  (repeat' split) <;> simp

@[simp] theorem extendBody_pending (e : RxEntry) (s : State) :
    (extendBody e s).pending = s.pending := by
  unfold extendBody
  (repeat' split) <;> simp

@[simp] theorem lapseBody_pending (e : RxEntry) (s : State) :
    (lapseBody e s).pending = s.pending := by
  unfold lapseBody
  (repeat' split) <;> simp

@[simp] theorem staleCancel_pending (e : RxEntry) (s : State) :
    (staleCancel e s).pending = s.pending := by
  unfold staleCancel
  (repeat' split) <;> simp

@[simp] theorem leaveQueue_pending (c h : Nat) (s : State) :
    (leaveQueue c h s).pending = s.pending := by
  unfold leaveQueue
  (repeat' split) <;> simp

@[simp] theorem cancelBody_pending (e : RxEntry) (s : State) :
    (cancelBody e s).pending = s.pending := by
  unfold cancelBody
  (repeat' split) <;> simp

@[simp] theorem unlist_pending (d : Nat) (s : State) :
    (unlist d s).pending = s.pending := by
  unfold unlist
  simp

@[simp] theorem droppedSelf_pending (sender : Nat) (s : State) :
    (droppedSelf sender s).pending = s.pending := by
  unfold droppedSelf
  (repeat' split) <;> simp

@[simp] theorem dropShared_pending (d sender : Nat) (s : State) :
    (dropShared d sender s).pending = s.pending := by
  unfold dropShared
  (repeat' split) <;> simp

@[simp] theorem dropLearned_pending (d : Nat) (s : State) :
    (dropLearned d s).pending = s.pending := by
  unfold dropLearned
  (repeat' split) <;> simp

@[simp] theorem dropBody_pending (e : RxEntry) (s : State) :
    (dropBody e s).pending = s.pending := by
  unfold dropBody
  (repeat' split) <;> simp

@[simp] theorem listFresh_pending (d : Nat) (r : RosterEntry) (s : State) :
    (listFresh d r s).pending = s.pending := by
  unfold listFresh
  simp

@[simp] theorem enterShared_pending (d : Nat) (s : State) :
    (enterShared d s).pending = s.pending := by
  unfold enterShared
  (repeat' split) <;> simp

@[simp] theorem found_pending (s : State) :
    (found s).pending = s.pending := by
  unfold found
  simp

@[simp] theorem joinWait_pending (s : State) :
    (joinWait s).pending = s.pending := by
  unfold joinWait
  simp

@[simp] theorem enterLearned_pending (d : Nat) (s : State) :
    (enterLearned d s).pending = s.pending := by
  unfold enterLearned
  (repeat' split) <;> simp

@[simp] theorem enterBody_pending (e : RxEntry) (s : State) :
    (enterBody e s).pending = s.pending := by
  unfold enterBody
  (repeat' split) <;> simp

@[simp] theorem learnRoll_pending (d : Nat) (joining : Bool) (s : State) :
    (learnRoll d joining s).pending = s.pending := by
  unfold learnRoll
  (repeat' split) <;> simp

@[simp] theorem diverge_pending (d : Nat) (s : State) :
    (diverge d s).pending = s.pending := by
  unfold diverge
  simp

@[simp] theorem countDisagree_pending (s : State) :
    (countDisagree s).pending = s.pending := by
  unfold countDisagree
  simp

@[simp] theorem compareRoll_pending (d : Nat) (dig : BitVec 16) (s : State) :
    (compareRoll d dig s).pending = s.pending := by
  unfold compareRoll
  (repeat' split) <;> simp

@[simp] theorem rollBody_pending (e : RxEntry) (s : State) :
    (rollBody e s).pending = s.pending := by
  unfold rollBody
  (repeat' split) <;> simp

@[simp] theorem loadHead_pending (h : HeadFields) (s : State) :
    (loadHead h s).pending = s.pending := by
  unfold loadHead
  simp

@[simp] theorem trainHeadBody_pending (e : RxEntry) (s : State) :
    (trainHeadBody e s).pending = s.pending := by
  unfold trainHeadBody
  (repeat' split) <;> simp

@[simp] theorem loadHold_pending (c : Nat) (s : State) (h : HoldSlot × Nat) :
    (loadHold c s h).pending = s.pending := by
  unfold loadHold
  (repeat' split) <;> simp

@[simp] theorem loadClaim_pending (f : ClaimFields) (s : State) :
    (loadClaim f s).pending = s.pending := by
  unfold loadClaim
  simp

@[simp] theorem trainClaimBody_pending (e : RxEntry) (s : State) :
    (trainClaimBody e s).pending = s.pending := by
  unfold trainClaimBody
  (repeat' split) <;> simp

@[simp] theorem commitStation_pending (joining : BitVec 32) (s : State) (d : Nat) :
    (commitStation joining s d).pending = s.pending := by
  unfold commitStation
  (repeat' split) <;> simp

@[simp] theorem commitRoster_pending (joining : BitVec 32) (s : State) :
    (commitRoster joining s).pending = s.pending := by
  unfold commitRoster
  simp

@[simp] theorem sourceCommit_pending (s : State) :
    (sourceCommit s).pending = s.pending := by
  unfold sourceCommit
  simp

@[simp] theorem startLoaded_pending (c : Nat) (s : State) (h : HoldSlot) :
    (startLoaded c s h).pending = s.pending := by
  unfold startLoaded
  simp

@[simp] theorem startLoadedOn_pending (s : State) (c : Nat) :
    (startLoadedOn s c).pending = s.pending := by
  unfold startLoadedOn
  simp

@[simp] theorem loaderReady_pending (s : State) :
    (loaderReady s).pending = s.pending := by
  unfold loaderReady
  simp

@[simp] theorem joinCommit_pending (s : State) :
    (joinCommit s).pending = s.pending := by
  unfold joinCommit
  simp

@[simp] theorem reconcileTag_pending (s : State) (t : Nat) :
    (reconcileTag s t).pending = s.pending := by
  unfold reconcileTag
  (repeat' split) <;> simp

@[simp] theorem supersedeDrops_pending (s : State) :
    (supersedeDrops s).pending = s.pending := by
  unfold supersedeDrops
  simp

@[simp] theorem founderCommit_pending (s : State) :
    (founderCommit s).pending = s.pending := by
  unfold founderCommit
  simp

@[simp] theorem loaderCommit_pending (s : State) :
    (loaderCommit s).pending = s.pending := by
  unfold loaderCommit
  (repeat' split) <;> simp

@[simp] theorem trainTailBody_pending (e : RxEntry) (s : State) :
    (trainTailBody e s).pending = s.pending := by
  unfold trainTailBody
  (repeat' split) <;> simp

@[simp] theorem takeCommand_pending (c : Command) (body : List Byte → State → State) (s : State)
    (h : ∀ fs s, (body fs s).pending = s.pending) :
    (takeCommand c body s).pending = s.pending := by
  unfold takeCommand
  (repeat' split) <;> simp [h]

@[simp] theorem deny_pending (c : Command) (r : DenyReason) (s : State) :
    (deny c r s).pending = s.pending := by
  unfold deny
  simp

@[simp] theorem takeSetup_pending (fs : List Byte) (s : State) :
    (takeSetup fs s).pending = s.pending := by
  unfold takeSetup
  (repeat' split) <;> simp

@[simp] theorem takeGo_pending (_fs : List Byte) (s : State) :
    (takeGo _fs s).pending = s.pending := by
  unfold takeGo
  (repeat' split) <;> simp

@[simp] theorem takeLeave_pending (_fs : List Byte) (s : State) :
    (takeLeave _fs s).pending = s.pending := by
  unfold takeLeave
  (repeat' split) <;> simp

@[simp] theorem takeRestart_pending (_fs : List Byte) (s : State) :
    (takeRestart _fs s).pending = s.pending := by
  unfold takeRestart
  simp

@[simp] theorem takeStatus_pending (_fs : List Byte) (s : State) :
    (takeStatus _fs s).pending = s.pending := by
  unfold takeStatus
  simp

@[simp] theorem takeMask_pending (fs : List Byte) (s : State) :
    (takeMask fs s).pending = s.pending := by
  unfold takeMask
  (repeat' split) <;> simp

@[simp] theorem takeQuery_pending (fs : List Byte) (s : State) :
    (takeQuery fs s).pending = s.pending := by
  unfold takeQuery
  (repeat' split) <;> simp

@[simp] theorem takeSurvey_pending (_fs : List Byte) (s : State) :
    (takeSurvey _fs s).pending = s.pending := by
  unfold takeSurvey
  simp

@[simp] theorem takeAcquire_pending (fs : List Byte) (s : State) :
    (takeAcquire fs s).pending = s.pending := by
  unfold takeAcquire
  (repeat' split) <;> simp

@[simp] theorem onTag_pending (c : Command) (t : Nat) (inRange : Bool) (act : State → State) (s : State)
    (h : ∀ s, (act s).pending = s.pending) :
    (onTag c t inRange act s).pending = s.pending := by
  unfold onTag
  (repeat' split) <;> simp [h]

@[simp] theorem takeRelease_pending (fs : List Byte) (s : State) :
    (takeRelease fs s).pending = s.pending := by
  unfold takeRelease
  simp

@[simp] theorem takeExtend_pending (fs : List Byte) (s : State) :
    (takeExtend fs s).pending = s.pending := by
  unfold takeExtend
  simp

@[simp] theorem takeCancel_pending (fs : List Byte) (s : State) :
    (takeCancel fs s).pending = s.pending := by
  unfold takeCancel
  refine onTag_pending _ _ _ _ _ fun s => ?_
  (repeat' split) <;> simp

@[simp] theorem clearAssembler_pending (s : State) :
    (clearAssembler s).pending = s.pending := by
  unfold clearAssembler
  simp

@[simp] theorem expireAssembly_pending (s : State) :
    (expireAssembly s).pending = s.pending := by
  unfold expireAssembly
  (repeat' split) <;> simp

@[simp] theorem latchByte_pending (b : Byte) (s : State) :
    (latchByte b s).pending = s.pending := by
  unfold latchByte
  (repeat' split) <;> simp

@[simp] theorem writeByte_pending (b : Byte) (selected readLow : Bool) (s : State) :
    (writeByte b selected readLow s).pending = s.pending := by
  unfold writeByte
  (repeat' split) <;> simp

@[simp] theorem finishReading_pending (n : Notice) (s : State) :
    (finishReading n s).pending = s.pending := by
  unfold finishReading
  simp

@[simp] theorem readNext_pending (r : Reading) (s : State) :
    (readNext r s).pending = s.pending := by
  unfold readNext
  (repeat' split) <;> simp

@[simp] theorem consumeByte_pending (s : State) :
    (consumeByte s).pending = s.pending := by
  unfold consumeByte
  (repeat' split) <;> simp

@[simp] theorem readByte_pending (selected writeLow : Bool) (s : State) :
    (readByte selected writeLow s).pending = s.pending := by
  unfold readByte
  (repeat' split) <;> simp

@[simp] theorem powered_pending (f : State → State) (s : State) (h : ∀ s, (f s).pending = s.pending) :
    (powered f s).pending = s.pending := by
  unfold powered
  split <;> simp [h]

/-- A command leaves the queue alone (98_reader.md). -/
theorem exec_pending (c : Instr) (s : State) : ∃ t, exec c s = .next t ∧ t.pending = s.pending := by
  cases c with
  | hardReset => exact ⟨_, rfl, rfl⟩
  | resetRelease straps =>
    refine ⟨resetRelease straps s, rfl, ?_⟩
    unfold resetRelease
    split <;> rfl
  | _ => exact ⟨_, rfl, powered_pending _ _ (by simp)⟩

/-- Settles O1: the first part is the step's definition; each command is an operation that does not write the queue. -/
theorem stepRunsTheFrontCommand : Obligations.StepRunsTheFrontCommand :=
  ⟨fun s => ⟨fun c rest h => by rw [step, h], fun h => by rw [step, h]⟩, exec_pending⟩

end Sys2Proof.Machine
end

/-! # Veto reasons (Tables 6-2 and 8-1)

The tests of the link controller before the veto slot, as the reasons that the tables name. -/

section
namespace Sys2Proof.Machine

open Sys2Proof (Byte BusFrame FrameEnd TryEnd Instr)

/-! ## Kinds -/

theorem ofCode_eq_trainHead (b : BitVec 4) : FrameKind.ofCode b.toNat = some .trainHead ↔ b = 6#4 := by
  revert b; decide

theorem ofCode_eq_trainClaim (b : BitVec 4) : FrameKind.ofCode b.toNat = some .trainClaim ↔ b = 7#4 := by
  revert b; decide

theorem ofCode_eq_trainTail (b : BitVec 4) : FrameKind.ofCode b.toNat = some .trainTail ↔ b = 8#4 := by
  revert b; decide

/-! ## Context -/

theorem relinkContinues_iff {s : State} : relinkContinues s = true ↔ ContinuesTrain s := by
  simp [relinkContinues, ContinuesTrain, Option.isSome_iff_ne_none, and_assoc]

/-- A claim or tail frame continues the pending train exactly where the run was relinked after its last frame. -/
theorem continues_iff {s : State} {k : FrameKind} (hk : k = .trainClaim ∨ k = .trainTail) :
    continues k s = true ↔ ContinuesTrain s := by
  have hkind : (k == .trainClaim || k == .trainTail) = true := by rcases hk with rfl | rfl <;> rfl
  rw [continues, hkind, Bool.and_true, relinkContinues_iff]

/-- Two masks share a station where their conjunction is not empty. -/
theorem and_ne_zero_iff (x y : BitVec 32) :
    x &&& y ≠ 0#32 ↔ ∃ d < 32, x.getLsbD d = true ∧ y.getLsbD d = true := by
  constructor
  · intro h
    by_contra hn
    refine h (BitVec.eq_of_getLsbD_eq fun d hd => ?_)
    rw [BitVec.getLsbD_and, BitVec.getLsbD_zero, Bool.eq_false_iff]
    exact fun hb => hn ⟨d, hd, Bool.and_eq_true_iff.mp hb⟩
  · rintro ⟨d, _, hx, hy⟩ h
    have hd := congrArg (·.getLsbD d) h
    simp [hx, hy] at hd

theorem headOutOfContext_iff {f : BusFrame} {s : State} :
    headOutOfContext f.sender.toNat f.payload s = true ↔ HeadFails f s := by
  unfold headOutOfContext HeadFails
  rw [Bool.or_eq_true]
  refine or_congr (by simp [Option.isSome_iff_ne_none]) ?_
  cases parseHead f.payload with
  | none => simp
  | some h =>
    simp only [Bool.or_eq_true, decide_eq_true_eq, maskLists, bne_iff_ne, and_ne_zero_iff, Bool.not_eq_true',
      Option.some.injEq, forall_eq', or_assoc]
    exact Iff.rfl

theorem notAbove_iff {last : Option Nat} {c : Nat} : notAbove last c = true ↔ ∃ l, last = some l ∧ c ≤ l := by
  cases last <;> simp [notAbove]

theorem claimOutOfContext_iff {f : BusFrame} {s : State} :
    claimOutOfContext f.sender.toNat f.payload s = true ↔ ClaimFails f s := by
  have hc := continues_iff (s := s) (k := .trainClaim) (.inl rfl)
  unfold claimOutOfContext ClaimFails
  cases ht : s.link.train with
  | none => simp [ContinuesTrain, ht]
  | some r =>
    cases parseClaim f.payload with
    | none => simp
    | some g =>
      simp only [Bool.or_eq_true, Bool.not_eq_true', ← Bool.not_eq_true, hc, bne_iff_ne, decide_eq_true_eq,
        notAbove_iff, List.isEmpty_iff, Option.some.injEq, or_assoc]
      exact or_congr Iff.rfl ⟨by rintro h _ _ rfl rfl; exact h, fun h => h r g rfl rfl⟩

theorem tailOutOfContext_iff {f : BusFrame} {s : State} :
    tailOutOfContext f.sender.toNat f.payload s = true ↔ TailFails f s := by
  have hc := continues_iff (s := s) (k := .trainTail) (.inr rfl)
  unfold tailOutOfContext TailFails
  cases ht : s.link.train with
  | none => simp [ContinuesTrain, ht]
  | some r =>
    cases parseTail f.payload with
    | none => simp
    | some d =>
      simp only [Bool.or_eq_true, Bool.not_eq_true', ← Bool.not_eq_true, hc, bne_iff_ne, decide_eq_true_eq,
        Option.some.injEq, or_assoc]
      exact or_congr Iff.rfl ⟨by rintro h _ _ rfl rfl; exact h, fun h => h r d rfl rfl⟩

/-! ## Content -/

theorem leaseOutOfRange_iff {l : Nat} : leaseOutOfRange l = true ↔ l = 0 ∨ 4095 < l := by
  simp only [leaseOutOfRange, Bool.or_eq_true, beq_iff_eq, decide_eq_true_eq]
  exact Iff.rfl

theorem holdersShaped_eq_false_iff {hs : List HoldSlot} :
    holdersShaped hs = false ↔ hs = [] ∨ (1 < hs.length ∧ ∃ h ∈ hs, h.mode = .sole) ∨ 4 < hs.length := by
  have hmode : ∀ h : HoldSlot, (h.mode == .shared) = false ↔ h.mode = .sole := by
    intro h; cases h.mode <;> decide
  match hs with
  | [] => simp [holdersShaped]
  | [h] => simp [holdersShaped]
  | h₁ :: h₂ :: rest =>
    rw [holdersShaped, Bool.and_eq_false_iff, List.all_eq_false, decide_eq_false_iff_not, Nat.not_le]
    simp only [← Bool.not_eq_true, ← hmode, List.length_cons, reduceCtorEq, false_or]
    refine or_congr ⟨fun h => ⟨by omega, h⟩, And.right⟩ Iff.rfl

theorem claimContentFails_iff {self : Nat} {r : LinkTrain} {g : ClaimFields} :
    claimContentFails self r g = true ↔ ClaimContentFails self r g := by
  have hnamed : g.stations = g.holders.map (·.1.station) ++ g.waiters.map (·.station) := rfl
  simp only [claimContentFails, ClaimContentFails, Bool.or_eq_true, Bool.not_eq_true', holdersShaped_eq_false_iff,
    List.any_eq_true, decide_eq_true_eq, decide_eq_false_iff_not, leaseOutOfRange_iff, maskLists, beq_iff_eq,
    List.map_eq_nil_iff, List.length_map, or_assoc, List.mem_map (f := fun x : HoldSlot × Nat => x.1),
    exists_exists_and_eq_and, ← hnamed, and_or_left, exists_or]
  iterate 9 refine or_congr Iff.rfl ?_
  exact or_left_comm

/-! ## The veto -/

/-- A loader's test of a TRAIN-CLAIM's content adds to its context test the reasons of R115. -/
theorem claimFrameFails_iff {f : BusFrame} {s : State} :
    trainFrameFails .trainClaim f.sender.toNat f.payload s = true ↔
      ClaimFails f s ∨ ∃ r g, s.link.train = some r ∧ r.loads = true ∧ parseClaim f.payload = some g ∧
        ClaimContentFails s.station.number r g := by
  rw [trainFrameFails, Bool.or_eq_true, claimOutOfContext_iff]
  by_cases hcontext : ClaimFails f s
  · simp only [hcontext, true_or]
  · refine or_congr Iff.rfl ?_
    unfold contentFails
    cases ht : s.link.train with
    | none => simp
    | some r =>
      cases hp : parseClaim f.payload with
      | none => exact absurd (.inr fun _ _ _ hg => by rw [hp] at hg; cases hg) hcontext
      | some g =>
        simp only [Bool.and_eq_true, claimContentFails_iff, Option.some.injEq]
        exact ⟨fun h => ⟨r, g, rfl, h.1, rfl, h.2⟩, by rintro ⟨_, _, rfl, hl, rfl, hf⟩; exact ⟨hl, hf⟩⟩

theorem tailContentFails_iff {r : LinkTrain} {d : BitVec 16} : tailContentFails r d = true ↔ TailContentFails r d := by
  simp only [tailContentFails, Bool.or_eq_true, bne_iff_ne]

/-- A loader's test of a TRAIN-TAIL's content adds to its context test the reasons of R116. -/
theorem tailFrameFails_iff {f : BusFrame} {s : State} :
    trainFrameFails .trainTail f.sender.toNat f.payload s = true ↔
      TailFails f s ∨ ∃ r d, s.link.train = some r ∧ r.loads = true ∧ parseTail f.payload = some d ∧
        TailContentFails r d := by
  rw [trainFrameFails, Bool.or_eq_true, tailOutOfContext_iff]
  by_cases hcontext : TailFails f s
  · simp only [hcontext, true_or]
  · refine or_congr Iff.rfl ?_
    unfold contentFails
    cases ht : s.link.train with
    | none => simp
    | some r =>
      cases hp : parseTail f.payload with
      | none => exact absurd (.inr fun _ _ _ hg => by rw [hp] at hg; cases hg) hcontext
      | some d =>
        simp only [Bool.and_eq_true, tailContentFails_iff, Option.some.injEq]
        exact ⟨fun h => ⟨r, d, rfl, h.1, rfl, h.2⟩, by rintro ⟨_, _, rfl, hl, rfl, hf⟩; exact ⟨hl, hf⟩⟩

theorem headFrameFails_iff {f : BusFrame} {s : State} :
    trainFrameFails .trainHead f.sender.toNat f.payload s = true ↔ s.apply.rx ≠ [] ∨ HeadFails f s := by
  rw [trainFrameFails, Bool.or_eq_true, headOutOfContext_iff, or_comm, Bool.not_eq_true', List.isEmpty_eq_false_iff]

/-- A frame fails a train's tests where it is a train frame, and fails those of its kind. -/
theorem trainFrameFails_iff {f : BusFrame} {s : State} {k : FrameKind} (hk : FrameKind.ofCode f.kind.toNat = some k) :
    trainFrameFails k f.sender.toNat f.payload s = true ↔
      (f.kind = 6#4 ∧ (s.apply.rx ≠ [] ∨ HeadFails f s)) ∨
      (f.kind = 7#4 ∧ (ClaimFails f s ∨ ∃ r g, s.link.train = some r ∧ r.loads = true ∧
        parseClaim f.payload = some g ∧ ClaimContentFails s.station.number r g)) ∨
      (f.kind = 8#4 ∧ (TailFails f s ∨ ∃ r d, s.link.train = some r ∧ r.loads = true ∧
        parseTail f.payload = some d ∧ TailContentFails r d)) := by
  rw [← ofCode_eq_trainHead, ← ofCode_eq_trainClaim, ← ofCode_eq_trainTail, hk, ← headFrameFails_iff,
    ← claimFrameFails_iff, ← tailFrameFails_iff]
  cases k <;> simp [trainFrameFails]

/-- A veto counts where the frame gives a reason of Table 8-1 (R146, R152). -/
theorem countingVeto_iff {f : BusFrame} {s : State} : countingVeto f s = true ↔ VetoReason f s := by
  have hrelinked : relinkedOther f s = true ↔ s.link.bus = .inRelinked ∧ f.kind ≠ 7#4 ∧ f.kind ≠ 8#4 := by
    simp [relinkedOther, and_assoc]
  have hroom : Config.rxSize ≤ s.apply.rx.length ↔ 4 ≤ s.apply.rx.length := Iff.rfl
  unfold VetoReason
  simp only [countingVeto, Bool.or_eq_true, bne_iff_ne, decide_eq_true_eq, beq_iff_eq, hrelinked, hroom, kindVeto]
  cases hk : FrameKind.ofCode f.kind.toNat with
  | none => simp
  | some k =>
    rw [← trainFrameFails_iff hk]
    simp only [Option.mem_def, Option.some.injEq, forall_eq', Bool.or_eq_true, Bool.not_eq_true']
    tauto

/-- The veto that does not count is that of a TRAIN-HEAD from elsewhere which does not name this station (R113). -/
theorem nonSourceHead_iff {f : BusFrame} {s : State} : nonSourceHead f s = true ↔ NonSourceHead f s := by
  unfold nonSourceHead NonSourceHead
  rw [Bool.and_eq_true, Bool.and_eq_true, Bool.and_eq_true, beq_iff_eq, sharing_iff, bne_iff_ne, and_assoc, and_assoc]
  refine and_congr Iff.rfl (and_congr Iff.rfl (and_congr Iff.rfl ?_))
  cases parseHead f.payload with
  | none => simp
  | some h => simp [maskLists]

theorem vetoes_iff {f : BusFrame} {s : State} : vetoes f s = true ↔ VetoReason f s ∨ NonSourceHead f s := by
  rw [vetoes, Bool.or_eq_true, countingVeto_iff, nonSourceHead_iff]

end Sys2Proof.Machine
end

/-! # Receiving a frame: the obligations (8.6 to 8.8) -/

section
namespace Sys2Proof.Machine

open Sys2Proof (Byte BusFrame FrameEnd TryEnd Instr)

/-! ## What FRAME_RECEIVE comes to -/

/-- A station that takes frames gives the frame its slots, an offer of its own being ended (R139, R148). -/
theorem exec_frameReceive {s : State} {sampled : List Bool} {f : BusFrame} (h : TakesFrames s)
    (hf : readFrame sampled = some f) (otherVeto : Bool) (e : FrameEnd) :
    exec (.frameReceive sampled otherVeto e) s = .next (slotsOf f otherVeto e { s with tx.offered := none }) := by
  obtain ⟨hp, hr, hs, hb, hrun⟩ := h
  have hreceiving : receiving s = true := by
    simp only [receiving, hr, hs, Option.isNone_none, Bool.true_and, Bool.or_eq_true, beq_iff_eq, or_assoc]
    exact hb
  have hsettle : settleRun { s with tx.offered := none } = { s with tx.offered := none } :=
    settleRun_of_run_ne (s := { s with tx.offered := none }) hrun
  refine congrArg Host.Outcome.next ((powered_high _ hp).trans ?_)
  unfold receiveFrame
  dsimp only
  rw [hf]
  dsimp only
  rw [if_pos hreceiving, hsettle]
  exact if_pos hreceiving

theorem endFrame_close_of_not_failed {s : State} (h : s.train.failed = false) : endFrame .close s = { s with
    watch.pause := false
    train.run := if s.train.run = .running then TrainRun.ended else s.train.run
    link.bus := .idle
    link.idleCycles := 0
    link.chain := false } := (busToIdle_of_not_failed h).trans (idleBus_eq s)

/-- A frame that nobody vetoes is taken. -/
theorem slotsOf_accepted {f : BusFrame} {s : State} {k : FrameKind} (hk : FrameKind.ofCode f.kind.toNat = some k)
    (hv : ¬ VetoReason f s) (hn : ¬ NonSourceHead f s) (e : FrameEnd) :
    slotsOf f false e s = takeFrame k f e { s with link.droveVeto := false, link.droveHeard := true } := by
  have hvetoes : vetoes f s = false := Bool.eq_false_iff.mpr fun h => (vetoes_iff.mp h).elim hv hn
  unfold slotsOf
  dsimp only
  rw [hvetoes, if_neg (by simp), hk]
  rfl

/-- What a taken frame changes before its end: the receive queue, the train record and the run. -/
theorem takeFrame_eq (k : FrameKind) (f : BusFrame) (e : FrameEnd) (s : State) :
    takeFrame k f e s = endFrame e { s with
      apply.rx := s.apply.rx ++ [⟨k, f.sender.toNat, f.payload, false, none, continues k s, entryLoads k f.payload false s⟩]
      tx.fairGap := false
      watch.pause := k == .trainHead || s.watch.pause
      train.run := runAfter k s
      link.train := trainAfter k f.sender.toNat f.payload false s
      link.chain := k == .trainHead || (k == .trainClaim && continues k s)
      link.vetoRun := 0 } := rfl

/-! ## Frames that are no train frames -/

/-- A frame that is no train frame continues nothing, loads nothing, and ends the pending train (R111). -/
theorem plainFrame_record {k : FrameKind} (hk : k.isTrain = false) (payload : List Byte) (sender : Nat) (own : Bool)
    (s : State) : continues k s = false ∧ entryLoads k payload own s = false ∧ (k == .trainHead) = false ∧
      (k == .trainClaim) = false ∧ runAfter k s = s.train.run ∧ trainAfter k sender payload own s = none := by
  have hne : ∀ l : FrameKind, l.isTrain = true → (k == l) = false := fun l hl => Bool.eq_false_iff.mpr fun h => by
    rw [beq_iff_eq.mp h, hl] at hk
    cases hk
  have hhead := hne .trainHead rfl
  have hclaim := hne .trainClaim rfl
  have htail := hne .trainTail rfl
  refine ⟨by simp [continues, hclaim, htail], by simp [entryLoads, hhead], hhead, hclaim, ?_, ?_⟩
  · rw [runAfter, if_neg (by simpa using hhead), if_neg (by simpa using fun _ => htail)]
  · unfold trainAfter
    split
    · cases hk
    · cases hk
    · rfl

/-- A frame that is no train frame gives no reason for a veto where its header, its check and the queue are in order. -/
theorem not_vetoReason_of_plain {f : BusFrame} {s : State} {k : FrameKind} (hk : FrameKind.ofCode f.kind.toNat = some k)
    (hplain : k.isTrain = false) (hlen : k.lengthOk f.length.toNat = true) (hcheck : f.check = BusFrame.computedCheck f)
    (hroom : s.apply.rx.length < 4) (hsender : f.sender.toNat ≠ s.station.number) (hbus : s.link.bus ≠ .inRelinked) :
    ¬ VetoReason f s ∧ ¬ NonSourceHead f s := by
  have hkind : ∀ l : FrameKind, l.isTrain = true → FrameKind.ofCode f.kind.toNat ≠ some l := by
    intro l hl h
    rw [hk] at h
    obtain rfl := Option.some.inj h
    rw [hl] at hplain
    cases hplain
  have h6 : f.kind ≠ 6#4 := fun h => hkind .trainHead rfl ((ofCode_eq_trainHead _).mpr h)
  have h7 : f.kind ≠ 7#4 := fun h => hkind .trainClaim rfl ((ofCode_eq_trainClaim _).mpr h)
  have h8 : f.kind ≠ 8#4 := fun h => hkind .trainTail rfl ((ofCode_eq_trainTail _).mpr h)
  refine ⟨?_, fun h => h6 h.1⟩
  rintro (h | h | h | h | ⟨h, _⟩ | ⟨h, _⟩ | ⟨h, _⟩ | ⟨h, _⟩)
  · exact h hcheck
  · rw [h k hk] at hlen
    cases hlen
  · omega
  · exact hsender h
  · exact hbus h
  · exact h6 h
  · exact h7 h
  · exact h8 h

/-- Settles O28: the frame is taken, and its end is one of the three. -/
theorem frameIsAccepted : Obligations.FrameIsAccepted := by
  intro s sampled f k htakes hf hk hplain hlen hcheck hroom hsender hbus u
  obtain ⟨hv, hn⟩ := not_vetoReason_of_plain (s := { s with tx.offered := none }) hk hplain hlen hcheck hroom hsender hbus
  have hrun : ∀ e, exec (.frameReceive sampled false e) s = .next (endFrame e u) := by
    intro e
    obtain ⟨hcont, hloads, hhead, hclaim, hafter, hrecord⟩ := plainFrame_record hplain f.payload f.sender.toNat false
      { s with tx.offered := none, link.droveVeto := false, link.droveHeard := true }
    rw [exec_frameReceive htakes hf, slotsOf_accepted hk hv hn, takeFrame_eq, hcont, hloads, hhead, hclaim, hafter,
      hrecord]
    rfl
  refine ⟨fun hfailed => ?_, hrun .noEnd, hrun .relink⟩
  rw [hrun, endFrame_close_of_not_failed (s := u) hfailed]

/-! ## Train frames -/

/-- Each holder of a TRAIN-CLAIM takes six bytes (R190). -/
theorem six_le_of_parseHolders {n : Nat} {bs left : List Byte} {hs : List (HoldSlot × Nat)}
    (h : parseHolders n bs = some (hs, left)) (hne : hs ≠ []) : 6 ≤ bs.length := by
  match n, bs, h with
  | 0, _, h => exact absurd (Prod.mk.inj (Option.some.inj h)).1.symm hne
  | _ + 1, _ :: _ :: _ :: _ :: _ :: _ :: _, _ => simp

/-- A TRAIN-CLAIM that names a holder is at least nine bytes long (Table 8-2). -/
theorem nine_le_of_parseClaim {bs : List Byte} {g : ClaimFields} (h : parseClaim bs = some g) (hg : g.holders ≠ []) :
    9 ≤ bs.length := by
  match bs, h with
  | c :: n :: counts :: rest, h =>
    rw [parseClaim] at h
    split at h
    next hs left hholders =>
      obtain ⟨ws, _, rfl⟩ := Option.map_eq_some_iff.mp h
      exact Nat.add_le_add_right (six_le_of_parseHolders hholders hg) 3
    next => cases h

theorem length_of_parseTail {bs : List Byte} {d : BitVec 16} (h : parseTail bs = some d) : bs.length = 2 := by
  match bs, h with
  | [_, _], _ => rfl

/-- The state in which a TRAIN-HEAD, TRAIN-CLAIM or TRAIN-TAIL is taken. -/
theorem exec_frameReceive_accepted {s : State} {sampled : List Bool} {f : BusFrame} {k : FrameKind} (h : TakesFrames s)
    (hf : readFrame sampled = some f) (hk : FrameKind.ofCode f.kind.toNat = some k) (hv : ¬ VetoReason f s)
    (hn : ¬ NonSourceHead f s) (e : FrameEnd) :
    exec (.frameReceive sampled false e) s = .next (takeFrame k f e { s with
      tx.offered := none
      link.droveVeto := false
      link.droveHeard := true }) := by
  rw [exec_frameReceive h hf, slotsOf_accepted (s := { s with tx.offered := none }) hk hv hn]

/-- A head within Table 6-2, met with nothing unapplied, gives no reason for a veto. -/
theorem not_vetoReason_of_head {s : State} {f : BusFrame} {h : HeadFields} (hcheck : f.check = BusFrame.computedCheck f)
    (hsender : f.sender.toNat ≠ s.station.number) (hk : f.kind = 6#4) (hp : parseHead f.payload = some h)
    (hlen : f.length = 10#7) (hrx : s.apply.rx = []) (hbus : s.link.bus ≠ .inRelinked) (hclaims : h.k ≤ 64)
    (hpool : h.occupancy ≤ 128) (hmember : h.members.getLsbD f.sender.toNat = true)
    (hmasks : h.members &&& h.joining = 0#32) : ¬ VetoReason f s := by
  have hcode := (ofCode_eq_trainHead f.kind).mpr hk
  rintro (hc | hc | hc | hc | ⟨hc, _⟩ | ⟨_, hc | ⟨hc, _⟩ | hc⟩ | ⟨hc, _⟩ | ⟨hc, _⟩)
  · exact hc hcheck
  · have := hc _ hcode
    rw [hlen] at this
    cases this
  · rw [hrx] at hc
    cases hc
  · exact hsender hc
  · exact hbus hc
  · exact hc hrx
  · exact hbus hc
  · rcases hc h hp with hc | hc | hc | hc
    · omega
    · omega
    · rw [hmember] at hc
      cases hc
    · exact (and_ne_zero_iff _ _).mpr hc hmasks
  · rw [hk] at hc
    cases hc
  · rw [hk] at hc
    cases hc

/-- A claim that continues the train, and fails no test, gives no reason for a veto. -/
theorem not_vetoReason_of_claim {s : State} {f : BusFrame} {r : LinkTrain} {g : ClaimFields}
    (hcheck : f.check = BusFrame.computedCheck f) (hsender : f.sender.toNat ≠ s.station.number) (hk : f.kind = 7#4)
    (hcont : ContinuesTrain s) (ht : s.link.train = some r) (hfrom : f.sender.toNat = r.sender)
    (hroom : s.apply.rx.length < 4) (hp : parseClaim f.payload = some g) (hleast : 9 ≤ f.length.toNat)
    (hmost : f.length.toNat ≤ 111) (hcount : r.count < r.k) (hclaim : g.claim < 64)
    (horder : ∀ l, r.lastClaim = some l → l < g.claim) (hheld : g.holders ≠ []) (hfour : g.holders.length ≤ 4)
    (hcontent : r.loads = true → ¬ ClaimContentFails s.station.number r g) : ¬ VetoReason f s := by
  have hcode := (ofCode_eq_trainClaim f.kind).mpr hk
  rintro (hc | hc | hc | hc | ⟨_, hc, _⟩ | ⟨hc, _⟩ | ⟨_, hc | ⟨r', g', hr, hl, hg, hc⟩⟩ | ⟨hc, _⟩)
  · exact hc hcheck
  · have hlen := hc _ hcode
    simp [FrameKind.lengthOk] at hlen
    omega
  · omega
  · exact hsender hc
  · exact hc hk
  · rw [hk] at hc
    cases hc
  · rcases hc with hc | hc
    · exact hc hcont
    rcases hc r g ht hp with hc | hc | hc | ⟨l, hl, hc⟩ | hc | hc
    · exact hc hfrom
    · omega
    · omega
    · exact absurd (horder l hl) (Nat.not_lt.mpr hc)
    · exact hheld hc
    · omega
  · rw [ht] at hr
    rw [hp] at hg
    obtain rfl := Option.some.inj hr
    obtain rfl := Option.some.inj hg
    exact hcontent hl hc
  · rw [hk] at hc
    cases hc

/-- A tail that continues a whole train, and fails no test, gives no reason for a veto. -/
theorem not_vetoReason_of_tail {s : State} {f : BusFrame} {r : LinkTrain} {d : BitVec 16}
    (hcheck : f.check = BusFrame.computedCheck f) (hsender : f.sender.toNat ≠ s.station.number) (hk : f.kind = 8#4)
    (hcont : ContinuesTrain s) (ht : s.link.train = some r) (hfrom : f.sender.toNat = r.sender)
    (hroom : s.apply.rx.length < 4) (hp : parseTail f.payload = some d) (hlen : f.length.toNat = 2)
    (hcount : r.k ≤ r.count) (hcontent : r.loads = true → ¬ TailContentFails r d) : ¬ VetoReason f s := by
  have hcode := (ofCode_eq_trainTail f.kind).mpr hk
  rintro (hc | hc | hc | hc | ⟨_, _, hc⟩ | ⟨hc, _⟩ | ⟨hc, _⟩ | ⟨_, hc | ⟨r', d', hr, hl, hd, hc⟩⟩)
  · exact hc hcheck
  · have hbad := hc _ hcode
    rw [hlen] at hbad
    cases hbad
  · omega
  · exact hsender hc
  · exact hc hk
  · rw [hk] at hc
    cases hc
  · rw [hk] at hc
    cases hc
  · rcases hc with hc | hc
    · exact hc hcont
    rcases hc r d ht hp with hc | hc
    · exact hc hfrom
    · omega
  · rw [ht] at hr
    rw [hp] at hd
    obtain rfl := Option.some.inj hr
    obtain rfl := Option.some.inj hd
    exact hcontent hl hc

/-- A claim's record goes on from the train's, with the claims between taken as FREE (R147). -/
theorem trainAfter_claim {s : State} {r : LinkTrain} {g : ClaimFields} {payload : List Byte} (sender : Nat) (own : Bool)
    (hcont : ContinuesTrain s) (ht : s.link.train = some r) (hp : parseClaim payload = some g) :
    trainAfter .trainClaim sender payload own s = some (r.advance g) := by
  rw [trainAfter, if_pos ((continues_iff (.inl rfl)).mpr hcont), ht, hp]

theorem advance_eq (r : LinkTrain) (g : ClaimFields) :
    r.advance g = { r with
      count := r.count + 1
      lastClaim := some g.claim
      runOccupancy := r.runOccupancy + g.waiters.length
      runDigest := crcFrom r.runDigest (List.replicate (3 * match r.lastClaim with
          | some l => g.claim - (l + 1)
          | none => g.claim) 0#8 ++ canonicalClaim ⟨g.serial, g.holders.map (·.1), g.waiters⟩) } := by
  unfold LinkTrain.advance LinkTrain.digestWith LinkTrain.nextClaim freeClaimBytes
  cases r.lastClaim <;> rfl

/-- Settles O29: each train frame gives no reason for a veto, and is taken with its part of the record. -/
theorem trainFramesAreAccepted : Obligations.TrainFramesAreAccepted := by
  intro s sampled f htakes hf hcheck hsender
  constructor
  · intro h hk hp hlen hrx hbus hclaims hpool hmember hmasks hnamed loads
    have hv := not_vetoReason_of_head hcheck hsender hk hp hlen hrx hbus hclaims hpool hmember hmasks
    have hn : ¬ NonSourceHead f s := by
      rintro ⟨_, hst, hsource, h', hp', hj⟩
      rw [hp] at hp'
      obtain rfl := Option.some.inj hp'
      rcases hnamed with hnamed | hnamed | hnamed
      · rw [hnamed] at hj
        cases hj
      · exact hsource hnamed
      · exact hst.elim hnamed.1 hnamed.2
    have hloads : loadsTrain h s = loads := Bool.and_comm _ _
    have hentry : entryLoads .trainHead f.payload false s = loads := by
      rw [entryLoads, hp, ← hloads]
      rfl
    have hrecord : trainAfter .trainHead f.sender.toNat f.payload false s =
        some (LinkTrain.start f.sender.toNat h loads) := by
      rw [trainAfter, hp, ← hloads]
      rfl
    refine (exec_frameReceive_accepted htakes hf ((ofCode_eq_trainHead _).mpr hk) hv hn _).trans
      (congrArg Host.Outcome.next ((takeFrame_eq ..).trans ?_))
    change endFrame .relink { s with
      apply.rx := s.apply.rx ++ [⟨.trainHead, f.sender.toNat, f.payload, false, none, continues .trainHead s,
        entryLoads .trainHead f.payload false s⟩]
      tx.offered := none
      tx.fairGap := false
      watch.pause := true
      train.run := .running
      link.train := trainAfter .trainHead f.sender.toNat f.payload false s
      link.chain := true
      link.vetoRun := 0
      link.droveVeto := false
      link.droveHeard := true } = _
    rw [hentry, hrecord, hrx, show continues .trainHead s = false from Bool.and_false _]
    rfl
  · intro r hbus hchain ht hfrom hroom u
    have hcont : ContinuesTrain s := ⟨hbus, hchain, by rw [ht]; simp⟩
    have hlength := (bits_of_readFrame hf).2
    constructor
    · intro g hk hp hmost hcount hclaim horder hheld hfour hcontent between
      have hn : ¬ NonSourceHead f s := fun h => by
        have hsix := h.1
        rw [hk] at hsix
        cases hsix
      have hv := not_vetoReason_of_claim hcheck hsender hk hcont ht hfrom hroom hp
        (hlength ▸ nine_le_of_parseClaim hp hheld) hmost hcount hclaim horder hheld hfour hcontent
      have hrun : runAfter .trainClaim s = s.train.run := by simp [runAfter]
      refine (exec_frameReceive_accepted htakes hf ((ofCode_eq_trainClaim _).mpr hk) hv hn _).trans
        (congrArg Host.Outcome.next ((takeFrame_eq ..).trans ?_))
      change { s with
        apply.rx := s.apply.rx ++
          [(⟨.trainClaim, f.sender.toNat, f.payload, false, none, continues .trainClaim s, false⟩ : RxEntry)]
        tx.offered := none
        tx.fairGap := false
        train.run := runAfter .trainClaim s
        link.bus := .inRelinked
        link.train := trainAfter .trainClaim f.sender.toNat f.payload false s
        link.chain := continues .trainClaim s
        link.vetoRun := 0
        link.droveVeto := false
        link.droveHeard := true } = _
      rw [hrun, trainAfter_claim _ _ hcont ht hp, advance_eq, (continues_iff (.inl rfl)).mpr hcont]
      dsimp only [u]
      rw [hbus, hchain] <;> rfl
    · intro d hk hp hcount hcontent hfailed
      have hn : ¬ NonSourceHead f s := fun h => by
        have hsix := h.1
        rw [hk] at hsix
        cases hsix
      have hv := not_vetoReason_of_tail hcheck hsender hk hcont ht hfrom hroom hp
        (hlength ▸ length_of_parseTail hp) hcount hcontent
      have htail : continues .trainTail s = true := (continues_iff (.inr rfl)).mpr hcont
      have hrun : runAfter .trainTail s = .none := by simp [runAfter, htail]
      refine (exec_frameReceive_accepted htakes hf ((ofCode_eq_trainTail _).mpr hk) hv hn _).trans
        (congrArg Host.Outcome.next ((takeFrame_eq ..).trans ?_))
      change endFrame .close { s with
        apply.rx := s.apply.rx ++ [⟨.trainTail, f.sender.toNat, f.payload, false, none, continues .trainTail s, false⟩]
        tx.offered := none
        tx.fairGap := false
        train.run := runAfter .trainTail s
        link.train := none
        link.chain := false
        link.vetoRun := 0
        link.droveVeto := false
        link.droveHeard := true } = _
      rw [htail, hrun]
      exact endFrame_close_of_not_failed hfailed

end Sys2Proof.Machine
end

/-! # The runs of vetoed, unheard and clashed frames: the obligations (8.10) -/

section
namespace Sys2Proof.Machine

open Sys2Proof (Byte BusFrame FrameEnd TryEnd Instr)

/-! ## What leaves the station and its runs as they were -/

/-- The station block and the three runs stand as they were. -/
structure SameRuns (s t : State) : Prop where
  station : t.station = s.station
  vetoRun : t.link.vetoRun = s.link.vetoRun
  unheardRun : t.link.unheardRun = s.link.unheardRun
  clashRun : t.link.clashRun = s.link.clashRun

/-- A TRAIN-HEAD stands ON_BUS whose next counted retry reaches the limit (R120, R132). -/
def Jammed (s : State) : Prop :=
  ∃ e, onBusEntry s = some e ∧ e.frame = .trainHead ∧ s.station.setup.retryLimit ≤ e.retries + 1

/-- As `SameRuns`, and no TRAIN-HEAD is newly at its limit. -/
structure TryEnds (s t : State) : Prop extends SameRuns s t where
  jammed : Jammed t → Jammed s

/-- The station and its runs stand as they were, or a TRAIN-HEAD at its limit has taken the station off the bus. -/
def Idles (s t : State) : Prop := SameRuns s t ∨ (Gone t ∧ Jammed s)

theorem SameRuns.of_blocks {s t : State} (hs : t.station = s.station) (hl : t.link = s.link) : SameRuns s t :=
  ⟨hs, by rw [hl], by rw [hl], by rw [hl]⟩

theorem SameRuns.refl (s : State) : SameRuns s s := .of_blocks rfl rfl

theorem SameRuns.trans {s t u : State} (h1 : SameRuns s t) (h2 : SameRuns t u) : SameRuns s u :=
  ⟨h2.station.trans h1.station, h2.vetoRun.trans h1.vetoRun, h2.unheardRun.trans h1.unheardRun,
    h2.clashRun.trans h1.clashRun⟩

theorem TryEnds.trans {s t u : State} (h1 : TryEnds s t) (h2 : TryEnds t u) : TryEnds s u :=
  ⟨h1.toSameRuns.trans h2.toSameRuns, h1.jammed ∘ h2.jammed⟩

/-- With nothing ON_BUS no TRAIN-HEAD is at its limit. -/
theorem SameRuns.tryEnds_of_none {s t : State} (h : SameRuns s t) (hn : onBusEntry t = none) : TryEnds s t :=
  ⟨h, fun ⟨e, he, _⟩ => by rw [hn] at he; cases he⟩

/-- With the queue untouched no TRAIN-HEAD is newly at its limit. -/
theorem SameRuns.tryEnds_of_entries {s t : State} (h : SameRuns s t) (ht : t.tx.entries = s.tx.entries) : TryEnds s t :=
  ⟨h, by unfold Jammed onBusEntry; rw [ht, h.station]; exact id⟩

theorem Idles.after {s t u : State} (h2 : Idles t u) (h1 : TryEnds s t) : Idles s u :=
  h2.imp h1.toSameRuns.trans (fun h => ⟨h.1, h1.jammed h.2⟩)

theorem Idles.sameRuns {s t : State} (h : Idles s t) (hj : ¬ Jammed s) : SameRuns s t :=
  h.resolve_right fun h => hj h.2

theorem Idles.ite {p : Prop} [Decidable p] {s t u : State} (ht : Idles s t) (hu : Idles s u) :
    Idles s (if p then t else u) := by
  split
  · exact ht
  · exact hu

theorem TryEnds.ite {p : Prop} [Decidable p] {s t u : State} (ht : TryEnds s t) (hu : TryEnds s u) :
    TryEnds s (if p then t else u) := by
  split
  · exact ht
  · exact hu

/-! ## The queue with nothing ON_BUS -/

theorem onBusEntry_eq_none_iff {s : State} : onBusEntry s = none ↔ ∀ x ∈ s.tx.entries, x.onBus = false := by
  simp [onBusEntry]

theorem onBusEntry_withoutOnBus (s u : State) : onBusEntry (setEntries (withoutOnBus s) u) = none :=
  onBusEntry_eq_none_iff.mpr fun x hx => by
    have hx' : x ∈ s.tx.entries.filter (fun e => !e.onBus) := hx
    simpa using (List.mem_filter.mp hx').2

theorem onBusEntry_readyAgain (counted : Bool) (s : State) : onBusEntry (readyAgain counted s) = none :=
  onBusEntry_eq_none_iff.mpr fun x hx => by
    obtain ⟨y, _, rfl⟩ := List.mem_map.mp hx
    split
    · rfl
    next h => exact Bool.eq_false_iff.mpr h

/-! ## The return of an entry -/

theorem trainReturn_false_ends (e : TxEntry) (s : State) : TryEnds s (trainReturn false e s) := by
  unfold trainReturn
  extract_lets train s1
  refine .ite ?_ ?_
  · exact SameRuns.tryEnds_of_none (.of_blocks rfl rfl) (onBusEntry_withoutOnBus _ _)
  · rw [if_neg (by simp)]
    exact SameRuns.tryEnds_of_none (.of_blocks rfl rfl) (onBusEntry_readyAgain _ _)

theorem returnHead_idles (s : State) : Idles s (returnHead s) := by
  unfold returnHead
  split
  next e he =>
    split
    next h =>
      unfold trainReturn
      extract_lets train s1
      refine .ite (.inl (.of_blocks rfl rfl)) ?_
      split
      next hlimit => exact .inr ⟨sideline_gone _ _, e, he, h.2, hlimit.2⟩
      next => exact .inl (.of_blocks rfl rfl)
    next => exact .inl (.refl s)
  next => exact .inl (.refl s)

theorem busToIdle_idles (s : State) : Idles s (busToIdle s) := by
  have h1 : TryEnds s (idleBus s) := SameRuns.tryEnds_of_entries ⟨rfl, rfl, rfl, rfl⟩ rfl
  exact (returnHead_idles (idleBus s)).after h1

theorem endFrame_idles (e : FrameEnd) (s : State) : Idles s (endFrame e s) := by
  cases e with
  | close => exact busToIdle_idles s
  | relink => exact .inl ⟨rfl, rfl, rfl, rfl⟩
  | noEnd => exact .inl ⟨rfl, rfl, rfl, rfl⟩

theorem afterEnd_idles (e : TryEnd) (s : State) : Idles s (afterEnd e s) := by
  cases e with
  | frameEnd ending => exact endFrame_idles ending s
  | stalled linesHigh => exact .ite (busToIdle_idles s) (.inl ⟨rfl, rfl, rfl, rfl⟩)
  | broken rise => exact .ite (busToIdle_idles s) (.inl ⟨rfl, rfl, rfl, rfl⟩)

theorem afterOwn_idles (e : TryEnd) (s : State) : Idles s (afterOwn e s) := .ite (busToIdle_idles s) (afterEnd_idles e s)

/-! ## A try without acceptance -/

/-- `SameRuns`, and nothing is ON_BUS after. -/
def OffAll (s t : State) : Prop := SameRuns s t ∧ onBusEntry t = none

theorem OffAll.ends {s t : State} (h : OffAll s t) : TryEnds s t := h.1.tryEnds_of_none h.2

theorem OffAll.ite {p : Prop} [Decidable p] {s t u : State} (ht : OffAll s t) (hu : OffAll s u) :
    OffAll s (if p then t else u) := by
  split
  · exact ht
  · exact hu

theorem offAll_of_blocks {s t : State} (hn : onBusEntry s = none) (hs : t.station = s.station) (hl : t.link = s.link)
    (ht : t.tx = s.tx) : OffAll s t := ⟨.of_blocks hs hl, by rw [onBusEntry, ht]; exact hn⟩

/-- The end of a tag puts nothing ON_BUS (R134). -/
theorem endTag_offAll (n : Nat) (m : Notice) {s : State} (hn : onBusEntry s = none) : OffAll s (endTag n m s) := by
  refine ⟨.of_blocks (by simp) (by simp), onBusEntry_eq_none_iff.mpr fun x hx => ?_⟩
  have htx : (endTag n m s).tx = (withdrawBound n s).tx := by simp [endTag]
  rw [htx] at hx
  obtain ⟨y, hy, rfl⟩ := List.mem_map.mp hx
  have hoff := onBusEntry_eq_none_iff.mp hn y (List.mem_filter.mp hy).1
  split <;> exact hoff

theorem queueInternal_offAll (f : TxFrame) {s : State} (hn : onBusEntry s = none) : OffAll s (queueInternal s f) := by
  rcases queueInternal_cases s f with ⟨_, _, hq⟩ | ⟨_, hq⟩ <;> rw [hq]
  · refine ⟨.of_blocks rfl rfl, onBusEntry_eq_none_iff.mpr fun x hx => ?_⟩
    rcases List.mem_append.mp hx with hx | hx
    · exact onBusEntry_eq_none_iff.mp hn x hx
    · rw [List.mem_singleton.mp hx]
      rfl
  · exact ⟨.refl s, hn⟩

/-- What the retry limit does to a tag, or to an internal frame, puts nothing ON_BUS (R131, R132). -/
theorem limitEffect_offAll (f : TxFrame) (binding : Option Nat) {s : State} (hn : onBusEntry s = none) :
    OffAll s (limitEffect f binding s) := by
  have hrefl : OffAll s s := ⟨.refl s, hn⟩
  have hset : ∀ n v, OffAll s (setTag n v s) := fun n v => offAll_of_blocks hn rfl rfl rfl
  unfold limitEffect
  split
  · split
    · exact .ite (endTag_offAll _ _ hn) hrefl
    · exact .ite (hset _ _) hrefl
    · exact .ite (hset _ _) (.ite (offAll_of_blocks hn (by simp) (by simp) (by simp)) hrefl)
    · exact .ite (hset _ _) hrefl
    · exact hrefl
  · split
    · exact .ite (queueInternal_offAll _ hn) hrefl
    · exact .ite (queueInternal_offAll _ hn) hrefl
    · exact hrefl

theorem OffAll.after {s t u : State} (h2 : OffAll t u) (h1 : SameRuns s t) : OffAll s u := ⟨h1.trans h2.1, h2.2⟩

theorem returnEntry_ends (counted : Bool) (e : TxEntry) (s : State) : TryEnds s (returnEntry counted e s) := by
  have hready : OffAll s (readyAgain counted s) := ⟨.of_blocks rfl rfl, onBusEntry_readyAgain counted s⟩
  have hout : OffAll s (setEntries (withoutOnBus s) s) := ⟨.of_blocks rfl rfl, onBusEntry_withoutOnBus s s⟩
  unfold returnEntry
  refine .ite (.ite ?_ (trainReturn_false_ends e s)) (.ite hout.ends ?_)
  · exact SameRuns.tryEnds_of_entries (.of_blocks rfl rfl) rfl
  split
  next => exact ((endTag_offAll _ _ hready.2).after hready.1).ends
  next =>
    refine .ite (OffAll.ends ?_) hready.ends
    have hpost : OffAll s (postUnreserved (.sendFailed e.frame.kind e.frame.detail) (setEntries (withoutOnBus s) s)) :=
      (offAll_of_blocks hout.2 (by simp) (by simp) (by simp)).after hout.1
    exact (limitEffect_offAll _ _ hpost.2).after hpost.1

theorem returnTry_ends (counted : Bool) (s : State) : TryEnds s (returnTry counted s) := by
  have h1 : TryEnds s { s with link.sending := none } := SameRuns.tryEnds_of_entries ⟨rfl, rfl, rfl, rfl⟩ rfl
  unfold returnTry
  split
  · exact h1.trans (returnEntry_ends counted _ _)
  · exact h1

/-! ## A try accepted by its sender -/

/-- The acceptance of an own frame marks ROLLs only, which are no TRAIN-HEADs (R128). -/
theorem acceptOwn_ends (o : OwnFrame) (binding : Option Nat) (s : State) : TryEnds s (acceptOwn o binding s) := by
  refine ⟨⟨rfl, rfl, rfl, rfl⟩, ?_⟩
  rintro ⟨e, he, hf, hlimit⟩
  have hmap : onBusEntry (acceptOwn o binding s) = (onBusEntry s).map
      (fun x => if x.frame.kind = .roll then { x with superseded := true } else x) := by
    show (s.tx.entries.map _).find? _ = _
    rw [List.find?_map]
    congr 2
    funext x
    dsimp only [Function.comp]
    split <;> rfl
  rw [hmap] at he
  obtain ⟨x, hx, rfl⟩ := Option.map_eq_some_iff.mp he
  refine ⟨x, hx, ?_, ?_⟩
  · split at hf <;> exact hf
  · split at hlimit <;> exact hlimit

theorem acceptSingle_idles (o : OwnFrame) (e : TxEntry) (ending : TryEnd) (s : State) :
    Idles s (acceptSingle o e ending s) := by
  unfold acceptSingle
  extract_lets src link s1 s2
  have h1 : TryEnds s s1 := SameRuns.tryEnds_of_none ⟨rfl, rfl, rfl, rfl⟩ (onBusEntry_withoutOnBus s _)
  have h2 : TryEnds s s2 := h1.trans (acceptOwn_ends o e.binding s1)
  refine .ite ((afterOwn_idles ending s1).after h1) ((afterOwn_idles ending _).after ?_)
  exact h2.trans (SameRuns.tryEnds_of_entries (.of_blocks rfl rfl) rfl)

theorem acceptTrain_idles (o : OwnFrame) (ending : TryEnd) (s : State) : Idles s (acceptTrain o ending s) := by
  unfold acceptTrain
  extract_lets link s1
  have h0 : TryEnds s { s with link.sending := none } := SameRuns.tryEnds_of_entries ⟨rfl, rfl, rfl, rfl⟩ rfl
  have h1 : TryEnds s s1 := h0.trans (acceptOwn_ends o none _)
  refine .ite ((afterOwn_idles ending _).after (h1.trans (SameRuns.tryEnds_of_entries (.of_blocks rfl rfl) rfl))) ?_
  split
  · exact .inl (h1.toSameRuns.trans ⟨rfl, rfl, rfl, rfl⟩)
  · exact (afterOwn_idles ending _).after (h1.trans (SameRuns.tryEnds_of_entries (.of_blocks rfl rfl) rfl))

theorem acceptTry_idles (o : OwnFrame) (ending : TryEnd) (s : State) : Idles s (acceptTry o ending s) := by
  unfold acceptTry
  split
  · exact .ite (acceptTrain_idles o ending s) (acceptSingle_idles o _ ending s)
  · exact (afterOwn_idles ending _).after (SameRuns.tryEnds_of_entries ⟨rfl, rfl, rfl, rfl⟩ rfl)

/-! ## The runs after a try -/

/-- The veto run stands as it was, or the station is off the bus. -/
def VetoRunStays (s t : State) : Prop := t.link.vetoRun = s.link.vetoRun ∨ Gone t

theorem Idles.vetoRunStays {s t : State} (h : Idles s t) : VetoRunStays s t := h.imp SameRuns.vetoRun And.left

theorem reportUnheard_vetoRun {s u : State} (h : VetoRunStays s u) : VetoRunStays s (reportUnheard u) := by
  unfold reportUnheard
  split
  · exact .inr (sideline_gone _ u)
  · exact h

theorem reportClash_vetoRun {s u : State} (h : VetoRunStays s u) : VetoRunStays s (reportClash u) := by
  unfold reportClash
  split
  · exact .inr (halt_gone _ u)
  · exact h

theorem VetoRunStays.of_receives {s t : State} (h : VetoRunStays s t) (hr : t.station.state.receives = true) :
    t.link.vetoRun = s.link.vetoRun :=
  h.resolve_right fun hg => by rw [hg.1] at hr; cases hr

/-- A try whose slots were sampled, before its run is reported. -/
theorem trySlots_idles (o : OwnFrame) (vetoLow heardLow : Bool) (ending : TryEnd) (s : State) :
    ∃ u, trySlots o vetoLow heardLow ending s = reportUnheard u ∧ Idles (countSlots vetoLow heardLow s) u :=
  ⟨_, rfl, .ite (acceptTry_idles o ending _) ((afterOwn_idles ending _).after (returnTry_ends true _))⟩

/-- A clashed try, before its run is reported. -/
theorem tryClashed_idles (e : FrameEnd) (s : State) :
    ∃ u, tryClashed e s = reportClash u ∧ Idles { s with
      link.clashRun := s.link.clashRun + 1
      link.chain := false
      link.droveVeto := true
      link.droveHeard := false } u :=
  ⟨_, rfl, (endFrame_idles e _).after (returnTry_ends true _)⟩

theorem tryCut_unaccepted_idles (ending : TryEnd) (s : State) : Idles s (afterEnd ending (returnTry true s)) :=
  (afterEnd_idles ending _).after (returnTry_ends true s)

theorem tryLost_idles (o : OwnFrame) (ending : TryEnd) (s : State) : Idles s (tryLost o ending s) := by
  have h1 : TryEnds s { s with link.chain := false } := SameRuns.tryEnds_of_entries ⟨rfl, rfl, rfl, rfl⟩ rfl
  have h2 := h1.trans (returnTry_ends (o.kind == .trainClaim || o.kind == .trainTail) _)
  cases ending with
  | frameEnd _ => exact .inl h2.toSameRuns
  | stalled linesHigh => exact (afterEnd_idles (.stalled linesHigh) _).after h2
  | broken rise => exact (afterEnd_idles (.broken rise) _).after h2

/-- An own try leaves the veto run as it was (R152). -/
theorem tryOutcome_vetoRun (sampled : List Bool) (ending : TryEnd) (s : State) :
    VetoRunStays s (tryOutcome sampled ending s) := by
  have hcut : ∀ o vetoLow, VetoRunStays s (tryCut o vetoLow ending s) := fun o vetoLow => by
    unfold tryCut
    split
    · exact (acceptTry_idles o ending (countTail s)).vetoRunStays
    · exact (tryCut_unaccepted_idles ending s).vetoRunStays
  have hslots : ∀ o vetoLow heardLow, VetoRunStays s (trySlots o vetoLow heardLow ending s) := fun o vetoLow heardLow => by
    obtain ⟨u, hu, h⟩ := trySlots_idles o vetoLow heardLow ending s
    rw [hu]
    exact reportUnheard_vetoRun h.vetoRunStays
  unfold tryOutcome
  split
  next o _ =>
    unfold endTry
    split
    · exact (tryLost_idles o _ s).vetoRunStays
    next e _ =>
      obtain ⟨u, hu, h⟩ := tryClashed_idles e s
      rw [hu]
      exact reportClash_vetoRun h.vetoRunStays
    · exact hcut _ _
    · exact hcut _ _
    · exact .inl rfl
    · exact hcut _ _
    · exact hcut _ _
    · exact hslots _ _ _
  next => exact .inl rfl

/-! ## Vetoes -/

theorem sideline_station (cause : StateCause) (s : State) :
    (sideline cause s).station =
      { s.station with state := .sidelined, lastCause := cause, attempts := 0, disagree := 0 } := by
  simp [sideline, moveTo, postState, setState, leaveBus]

theorem sideline_rest (cause : StateCause) (s : State) : (sideline cause s).watch.rest = some 0 := by
  simp [sideline]

theorem halt_station (cause : StateCause) (s : State) :
    (halt cause s).station = { s.station with state := .halted, lastCause := cause, disagree := 0 } := by
  simp [halt, moveTo, postState, setState, leaveBus]

theorem halt_rest (cause : StateCause) (s : State) : (halt cause s).watch.rest = none := by
  simp [halt, leaveBus]

/-- A frame that this station or another receiver vetoes is refused. -/
theorem slotsOf_refused {f : BusFrame} {s : State} {otherVeto : Bool} (e : FrameEnd)
    (h : vetoes f s = true ∨ otherVeto = true) :
    slotsOf f otherVeto e s = refuseFrame (countingVeto f s) e { s with
      link.droveVeto := vetoes f s
      link.droveHeard := !vetoes f s } := if_pos h

/-- A frame refused without a count leaves the runs as they were. -/
theorem slotsOf_uncounted {f : BusFrame} {s : State} {otherVeto v : Bool} (e : FrameEnd)
    (h : vetoes f s = true ∨ otherVeto = true) (hc : countingVeto f s = false) (hv : vetoes f s = v) :
    slotsOf f otherVeto e s = endFrame e { s with
      link.chain := false
      link.droveVeto := v
      link.droveHeard := !v } := by
  rw [slotsOf_refused e h, hc, hv]
  rfl

/-- A counting veto raises the veto run below its limit (R152). -/
theorem slotsOf_counted {f : BusFrame} {s : State} (otherVeto : Bool) (e : FrameEnd) (hc : countingVeto f s = true)
    (hrun : s.link.vetoRun < 7) : slotsOf f otherVeto e s = endFrame e { s with
      link.chain := false
      link.vetoRun := s.link.vetoRun + 1
      link.droveVeto := true
      link.droveHeard := false } := by
  have hv : vetoes f s = true := by rw [vetoes, hc, Bool.true_or]
  rw [slotsOf_refused e (.inl hv), hc, hv]
  exact if_neg fun hlimit => absurd hlimit.2 (Nat.not_le.mpr (Nat.succ_lt_succ hrun))

/-- The eighth counting veto in a row sidelines the station (R152). -/
theorem slotsOf_eighth {f : BusFrame} {s : State} (otherVeto : Bool) (e : FrameEnd) (hc : countingVeto f s = true)
    (hrun : s.link.vetoRun = 7) : slotsOf f otherVeto e s = sideline .vetoRun { s with
      link.chain := false
      link.vetoRun := s.link.vetoRun + 1
      link.droveVeto := true
      link.droveHeard := false } := by
  have hv : vetoes f s = true := by rw [vetoes, hc, Bool.true_or]
  rw [slotsOf_refused e (.inl hv), hc, hv]
  exact if_pos ⟨rfl, Nat.succ_le_succ hrun.ge⟩

/-- An accepted frame clears the veto run (R152). -/
theorem slotsOf_accepted_vetoRun {f : BusFrame} {s : State} (e : FrameEnd) (hv : ¬ VetoReason f s)
    (hn : ¬ NonSourceHead f s) : (slotsOf f false e s).link.vetoRun = 0 := by
  cases hk : FrameKind.ofCode f.kind.toNat with
  | none => exact absurd (.inr (.inl fun k hk' => by rw [hk] at hk'; cases hk')) hv
  | some k =>
    rw [slotsOf_accepted hk hv hn, takeFrame_eq]
    rcases endFrame_idles e _ with h | h
    · exact h.vetoRun
    · rw [h.1.2.2.2.2.2.1]

/-- Settles O30: a frame is refused, counted or not, or taken; and what an own try does to the station leaves the veto
run. -/
theorem vetoRunCountsVetoes : Obligations.VetoRunCountsVetoes := by
  refine ⟨fun s sampled f otherVeto e htakes hf => ?_, fun s hp => ⟨fun sampled ending => ?_, fun sampled linesHigh hs => ?_⟩⟩
  · have hexec := exec_frameReceive htakes hf otherVeto e
    have hcount : VetoReason f s → countingVeto f { s with tx.offered := none } = true := countingVeto_iff.mpr
    have hnone : ¬ VetoReason f s → countingVeto f { s with tx.offered := none } = false := fun h =>
      Bool.eq_false_iff.mpr fun hc => h (countingVeto_iff.mp hc)
    have hveto : VetoReason f s ∨ NonSourceHead f s → vetoes f { s with tx.offered := none } = true := vetoes_iff.mpr
    have hquiet : ¬ VetoReason f s → ¬ NonSourceHead f s → vetoes f { s with tx.offered := none } = false := fun h hn =>
      Bool.eq_false_iff.mpr fun hv => (vetoes_iff.mp hv).elim h hn
    refine ⟨countingVeto_iff, nonSourceHead_iff, fun hv hrun => ?_, fun hv hrun => ?_, fun hv hn ho => ?_, fun hv hn => ?_,
      fun hv hn ho => ?_⟩
    · rw [hexec, slotsOf_counted _ _ (hcount hv) hrun]
    · refine ⟨_, hexec, ?_⟩
      rw [slotsOf_eighth _ _ (hcount hv) hrun]
      exact ⟨by rw [sideline_station], by rw [sideline_station], (sideline_gone _ _).2, sideline_rest _ _⟩
    · rw [hexec, slotsOf_uncounted e (.inr ho) (hnone hv) (hquiet hv hn)]
      rfl
    · rw [hexec, slotsOf_uncounted e (.inl (hveto (.inr hn))) (hnone hv) (hveto (.inr hn))]
      rfl
    · refine ⟨_, hexec, ?_⟩
      rw [ho]
      exact slotsOf_accepted_vetoRun (s := { s with tx.offered := none }) e hv hn
  · refine ⟨_, congrArg Host.Outcome.next (powered_high _ hp), (tryOutcome_vetoRun sampled ending s).of_receives⟩
  · refine ⟨_, congrArg Host.Outcome.next (powered_high _ hp), VetoRunStays.of_receives ?_⟩
    unfold stall cutFrame
    split
    · dsimp only
      rw [if_neg (by simp [hs])]
      exact (afterEnd_idles (.stalled linesHigh) { s with tx.offered := none }).vetoRunStays
    · exact .inl rfl

end Sys2Proof.Machine
end
/-! # The unheard run and the clash run: the obligations (R153, R154) -/

section
namespace Sys2Proof.Machine

open Sys2Proof (Byte BusFrame FrameEnd TryEnd Instr)

/-! ## What the end of a try comes to -/

theorem exec_tryOutcome {s : State} {o : OwnFrame} (hp : Powered s) (hs : s.link.sending = some o) (sampled : List Bool)
    (ending : TryEnd) : exec (.tryOutcome ⟨sampled, ending⟩) s = .next (endTry o sampled ending s) := by
  refine congrArg Host.Outcome.next ((powered_high _ hp).trans ?_)
  unfold tryOutcome
  rw [hs]

theorem readTry_lost {own sampled : List Bool} {i : Nat} (h : BeatenAt own sampled i) (hi : i < 9) :
    readTry own sampled = .lost := by
  simp only [readTry, (firstBeaten_iff own sampled i).mpr h]
  exact if_pos hi

theorem readTry_clashed {own sampled : List Bool} {i : Nat} (h : BeatenAt own sampled i) (hi : 9 ≤ i) :
    readTry own sampled = .clashed := by
  simp only [readTry, (firstBeaten_iff own sampled i).mpr h]
  exact if_neg (Nat.not_lt.mpr hi)

/-- A sender that sampled its own bits and its veto slot only has been cut short there (R145, R150). -/
theorem readTry_vetoSlot (own : List Bool) (veto : Bool) : readTry own (own ++ [veto]) = .cut (some (!veto)) := by
  simp [readTry, firstBeaten_self]

theorem endTry_lost {s : State} {o : OwnFrame} {sampled : List Bool} {i : Nat} (h : BeatenAt (sentBits s) sampled i)
    (hi : i < 9) (ending : TryEnd) : endTry o sampled ending s = tryLost o ending s := by
  unfold endTry
  rw [readTry_lost h hi]

theorem endTry_clashed {s : State} {o : OwnFrame} {sampled : List Bool} {i : Nat} (h : BeatenAt (sentBits s) sampled i)
    (hi : 9 ≤ i) (e : FrameEnd) : endTry o sampled (.frameEnd e) s = tryClashed e s := by
  unfold endTry
  rw [readTry_clashed h hi]

theorem endTry_slots {s : State} {o : OwnFrame} (veto heard : Bool) (ending : TryEnd) :
    endTry o (sentBits s ++ [veto, heard]) ending s = trySlots o (!veto) (!heard) ending s := by
  unfold endTry
  rw [readTry_slots]

/-- A try that was cut short ends unaccepted, but for a TRAIN-TAIL on its veto slot (R145, R149, R150). -/
theorem endTry_cutShort {s : State} {o : OwnFrame} {sampled : List Bool} {ending : TryEnd}
    (h : CutShort (sentBits s) sampled)
    (htail : o.kind = .trainTail → sampled.drop (sentBits s).length ≠ [true]) (hend : ∀ e, ending ≠ .frameEnd e) :
    endTry o sampled ending s = afterEnd ending (returnTry true s) := by
  have hcut : ∀ vetoLow, (o.kind = .trainTail → vetoLow ≠ some false) →
      tryCut o vetoLow ending s = afterEnd ending (returnTry true s) := fun vetoLow hv =>
    if_neg fun hc => hv hc.1 hc.2
  have hveto : o.kind = .trainTail → readTry (sentBits s) sampled ≠ .cut (some false) := by
    intro hk hread
    unfold readTry at hread
    split at hread
    · split at hread <;> cases hread
    · split at hread
      · cases hread
      next veto hdrop =>
        have hhigh : veto = true := by simpa using hread
        exact htail hk (by rw [hdrop, hhigh])
      · cases hread
  unfold endTry
  rcases readTry_of_cutShort h with hread | hread <;> rw [hread]
  · cases ending with
    | frameEnd e => exact absurd rfl (hend e)
    | stalled linesHigh => exact hcut none (fun _ h => by cases h)
    | broken rise => exact hcut none (fun _ h => by cases h)
  · have hne : o.kind = .trainTail → (sampled.drop (sentBits s).length).head?.map (!·) ≠ some false := fun hk hv =>
      hveto hk (by rw [hread, hv])
    cases ending with
    | frameEnd e => exact absurd rfl (hend e)
    | stalled linesHigh => exact hcut _ hne
    | broken rise => exact hcut _ hne

/-- A TRAIN-TAIL cut short after a veto slot sampled high is accepted by its source (R149). -/
theorem endTry_tail {s : State} {o : OwnFrame} {ending : TryEnd} (hk : o.kind = .trainTail)
    (hend : ∀ e, ending ≠ .frameEnd e) :
    endTry o (sentBits s ++ [true]) ending s = acceptTry o ending (countTail s) := by
  unfold endTry
  rw [readTry_vetoSlot]
  cases ending with
  | frameEnd e => exact absurd rfl (hend e)
  | stalled linesHigh => exact if_pos ⟨hk, rfl⟩
  | broken rise => exact if_pos ⟨hk, rfl⟩

/-! ## The runs -/

theorem reportUnheard_of_below {s : State} (h : s.link.unheardRun < 4) : reportUnheard s = s :=
  if_neg fun hc => absurd hc.2 (Nat.not_le.mpr h)

theorem reportUnheard_of_limit {s : State} (hs : s.station.state.sends = true) (h : 4 ≤ s.link.unheardRun) :
    reportUnheard s = sideline .unheardRun s := if_pos ⟨hs, h⟩

theorem reportClash_of_below {s : State} (h : s.link.clashRun < 4) : reportClash s = s :=
  if_neg fun hc => absurd hc.2 (Nat.not_le.mpr h)

theorem reportClash_of_limit {s : State} (hs : s.station.state.sends = true) (h : 4 ≤ s.link.clashRun) :
    reportClash s = halt .clashRun s := if_pos ⟨hs, h⟩

/-- Off the bus the runs are at 0 (R156). -/
theorem Gone.runs {t : State} (h : Gone t) : t.link.unheardRun = 0 ∧ t.link.clashRun = 0 := by
  have hlink := h.2.2.2.2.2.1
  exact ⟨by rw [hlink], by rw [hlink]⟩

theorem not_jammed {s : State} {e : TxEntry} (he : onBusEntry s = some e)
    (h : e.frame ≠ .trainHead ∨ e.retries + 1 < s.station.setup.retryLimit) : ¬ Jammed s := by
  rintro ⟨e', he', hf, hlimit⟩
  rw [he] at he'
  obtain rfl := Option.some.inj he'
  exact h.elim (fun h => h hf) (fun h => Nat.not_lt.mpr hlimit h)

/-- Settles O34: each outcome is read off the lines, acts on the entry with the runs as they were, and then the run is
reported. -/
theorem clashRunHalts : Obligations.ClashRunHalts := by
  intro s o e hp hs he hlimit own
  have hj : ¬ Jammed s := not_jammed he hlimit
  have hexec := exec_tryOutcome hp hs
  refine ⟨fun sampled i ending hb hi hrun => ?_, fun vetoHigh heardHigh ending => ?_, fun sampled i ending hb hi => ?_,
    fun sampled linesHigh hcut htail => ?_, fun linesHigh hk => ?_, fun sampled i ending hb hi hrun hsends => ?_⟩
  · obtain ⟨u, hu, h⟩ := tryClashed_idles ending s
    have hsame := h.sameRuns hj
    refine ⟨_, hexec _ _, ?_⟩
    rw [endTry_clashed hb hi, hu, reportClash_of_below (hsame.clashRun.trans_lt (Nat.succ_lt_succ hrun))]
    exact hsame.clashRun
  · obtain ⟨u, hu, h⟩ := trySlots_idles o (!vetoHigh) (!heardHigh) ending s
    have hzero : u.link.clashRun = 0 := (h.sameRuns hj).clashRun
    refine ⟨_, hexec _ _, ?_⟩
    rw [endTry_slots, hu]
    unfold reportUnheard
    split
    · exact (sideline_gone _ u).runs.2
    · exact hzero
  · refine ⟨_, hexec _ _, ?_⟩
    rw [endTry_lost hb hi]
    exact ((tryLost_idles o ending s).sameRuns hj).clashRun
  · refine ⟨_, hexec _ _, ?_⟩
    rw [endTry_cutShort hcut htail (by simp)]
    exact ((tryCut_unaccepted_idles _ s).sameRuns hj).clashRun
  · refine ⟨_, hexec _ _, ?_⟩
    rw [endTry_tail hk (by simp)]
    exact ((acceptTry_idles o _ (countTail s)).sameRuns hj).clashRun
  · obtain ⟨u, hu, h⟩ := tryClashed_idles ending s
    have hsame := h.sameRuns hj
    have hstation : u.station = s.station := hsame.station
    have hfour : 4 ≤ u.link.clashRun := by
      rw [hsame.clashRun]
      exact Nat.succ_le_succ hrun.ge
    refine ⟨_, hexec _ _, ?_⟩
    rw [endTry_clashed hb hi, hu, reportClash_of_limit (by rw [hstation]; exact hsends) hfour]
    exact ⟨(halt_gone _ u).2, halt_rest _ u, by rw [halt_station, hstation]⟩

/-- The unheard run as the slots leave it (R153). -/
theorem countSlots_unheardRun (vetoLow heardLow : Bool) (s : State) :
    (countSlots vetoLow heardLow s).link.unheardRun =
      if vetoLow || heardLow then 0 else if listsAnother s then s.link.unheardRun + 1 else 0 := rfl

/-- Settles O35: as O34, for the run of unheard tries. -/
theorem unheardRunSidelines : Obligations.UnheardRunSidelines := by
  intro s o e hp hs he hlimit own
  have hj : ¬ Jammed s := not_jammed he hlimit
  have hexec := exec_tryOutcome hp hs
  refine ⟨fun hlists hrun => ?_, fun vetoLow heardLow hzero => ?_, fun sampled i ending hb hi => ?_,
    fun sampled linesHigh hcut htail => ?_, fun linesHigh hk => ?_, fun sampled i ending hb hi hrun => ?_,
    fun hlists hrun hsends => ?_⟩
  · obtain ⟨u, hu, h⟩ := trySlots_idles o false false (.frameEnd .close) s
    have hone : u.link.unheardRun = s.link.unheardRun + 1 := by
      rw [(h.sameRuns hj).unheardRun, countSlots_unheardRun, hlists]
      rfl
    refine ⟨_, hexec _ _, ?_⟩
    rw [endTry_slots]
    refine (congrArg (·.link.unheardRun) (hu.trans (reportUnheard_of_below ?_))).trans hone
    omega
  · obtain ⟨u, hu, h⟩ := trySlots_idles o (!!vetoLow) (!!heardLow) (.frameEnd .close) s
    have hnone : u.link.unheardRun = 0 := by
      rw [(h.sameRuns hj).unheardRun, countSlots_unheardRun]
      rcases hzero with rfl | rfl | hlists
      · rfl
      · simp
      · simp [hlists]
    refine ⟨_, hexec _ _, ?_⟩
    rw [endTry_slots, hu, reportUnheard_of_below (by omega)]
    exact hnone
  · refine ⟨_, hexec _ _, ?_⟩
    rw [endTry_lost hb hi]
    exact ((tryLost_idles o ending s).sameRuns hj).unheardRun
  · refine ⟨_, hexec _ _, ?_⟩
    rw [endTry_cutShort hcut htail (by simp)]
    exact ((tryCut_unaccepted_idles _ s).sameRuns hj).unheardRun
  · refine ⟨_, hexec _ _, ?_⟩
    rw [endTry_tail hk (by simp)]
    exact ((acceptTry_idles o _ (countTail s)).sameRuns hj).unheardRun
  · obtain ⟨u, hu, h⟩ := tryClashed_idles ending s
    have hsame := h.sameRuns hj
    refine ⟨_, hexec _ _, ?_⟩
    rw [endTry_clashed hb hi, hu, reportClash_of_below (hsame.clashRun.trans_lt (Nat.succ_lt_succ hrun))]
    exact hsame.unheardRun
  · obtain ⟨u, hu, h⟩ := trySlots_idles o false false (.frameEnd .close) s
    have hsame := h.sameRuns hj
    have hstation : u.station = s.station := hsame.station
    have hfour : 4 ≤ u.link.unheardRun := by
      rw [hsame.unheardRun, countSlots_unheardRun, hlists, hrun]
      exact Nat.le_refl 4
    refine ⟨_, hexec _ _, ?_⟩
    have hside : endTry o (own ++ [true, true]) (.frameEnd .close) s = sideline .unheardRun u :=
      (endTry_slots ..).trans (hu.trans (reportUnheard_of_limit (by rw [hstation]; exact hsends) hfour))
    rw [hside]
    exact ⟨(sideline_gone _ u).2, sideline_rest _ u, by rw [sideline_station, hstation]⟩

end Sys2Proof.Machine
end

/-! # Line events: the obligations (8.1, 8.6, 8.9) -/

section
namespace Sys2Proof.Machine

open Sys2Proof (Byte BusFrame FrameEnd TryEnd Instr)

/-! ## Posted notices stay -/

/-- A notice that is neither an OVERFLOW nor a WARN: once posted it is only read. -/
def Lasting (m : Notice) : Prop := m.isOverflow = false ∧ ∀ n, m.isWarnOf n = false

/-- Every lasting notice in the queue is still there. -/
def NoticesStay (s t : State) : Prop := ∀ m, Lasting m → m ∈ s.notices.entries → m ∈ t.notices.entries

theorem NoticesStay.refl (s : State) : NoticesStay s s := fun _ _ => id

theorem NoticesStay.of_notices {s t : State} (h : t.notices = s.notices) : NoticesStay s t := fun _ _ hm => by
  rw [h]
  exact hm

theorem NoticesStay.trans {s t u : State} (h1 : NoticesStay s t) (h2 : NoticesStay t u) : NoticesStay s u :=
  fun m hm h => h2 m hm (h1 m hm h)

theorem NoticesStay.ite {p : Prop} [Decidable p] {s t u : State} (ht : NoticesStay s t) (hu : NoticesStay s u) :
    NoticesStay s (if p then t else u) := by
  split
  · exact ht
  · exact hu

theorem foldl_noticesStay {α : Type} {f : State → α → State} (hf : ∀ s a, NoticesStay s (f s a)) (l : List α) (s : State) :
    NoticesStay s (l.foldl f s) :=
  foldl_preserves (P := NoticesStay s) (fun t a h => h.trans (hf t a)) l (.refl s)

theorem push_noticesStay (m : Notice) (s : State) : NoticesStay s (push m s) := fun _ _ h => List.mem_append_left _ h

theorem Notice.bump_of_lasting {m : Notice} (h : Lasting m) : m.bump = m := by
  unfold Notice.bump
  split
  · cases h.1
  · rfl

theorem countDrop_noticesStay (s : State) : NoticesStay s (countDrop s) := by
  rcases countDrop_cases s with ⟨_, h⟩ | ⟨_, _, h⟩ | ⟨_, h⟩ <;> rw [h]
  · exact fun _ _ hmem => hmem
  · exact fun m hm hmem => List.mem_map.mpr ⟨m, hmem, Notice.bump_of_lasting hm⟩
  · exact push_noticesStay _ s

theorem postUnreserved_noticesStay (m : Notice) (s : State) : NoticesStay s (postUnreserved m s) := by
  rcases postUnreserved_cases m s with ⟨_, h⟩ | ⟨_, h⟩ <;> rw [h]
  · exact push_noticesStay m s
  · exact countDrop_noticesStay s

theorem postPendingWarn_noticesStay (s : State) (n : Nat) : NoticesStay s (postPendingWarn s n) := by
  unfold postPendingWarn
  split
  · exact push_noticesStay _ s
  · exact .refl s

theorem postPendingWarns_noticesStay (s : State) : NoticesStay s (postPendingWarns s) :=
  foldl_noticesStay postPendingWarn_noticesStay _ s

theorem moveTo_noticesStay (st : StationState) (cause : StateCause) (s : State) : NoticesStay s (moveTo st cause s) :=
  fun m hm h => postUnreserved_noticesStay _ _ m hm h

/-- The end of a tag takes no lasting notice from the queue, and posts its own (R173, R180). -/
theorem endTag_lasting {n : Nat} {m m' : Notice} {s : State} (hm : Lasting m')
    (h : m' ∈ s.notices.entries ∨ m' = m) : m' ∈ (endTag n m s).notices.entries := by
  have hkept : m' ∈ (s.notices.entries ++ [m]).filter (fun x => !x.isWarnOf n) :=
    List.mem_filter.mpr ⟨by simpa using h, by rw [hm.2 n]; rfl⟩
  unfold endTag
  dsimp only
  generalize hu : (⟨_, _, _, _, _, _, _, _, _, _, _⟩ : State) = u
  refine postPendingWarns_noticesStay u m' hm ?_
  rw [← hu]
  exact hkept

/-- The end of a tag takes only its own WARNs from the queue (R173, R180). -/
theorem endTag_noticesStay (n : Nat) (m : Notice) (s : State) : NoticesStay s (endTag n m s) :=
  fun _ hm h => endTag_lasting hm (.inl h)

/-- The end of a tag posts its notice. -/
theorem mem_endTag (n : Nat) {m : Notice} (hm : Lasting m) (s : State) : m ∈ (endTag n m s).notices.entries :=
  endTag_lasting hm (.inr rfl)

theorem endTagIfUsed_noticesStay (cause : TagCause) (s : State) (n : Nat) : NoticesStay s (endTagIfUsed cause s n) := by
  unfold endTagIfUsed
  exact .ite (endTag_noticesStay _ _ s) (.refl s)

theorem endTags_noticesStay (cause : TagCause) (s : State) : NoticesStay s (endTags cause s) :=
  foldl_noticesStay (endTagIfUsed_noticesStay cause) _ s

theorem endNotice_lasting (n : Nat) (p : Option Phase) (cause : TagCause) : Lasting (endNotice n p cause) := by
  unfold endNotice
  split <;> exact ⟨rfl, fun _ => rfl⟩

/-- Every tag that was in use has its notice, LOST where it was granted and CANCELLED where it was not (R173). -/
theorem mem_endTags (cause : TagCause) (s : State) {n : Nat} (hn : n < 16) (hu : (tagAt s n).inUse = true) :
    endNotice n (tagAt s n).phase cause ∈ (endTags cause s).notices.entries := by
  have hfold : ∀ (l : List Nat) (t : State), n ∈ l → (tagAt t n).inUse = true → (tagAt t n).phase = (tagAt s n).phase →
      endNotice n (tagAt s n).phase cause ∈ (l.foldl (endTagIfUsed cause) t).notices.entries := by
    intro l
    induction l with
    | nil => intro t h; cases h
    | cons m l ih =>
      intro t hmem hin hphase
      rw [List.foldl_cons]
      by_cases hm : n = m
      · have hnow : endNotice n (tagAt s n).phase cause ∈ (endTagIfUsed cause t n).notices.entries := by
          rw [endTagIfUsed, if_pos hin, hphase]
          exact mem_endTag n (endNotice_lasting _ _ _) t
        have hstay := foldl_noticesStay (endTagIfUsed_noticesStay cause) l (endTagIfUsed cause t n)
        rw [← hm]
        exact hstay _ (endNotice_lasting _ _ _) hnow
      · have hsame : (tagAt (endTagIfUsed cause t m) n).inUse = true ∧
            (tagAt (endTagIfUsed cause t m) n).phase = (tagAt t n).phase := by
          unfold endTagIfUsed
          split
          · obtain ⟨w, hw⟩ := endTag_tagAt m n (endNotice m (tagAt t m).phase cause) t
            rw [if_neg hm] at hw
            rw [hw]
            exact ⟨hin, rfl⟩
          · exact ⟨hin, rfl⟩
        exact ih _ ((List.mem_cons.mp hmem).resolve_left hm) hsame.1 (hsame.2.trans hphase)
  have hlt : n < Config.tagCount := hn
  unfold endTags
  exact hfold (List.range Config.tagCount) s (List.mem_range.mpr hlt) hu rfl

/-- The notices of `endTags`, by the tag's phase. -/
theorem endTags_lost_cancelled (cause : TagCause) {s t : State} (ht : NoticesStay (endTags cause s) t) {n : Nat}
    (hn : n < 16) (hu : (tagAt s n).inUse = true) :
    ((tagAt s n).phase = some .held ∨ (tagAt s n).phase = some .yielding → .lost n cause ∈ t.notices.entries) ∧
    ((tagAt s n).phase = some .sending ∨ (tagAt s n).phase = some .waiting ∨ (tagAt s n).phase = some .cancelling →
      .cancelled n cause ∈ t.notices.entries) := by
  have hmem := ht _ (endNotice_lasting _ _ _) (mem_endTags cause s hn hu)
  constructor
  · rintro (h | h) <;> rw [h] at hmem <;> exact hmem
  · rintro (h | h | h) <;> rw [h] at hmem <;> exact hmem

/-! ## The bus after a stall or a break -/

/-- With nothing ON_BUS, the bus's being IDLE returns no TRAIN-HEAD (R120). -/
theorem busToIdle_of_none {s : State} (h : onBusEntry s = none) : busToIdle s = { s with
    watch.pause := false
    train.run := if s.train.run = .running then TrainRun.ended else s.train.run
    link.bus := .idle
    link.idleCycles := 0
    link.chain := false } := (returnHead_of_none (s := idleBus s) h).trans (idleBus_eq s)

/-- A station that receives and may be inside a frame has it cut short (R145, R150). -/
theorem exec_cutFrame {s : State} (hp : Powered s) (hr : s.station.state.receives = true)
    (hb : s.link.bus = .idle ∨ s.link.bus = .inFrame ∨ s.link.bus = .inRelinked) (sampled : List Bool) :
    (∀ linesHigh, exec (.stall ⟨sampled, linesHigh⟩) s =
      .next (if s.link.sending.isSome then tryOutcome sampled (.stalled linesHigh) { s with tx.offered := none }
        else afterEnd (.stalled linesHigh) { s with tx.offered := none })) ∧
    ∀ rise, exec (.frameBreak ⟨sampled, rise⟩) s =
      .next (if s.link.sending.isSome then tryOutcome sampled (.broken rise) { s with tx.offered := none }
        else afterEnd (.broken rise) { s with tx.offered := none }) := by
  have hin : mayBeInFrame s = true := by
    simp only [mayBeInFrame, hr, Bool.true_and, Bool.or_eq_true, beq_iff_eq, or_assoc]
    exact hb
  exact ⟨fun _ => congrArg Host.Outcome.next ((powered_high _ hp).trans (if_pos hin)),
    fun _ => congrArg Host.Outcome.next ((powered_high _ hp).trans (if_pos hin))⟩

theorem tryOutcome_of_sending {s : State} {o : OwnFrame} (h : s.link.sending = some o) (sampled : List Bool)
    (ending : TryEnd) : tryOutcome sampled ending s = endTry o sampled ending s := by
  unfold tryOutcome
  rw [h]

/-- In MEMBER no entry is withdrawn on its return (R134). -/
theorem withdrawnOnReturn_of_member {e : TxEntry} {s : State} (h : s.station.state = .member) :
    withdrawnOnReturn e s = false := by
  rw [withdrawnOnReturn, h, Bool.and_false]

/-- A READY entry put back where the one ON_BUS was leaves nothing ON_BUS. -/
theorem onBusEntry_of_back {s : State} {older younger : List TxEntry} {e : TxEntry} (he : s.tx.entries = older ++ e :: younger)
    (hob : e.onBus = false) (hx : ∀ x ∈ older ++ younger, x.onBus = false) : onBusEntry s = none := by
  refine onBusEntry_eq_none_iff.mpr fun x h => ?_
  rw [he, List.mem_append, List.mem_cons] at h
  rcases h with h | rfl | h
  · exact hx x (List.mem_append_left _ h)
  · exact hob
  · exact hx x (List.mem_append_right _ h)

/-- Settles O38: the frame is cut short; an own try is read as cut, its entry returns to READY, and the bus stands as
the stall or the break leaves it. -/
theorem stallAndBreakEndTheFrame : Obligations.StallAndBreakEndTheFrame := by
  intro s sampled hp hr hb closed
  obtain ⟨hstall, hbreak⟩ := exec_cutFrame hp hr hb sampled
  constructor
  · intro hs
    rw [hstall, hstall, hbreak, hbreak, hs]
    refine ⟨fun hfailed => ?_, rfl, rfl⟩
    have hidle : busToIdle { s with tx.offered := none } = closed :=
      (busToIdle_of_not_failed (s := { s with tx.offered := none }) hfailed).trans (idleBus_eq _)
    exact ⟨congrArg Host.Outcome.next hidle, congrArg Host.Outcome.next hidle⟩
  · intro o e older younger hs hplain hcut he hob hx hd hf hc hst hlimit back
    have hkind : o.kind = .trainTail → sampled.drop (sentBits s).length ≠ [true] := fun h => by
      rw [h] at hplain
      cases hplain
    have hback := returnTry_plain (s := { s with tx.offered := none }) true he hob hx hd hf
      (withdrawnOnReturn_of_member hst) hc (fun _ => hlimit)
    have htry : ∀ ending : TryEnd, (∀ e, ending ≠ .frameEnd e) →
        tryOutcome sampled ending { s with tx.offered := none } =
          afterEnd ending { s with tx.offered := none, tx.entries := back, link.sending := none } := by
      intro ending hend
      rw [tryOutcome_of_sending (s := { s with tx.offered := none }) hs,
        endTry_cutShort (s := { s with tx.offered := none }) hcut hkind hend, hback]
      rfl
    have hidle : busToIdle { s with tx.offered := none, tx.entries := back, link.sending := none } =
        { closed with tx.entries := back, link.sending := none } :=
      busToIdle_of_none (onBusEntry_of_back (s := { s with tx.entries := back }) rfl rfl hx)
    rw [hstall, hstall, hbreak, hbreak, if_pos (by rw [hs]; rfl), if_pos (by rw [hs]; rfl), if_pos (by rw [hs]; rfl),
      if_pos (by rw [hs]; rfl), htry _ (by simp), htry _ (by simp), htry _ (by simp), htry _ (by simp)]
    exact ⟨congrArg Host.Outcome.next hidle, rfl, congrArg Host.Outcome.next hidle, rfl⟩

/-! ## Stuck lines -/

/-- A station without tags that is sidelined with a free place leaves the bus and posts its STATE (R101). -/
theorem sideline_of_noTags {cause : StateCause} {s : State} (hn : NoTags s) (hf : 0 < freePlaces s) :
    (sideline cause s).notices.entries = s.notices.entries ++ [.state .sidelined cause] := by
  have hroom : 0 < freePlaces { leaveBus s with station.attempts := 0, watch.rest := some 0 } := hf
  rw [sideline, endTags_of_noTags _ hn]
  exact congrArg (·.notices.entries) (moveTo_of_room hroom)

/-- A sidelined station has ended every tag with its notice (R101, R173). -/
theorem endTags_sideline_noticesStay (cause : StateCause) (s : State) :
    NoticesStay (endTags .sidelined s) (sideline cause s) := by
  unfold sideline
  generalize endTags .sidelined s = u
  exact fun m hm h => moveTo_noticesStay .sidelined cause _ m hm h

/-- Settles O39: the station is sidelined, or the bus moves between BUSY and IDLE. -/
theorem lineEventsMoveTheBus : Obligations.LineEventsMoveTheBus := by
  refine ⟨fun s hp => ⟨fun hr => ?_, fun hr => ?_⟩, fun s hp => ⟨fun hr hb hfailed => ?_, fun hb => ?_, fun hb => ?_, fun hb => ?_⟩⟩
  · exact congrArg Host.Outcome.next ((powered_high lineStuck hp).trans (if_neg (by simp [hr])))
  · exact ⟨sideline .lineStuck s, congrArg Host.Outcome.next ((powered_high lineStuck hp).trans (if_pos hr)),
      (sideline_gone _ s).2, sideline_station _ s, sideline_rest _ s, by simp [sideline, leaveBus],
      by simp [sideline], fun n hn hu => endTags_lost_cancelled .sidelined (endTags_sideline_noticesStay _ s) hn hu,
      sideline_of_noTags⟩
  · have hidle : busIdleReturn s = busToIdle s := if_pos ⟨hr, hb⟩
    exact congrArg Host.Outcome.next ((powered_high busIdleReturn hp).trans
      (hidle.trans ((busToIdle_of_not_failed hfailed).trans (idleBus_eq s))))
  · exact congrArg Host.Outcome.next ((powered_high lineFallWithoutOpen hp).trans (if_pos hb))
  · exact congrArg Host.Outcome.next ((powered_high busIdleReturn hp).trans (if_neg fun h => hb h.2))
  · exact congrArg Host.Outcome.next ((powered_high lineFallWithoutOpen hp).trans (if_neg hb))

end Sys2Proof.Machine
end

/-! # The end of an own try that is no train's: the obligations (7.4, 7.5) -/

section
namespace Sys2Proof.Machine

open Sys2Proof (Byte BusFrame FrameEnd TryEnd Instr)

/-! ## Acceptance -/

/-- No other station is listed where every other roster entry is ABSENT (R149). -/
theorem listsAnother_eq_false {s : State} (h : ∀ d < 32, d ≠ s.station.number → rosterAt s d = .absent) :
    listsAnother s = false := by
  refine List.any_eq_false.mpr fun d hd => ?_
  by_cases hself : d = s.station.number
  · simp [hself]
  · simp [h d (List.mem_range.mp hd) hself]

theorem trySlots_accepted {s : State} {o : OwnFrame} {heardLow : Bool} {ending : TryEnd}
    (h : senderAccepts o.kind false heardLow s = true) : trySlots o false heardLow ending s =
      reportUnheard (acceptTry o ending (countSlots false heardLow s)) := by
  unfold trySlots
  dsimp only
  rw [if_pos h]

theorem trySlots_unaccepted {s : State} {o : OwnFrame} {vetoLow heardLow : Bool} {ending : TryEnd}
    (h : senderAccepts o.kind vetoLow heardLow s = false) : trySlots o vetoLow heardLow ending s =
      reportUnheard (afterOwn ending (returnTry true (countSlots vetoLow heardLow s))) := by
  unfold trySlots
  dsimp only
  rw [if_neg (by simp [h])]

theorem acceptTry_single {s : State} {o : OwnFrame} {e : TxEntry} {ending : TryEnd} (he : onBusEntry s = some e)
    (hplain : o.kind.isTrain = false) (hd : e.dead = false) : acceptTry o ending s =
      afterOwn ending { acceptOwn o e.binding { setEntries (withoutOnBus s) s with link.sending := none } with
        tx.fairGap := s.tx.fairGap || fairKind o.kind } := by
  unfold acceptTry acceptSingle
  rw [he]
  dsimp only
  rw [if_neg (by simp [hplain]), if_neg (by simp [hd])]
  rfl

/-- What the acceptance of an own frame that is no train frame does (R40, R94, R111, R128). -/
theorem acceptOwn_plain {o : OwnFrame} (hplain : o.kind.isTrain = false) (binding : Option Nat) (s : State) :
    acceptOwn o binding s = { s with
      apply.rx := s.apply.rx ++ [⟨o.kind, s.station.number, o.payload, true, binding, false, false⟩]
      tx.entries := s.tx.entries.map (fun x => if x.frame.kind = .roll then { x with superseded := true } else x)
      watch.roll := s.watch.roll.map (fun _ => 0)
      link.train := none
      link.chain := false } := by
  obtain ⟨hcont, hloads, hhead, hclaim, hafter, hrecord⟩ := plainFrame_record hplain o.payload s.station.number true s
  unfold acceptOwn ownAccepted acceptFrame
  rw [hcont, hloads, hhead, hclaim, hafter, hrecord]
  rfl

theorem onBusEntry_map_superseded {s : State} {es : List TxEntry} (hx : ∀ x ∈ es, x.onBus = false)
    (he : s.tx.entries = es.map (fun x => if x.frame.kind = .roll then { x with superseded := true } else x)) :
    onBusEntry s = none := by
  refine onBusEntry_eq_none_iff.mpr fun x h => ?_
  rw [he] at h
  obtain ⟨y, hy, rfl⟩ := List.mem_map.mp h
  have hoff := hx y hy
  split <;> exact hoff

/-- Settles O31: the slots give an acceptance, which the CLOSE or the stall ends. -/
theorem acceptedFrameIsQueuedForApplication : Obligations.AcceptedFrameIsQueuedForApplication := by
  intro s o e older younger heardLow hp hs hplain he hob hx hd hheard u
  have hlists : heardLow = true ∨ listsAnother s = false := hheard.imp_right listsAnother_eq_false
  have haccepts : senderAccepts o.kind false heardLow s = true := by
    rcases hlists with h | h <;> simp [senderAccepts, h]
  have hcount : countSlots false heardLow s = { s with link.clashRun := 0, link.unheardRun := 0 } := by
    rcases hlists with h | h <;> simp [countSlots, h]
  have htry : ∀ ending, exec (.tryOutcome ⟨sentBits s ++ [true, !heardLow], ending⟩) s =
      .next (reportUnheard (afterOwn ending u)) := by
    intro ending
    rw [exec_tryOutcome hp hs, endTry_slots, Bool.not_true, Bool.not_not, trySlots_accepted haccepts, hcount,
      acceptTry_single (s := { s with link.clashRun := 0, link.unheardRun := 0 }) (onBusEntry_of_split he hob hx) hplain hd,
      acceptOwn_plain hplain, withoutOnBus_of_split (s := { s with link.clashRun := 0, link.unheardRun := 0 }) he hob hx]
    rfl
  have hnone : onBusEntry u = none := onBusEntry_map_superseded hx rfl
  have hidle := busToIdle_of_none hnone
  constructor
  · rw [htry]
    have hend : afterOwn (.frameEnd .close) u = busToIdle u := rfl
    rw [hend, hidle]
    exact congrArg Host.Outcome.next (reportUnheard_of_below (by decide : 0 < 4))
  · rw [htry]
    exact congrArg Host.Outcome.next (reportUnheard_of_below (by decide : 0 < 4))

/-! ## The bus after the end of a try -/

/-- What a bus change leaves of the state: everything but the train pause, the run and the bus. -/
structure BusOnly (s t : State) : Prop where
  station : t.station = s.station
  replica : t.replica = s.replica
  apply : t.apply = s.apply
  tx : t.tx = s.tx
  tags : t.tags = s.tags
  notices : t.notices = s.notices
  unheardRun : t.link.unheardRun = s.link.unheardRun

theorem busToIdle_busOnly {s : State} (h : onBusEntry s = none) : BusOnly s (busToIdle s) := by
  rw [busToIdle_of_none h]
  exact ⟨rfl, rfl, rfl, rfl, rfl, rfl, rfl⟩

/-- With nothing ON_BUS the end of a try changes the bus only. -/
theorem afterEnd_busOnly {s : State} (h : onBusEntry s = none) (ending : TryEnd) : BusOnly s (afterEnd ending s) := by
  match ending with
  | .frameEnd .close => exact busToIdle_busOnly h
  | .frameEnd .relink | .frameEnd .noEnd | .stalled false | .broken false => exact ⟨rfl, rfl, rfl, rfl, rfl, rfl, rfl⟩
  | .stalled true => exact busToIdle_busOnly h
  | .broken true => exact busToIdle_busOnly h

/-! ## A try without acceptance -/

theorem isTrain_ne {k l : FrameKind} (hk : k.isTrain = false) (hl : l.isTrain = true) : (k == l) = false :=
  Bool.eq_false_iff.mpr fun h => by
    rw [beq_iff_eq.mp h, hl] at hk
    cases hk

theorem countSlots_veto (heardLow : Bool) (s : State) :
    countSlots true heardLow s = { s with link.clashRun := 0, link.unheardRun := 0 } := rfl

/-- A veto slot sampled low is no acceptance (R149). -/
theorem endTry_veto {s : State} {o : OwnFrame} (heard : Bool) (ending : TryEnd) :
    endTry o (sentBits s ++ [false, heard]) ending s =
      reportUnheard (afterOwn ending (returnTry true { s with link.clashRun := 0, link.unheardRun := 0 })) := by
  rw [endTry_slots, Bool.not_false, trySlots_unaccepted rfl, countSlots_veto]

/-- A bound ASK with a cancel pending is removed at its return, whatever the count, and its tag ends (R130). -/
theorem returnTry_cancelPending {s : State} {older younger : List TxEntry} {e : TxEntry} {n : Nat} (counted : Bool)
    (he : s.tx.entries = older ++ e :: younger) (hob : e.onBus = true) (hx : ∀ x ∈ older ++ younger, x.onBus = false)
    (hd : e.dead = false) (hf : e.frame ≠ .trainHead) (hw : withdrawnOnReturn e s = false)
    (hc : cancelPendingOf e s = some n) (hlatch : NoWarnPending s) (hother : ∀ x ∈ older ++ younger, x.binding ≠ some n)
    (hwarn : ∀ m ∈ s.notices.entries, m.isWarnOf n = false) :
    returnTry counted s = setTag n Tag.free (push (.cancelled n .host)
      (withdrawBound n (readyAgain counted { s with link.sending := none }))) ∧
    (returnTry counted s).tx.entries = older ++ younger := by
  have hbound : e.binding = some n := by
    unfold cancelPendingOf at hc
    split at hc
    next hbinding =>
      split at hc
      · rw [hbinding, Option.some.inj hc]
      · cases hc
    next => cases hc
  have hret : returnTry counted s =
      endTag n (.cancelled n .host) (readyAgain counted { s with link.sending := none }) := by
    rw [returnTry_some counted (onBusEntry_of_split he hob hx)]
    unfold returnEntry
    rw [if_neg hf, if_neg (by
      rw [hd, show withdrawnOnReturn e { s with link.sending := none } = withdrawnOnReturn e s from rfl, hw]
      simp)]
    rw [show cancelPendingOf e { s with link.sending := none } = cancelPendingOf e s from rfl, hc]
  have hend := endTag_of_no_warn (n := .cancelled n .host) (s := readyAgain counted { s with link.sending := none })
    (fun u hu _ => hlatch u hu) hwarn rfl
  refine ⟨hret.trans hend, ?_⟩
  rw [hret, hend]
  have hready : (readyAgain counted { s with link.sending := none }).tx.entries =
      older ++ { e with onBus := false, retries := retriesAfter counted e } :: younger := by
    rw [readyAgain_of_split counted (s := { s with link.sending := none }) he hob hx]
    rfl
  exact withdrawBound_entries_of_split hready hbound rfl hother

/-- Settles O32: each outcome returns the entry, and the end of the frame acts on the bus alone. -/
theorem unacceptedFrameReturnsToReady : Obligations.UnacceptedFrameReturnsToReady := by
  intro s o e older younger hp hs he hob hx hd hplain hf hst own back closed
  have hexec := exec_tryOutcome hp hs
  have hw := withdrawnOnReturn_of_member (e := e) hst
  have hkind : o.kind = .trainTail → ∀ sampled : List Bool, sampled.drop own.length ≠ [true] := fun h => by
    rw [h] at hplain
    cases hplain
  have hback : cancelPendingOf e s = none → e.retries + 1 < s.station.setup.retryLimit → ∀ l : LinkController,
      returnTry true { s with link := l } =
        { s with tx.entries := back (e.retries + 1), link := { l with sending := none } } := fun hc hlimit l =>
    returnTry_plain (s := { s with link := l }) true he hob hx hd hf hw hc (fun _ => hlimit)
  have hclosed : cancelPendingOf e s = none → e.retries + 1 < s.station.setup.retryLimit → ∀ l : LinkController,
      busToIdle (returnTry true { s with link := l }) =
        { closed with link := { l with sending := none, bus := .idle, idleCycles := 0, chain := false } } := by
    intro hc hlimit l
    rw [hback hc hlimit]
    exact busToIdle_of_none (onBusEntry_of_back (e := { e with onBus := false, retries := e.retries + 1 }) rfl rfl hx)
  refine ⟨fun hc sampled i ending hb hi => ?_, fun hc hlimit => ⟨fun heardLow => ?_, fun hlists hrun => ?_,
    fun sampled i hb hi hrun => ?_, fun sampled hcut => ?_⟩, fun n hc hn hlatch hother hwarn sampled ending hout => ?_⟩
  · have hlost : (o.kind == .trainClaim || o.kind == .trainTail) = false := by
      rw [isTrain_ne hplain rfl, isTrain_ne hplain rfl]
      rfl
    rw [hexec, endTry_lost hb hi]
    unfold tryLost
    rw [hlost]
    exact congrArg Host.Outcome.next (returnTry_plain (s := { s with link.chain := false }) false he hob hx hd hf hw hc
      (fun h => by cases h))
  · rw [hexec, endTry_veto]
    have hend := hclosed hc hlimit { s.link with clashRun := 0, unheardRun := 0 }
    refine congrArg Host.Outcome.next ((congrArg reportUnheard hend).trans (reportUnheard_of_below ?_))
    exact (by decide : 0 < 4)
  · have hno : senderAccepts o.kind false false s = false := by
      simp [senderAccepts, hlists, isTrain_ne hplain (l := .trainTail) rfl]
    have hcount : countSlots false false s =
        { s with link := { s.link with clashRun := 0, unheardRun := s.link.unheardRun + 1 } } := by
      simp [countSlots, hlists]
    have hend := hclosed hc hlimit { s.link with clashRun := 0, unheardRun := s.link.unheardRun + 1 }
    rw [hexec, endTry_slots, Bool.not_true, trySlots_unaccepted hno, hcount]
    exact congrArg Host.Outcome.next ((congrArg reportUnheard hend).trans
      (reportUnheard_of_below (Nat.succ_lt_succ hrun)))
  · have hend := hclosed hc hlimit { s.link with
      clashRun := s.link.clashRun + 1, chain := false, droveVeto := true, droveHeard := false }
    rw [hexec, endTry_clashed hb hi]
    exact congrArg Host.Outcome.next ((congrArg reportClash hend).trans (reportClash_of_below (Nat.succ_lt_succ hrun)))
  · have htry : ∀ linesHigh, endTry o sampled (.stalled linesHigh) s =
        afterEnd (.stalled linesHigh) (returnTry true s) := fun linesHigh =>
      endTry_cutShort hcut (fun h => hkind h sampled) (by simp)
    rw [hexec, hexec, htry, htry]
    refine ⟨congrArg Host.Outcome.next (hclosed hc hlimit s.link), congrArg Host.Outcome.next ?_⟩
    exact congrArg (afterStall false) (hback hc hlimit s.link)
  · have hcancel : ∀ (counted : Bool) (l : LinkController), ∃ t, returnTry counted { s with link := l } = t ∧
        onBusEntry t = none ∧ t.tx.entries = older ++ younger ∧ tagAt t n = Tag.free ∧ t.replica = s.replica ∧
        t.notices.entries = s.notices.entries ++ [.cancelled n .host] ∧ t.link.unheardRun = l.unheardRun := by
      intro counted l
      obtain ⟨heq, hentries⟩ := returnTry_cancelPending (s := { s with link := l }) counted he hob hx hd hf hw hc hlatch
        hother hwarn
      refine ⟨_, rfl, onBusEntry_eq_none_iff.mpr fun x h => hx x (hentries ▸ h), hentries, ?_, ?_, ?_, ?_⟩
      · rw [heq, tagAt_setTag_same]
      · rw [heq]
        rfl
      · rw [heq]
        rfl
      · rw [heq]
        rfl
    have hdone : ∀ {t u : State}, BusOnly t u → t.tx.entries = older ++ younger → tagAt t n = Tag.free →
        t.replica = s.replica → t.notices.entries = s.notices.entries ++ [.cancelled n .host] →
        u.tx.entries = older ++ younger ∧ tagAt u n = Tag.free ∧ u.replica = s.replica ∧
          u.notices.entries = s.notices.entries ++ [.cancelled n .host] := by
      intro t u hbus h1 h2 h3 h4
      exact ⟨by rw [hbus.tx, h1], by rw [tagAt, hbus.tags]; exact h2, by rw [hbus.replica, h3], by rw [hbus.notices, h4]⟩
    rcases hout with ⟨i, hi, hb⟩ | ⟨hcut, linesHigh, rfl⟩ | ⟨heard, rfl, rfl⟩
    · obtain ⟨t, ht, hnone, h1, h2, h3, h4, -⟩ := hcancel (o.kind == .trainClaim || o.kind == .trainTail)
        { s.link with chain := false }
      have hlost : BusOnly t (tryLost o ending s) := by
        have hret : returnTry (o.kind == .trainClaim || o.kind == .trainTail) { s with link.chain := false } = t := ht
        unfold tryLost
        dsimp only
        rw [hret]
        cases ending with
        | frameEnd _ => exact ⟨rfl, rfl, rfl, rfl, rfl, rfl, rfl⟩
        | stalled linesHigh => exact afterEnd_busOnly hnone _
        | broken rise => exact afterEnd_busOnly hnone _
      exact ⟨_, by rw [hexec, endTry_lost hb hi], hdone hlost h1 h2 h3 h4⟩
    · obtain ⟨t, ht, hnone, h1, h2, h3, h4, -⟩ := hcancel true s.link
      refine ⟨_, by rw [hexec, endTry_cutShort hcut (fun h => hkind h sampled) (by simp)], ?_⟩
      rw [show returnTry true s = t from ht]
      exact hdone (afterEnd_busOnly hnone _) h1 h2 h3 h4
    · obtain ⟨t, ht, hnone, h1, h2, h3, h4, h5⟩ := hcancel true { s.link with clashRun := 0, unheardRun := 0 }
      have hret : returnTry true { s with link.clashRun := 0, link.unheardRun := 0 } = t := ht
      have hbus : BusOnly t (busToIdle t) := busToIdle_busOnly hnone
      refine ⟨busToIdle t, ?_, hdone hbus h1 h2 h3 h4⟩
      rw [hexec, endTry_veto, hret]
      refine congrArg Host.Outcome.next (reportUnheard_of_below (s := busToIdle t) ?_)
      rw [hbus.unheardRun, h5]
      exact (by decide : 0 < 4)

end Sys2Proof.Machine
end

/-! # The retry limit: the obligation (7.5) -/

section
namespace Sys2Proof.Machine

open Sys2Proof (Byte BusFrame FrameEnd TryEnd Instr)

/-! ## What the return of an entry leaves as it was -/

/-- The return of an entry that is no TRAIN-HEAD touches neither the replica nor the receive queue, and no tag where
the entry is not bound (R129 to R132). -/
structure ReturnKeeps (e : TxEntry) (s t : State) : Prop where
  replica : t.replica = s.replica
  apply : t.apply = s.apply
  link : t.link = s.link
  tags : e.binding = none → t.tags = s.tags
  offBus : onBusEntry t = none

theorem limitEffect_keeps (f : TxFrame) (binding : Option Nat) (s : State) :
    (limitEffect f binding s).replica = s.replica ∧ (limitEffect f binding s).apply = s.apply ∧
      (limitEffect f binding s).link = s.link ∧ (binding = none → (limitEffect f binding s).tags = s.tags) := by
  unfold limitEffect endIfUsed tooLateIfHeld clearExtend
  (repeat' split) <;> simp

/-- An internal entry has no tag whose cancel is pending. -/
theorem cancelPendingOf_of_unbound {e : TxEntry} {s : State} (h : e.binding = none) : cancelPendingOf e s = none := by
  unfold cancelPendingOf
  split
  next hb =>
    rw [h] at hb
    cases hb
  next => rfl

theorem returnEntry_keeps {e : TxEntry} (counted : Bool) (s : State) (hf : e.frame ≠ .trainHead) :
    ReturnKeeps e s (returnEntry counted e s) := by
  have hready : OffAll s (readyAgain counted s) := ⟨.of_blocks rfl rfl, onBusEntry_readyAgain counted s⟩
  have hout : OffAll s (setEntries (withoutOnBus s) s) := ⟨.of_blocks rfl rfl, onBusEntry_withoutOnBus s s⟩
  unfold returnEntry
  rw [if_neg hf]
  split
  · exact ⟨rfl, rfl, rfl, fun _ => rfl, hout.2⟩
  split
  next n hn =>
    refine ⟨by simp [readyAgain], by simp [readyAgain], by simp [readyAgain], fun h => ?_, (endTag_offAll _ _ hready.2).2⟩
    rw [cancelPendingOf_of_unbound h] at hn
    cases hn
  next =>
    split
    · obtain ⟨h1, h2, h3, h4⟩ := limitEffect_keeps e.frame e.binding
        (postUnreserved (.sendFailed e.frame.kind e.frame.detail) (setEntries (withoutOnBus s) s))
      exact ⟨h1.trans (by simp), h2.trans (by simp), h3.trans (by simp), fun h => (h4 h).trans (by simp),
        (limitEffect_offAll _ _ (offAll_of_blocks hout.2 (by simp) (by simp) (by simp)).2).2⟩
    · exact ⟨rfl, rfl, rfl, fun _ => rfl, hready.2⟩

/-- At the retry limit the entry leaves with its FAULT, where a place is free (R131, R132). -/
theorem returnEntry_atLimit {s : State} {e : TxEntry} {older younger : List TxEntry}
    (he : s.tx.entries = older ++ e :: younger) (hob : e.onBus = true) (hx : ∀ x ∈ older ++ younger, x.onBus = false)
    (hd : e.dead = false) (hf : e.frame ≠ .trainHead) (hw : withdrawnOnReturn e s = false)
    (hc : cancelPendingOf e s = none) (hlimit : s.station.setup.retryLimit ≤ e.retries + 1) (hfree : 0 < freePlaces s) :
    returnEntry true e s = limitEffect e.frame e.binding
      (push (.sendFailed e.frame.kind e.frame.detail) { s with tx.entries := older ++ younger }) := by
  have hroom : 0 < freePlaces (setEntries (older ++ younger) s) := hfree
  unfold returnEntry
  rw [if_neg hf, if_neg (by simp [hd, hw]), hc]
  dsimp only
  rw [if_pos ⟨rfl, hlimit⟩, atLimit, withoutOnBus_of_split he hob hx, postUnreserved_of_room _ hroom]
  rfl

/-- Only an ASK has a cancel pending (R130). -/
theorem cancelPendingOf_of_kind {e : TxEntry} {s : State} (h : e.frame.kind ≠ .ask) : cancelPendingOf e s = none := by
  unfold cancelPendingOf
  split
  next ha _ =>
    rw [ha] at h
    exact absurd rfl h
  next => rfl

theorem withdrawnOnReturn_of_bound {e : TxEntry} {s : State} {n : Nat} (h : e.binding = some n) :
    withdrawnOnReturn e s = false := by
  rw [withdrawnOnReturn, h]
  rfl

/-- A vetoed try of an entry that is no TRAIN-HEAD ends in the return of the entry, and the bus is IDLE. -/
theorem exec_vetoed {s : State} {o : OwnFrame} {e : TxEntry} (hp : Powered s) (hs : s.link.sending = some o)
    (he : onBusEntry s = some e) (hf : e.frame ≠ .trainHead) (heard : Bool) :
    ∃ u t, u = returnEntry true e { s with link.sending := none, link.clashRun := 0, link.unheardRun := 0 } ∧
      exec (.tryOutcome ⟨sentBits s ++ [false, heard], .frameEnd .close⟩) s = .next t ∧
      BusOnly u t ∧ u.replica = s.replica ∧ u.apply = s.apply ∧ (e.binding = none → u.tags = s.tags) := by
  obtain ⟨hr, ha, hl, ht, hnone⟩ := returnEntry_keeps true
    { s with link.sending := none, link.clashRun := 0, link.unheardRun := 0 } hf
  have hret : returnTry true { s with link.clashRun := 0, link.unheardRun := 0 } =
      returnEntry true e { s with link.sending := none, link.clashRun := 0, link.unheardRun := 0 } :=
    returnTry_some (s := { s with link.clashRun := 0, link.unheardRun := 0 }) true he
  have hbus := busToIdle_busOnly hnone
  refine ⟨_, _, rfl, ?_, hbus, hr, ha, ht⟩
  rw [exec_tryOutcome hp hs, endTry_veto, hret]
  refine congrArg Host.Outcome.next (reportUnheard_of_below (s := busToIdle _) ?_)
  rw [hbus.unheardRun, hl]
  exact (by decide : 0 < 4)

/-- A tag that is not ended and posts nothing is written alone. -/
theorem setTag_effect {u v : State} {n : Nat} {x : Tag} (h : u = setTag n x v) :
    u.tx = v.tx ∧ tagAt u n = x ∧ u.notices = v.notices := by
  rw [h]
  exact ⟨rfl, tagAt_setTag_same _ _ _, rfl⟩

theorem eq_enter_of_kind {f : TxFrame} (h : f.kind = .enter) : f = .enter := by
  cases f <;> simp [TxFrame.kind] at h ⊢

/-- An internal frame is queued again where no entry has its kind, no own frame is unapplied, and an internal place is
free (R124). -/
theorem queueInternal_of_key_free {s : State} {f : TxFrame} (hrx : s.apply.rx = [])
    (hheld : (s.tx.entries.filter (·.binding.isNone)).length < 3) (hkind : ∀ x ∈ s.tx.entries, x.frame.kind ≠ f.kind) :
    queueInternal s f = enqueue f none s := by
  have hown : ∀ e ∈ s.apply.rx, e.own = false := by
    rw [hrx]
    simp
  refine queueInternal_of_free ?_ (by rw [internalHeld_of_no_own hown]; exact hheld)
  rw [keyPresent_of_no_own hown]
  exact List.any_eq_false.mpr fun x hx => by simp [sameKey_of_kind_ne (hkind x hx)]

/-- Settles O33: the entry leaves with its FAULT, and the frame's kind says what becomes of its tag, or of the internal
frame. -/
theorem retryLimitRemovesTheFrame : Obligations.RetryLimitRemovesTheFrame := by
  constructor
  · intro s o e older younger n hp hs hplain he hob hx hd hf hb hn hu hlimit hfree
    obtain ⟨u, t, hdef, hexec, hbus, hr, ha, -⟩ := exec_vetoed hp hs (onBusEntry_of_split he hob hx) hf false
    have hlim : cancelPendingOf e s = none → u = limitEffect e.frame (some n)
        (push (.sendFailed e.frame.kind e.frame.detail) { s with
          link.sending := none, link.clashRun := 0, link.unheardRun := 0, tx.entries := older ++ younger }) := by
      intro hc
      rw [hdef, ← hb]
      exact returnEntry_atLimit (s := { s with link.sending := none, link.clashRun := 0, link.unheardRun := 0 }) he hob hx
        hd hf (withdrawnOnReturn_of_bound hb) hc hlimit hfree
    refine ⟨t, hexec, hbus.replica.trans hr, hbus.apply.trans ha, ?_⟩
    have htag : tagAt t n = tagAt u n := congrArg (Table.get Tag.free · n) hbus.tags
    rw [htag, hbus.tx, hbus.notices]
    refine ⟨fun c mode noWait lease hframe hnc hlatch hother hwarn => ?_, fun c hframe hphase => ?_,
      fun c hframe hphase => ?_, fun c hframe hphase hroom => ?_, fun c lease hframe => ?_⟩
    · have hc : cancelPendingOf e s = none := by
        unfold cancelPendingOf
        rw [hframe, hb]
        dsimp only
        rw [hnc, Bool.and_false]
        rfl
      have heff := hlim hc
      rw [hframe] at heff
      have hmine : ∀ m ∈ s.notices.entries ++ [.sendFailed .ask c], m.isWarnOf n = false := fun m hm => by
        rcases List.mem_append.mp hm with hm | hm
        · exact hwarn m hm
        · rw [List.mem_singleton.mp hm]
          rfl
      have hend := endTag_of_no_warn (t := n) (n := .refused n .link) (s := push (.sendFailed .ask c) { s with
        link.sending := none, link.clashRun := 0, link.unheardRun := 0, tx.entries := older ++ younger })
        (fun m hm _ => hlatch m hm) hmine rfl
      rw [withdrawBound_of_none (s := push (.sendFailed .ask c) { s with
        link.sending := none, link.clashRun := 0, link.unheardRun := 0, tx.entries := older ++ younger }) hother] at hend
      obtain ⟨h1, h2, h3⟩ := setTag_effect (heff.trans ((if_pos hu).trans hend))
      exact ⟨by rw [h1]; rfl, h2, by rw [h3]; exact List.append_assoc _ _ _⟩
    · have heff := hlim (cancelPendingOf_of_kind (by simp [hframe, TxFrame.kind]))
      rw [hframe] at heff
      obtain ⟨h1, h2, h3⟩ := setTag_effect (heff.trans (if_pos hphase))
      exact ⟨by rw [h1]; rfl, h2, by rw [h3]; rfl⟩
    · have heff := hlim (cancelPendingOf_of_kind (by simp [hframe, TxFrame.kind]))
      rw [hframe] at heff
      obtain ⟨h1, h2, h3⟩ := setTag_effect (heff.trans (if_pos hphase))
      exact ⟨by rw [h1]; rfl, h2, by rw [h3]; rfl⟩
    · have heff := hlim (cancelPendingOf_of_kind (by simp [hframe, TxFrame.kind]))
      rw [hframe] at heff
      have hleft : 0 < freePlaces (push (.sendFailed .cancel c) { s with
          link.sending := none, link.clashRun := 0, link.unheardRun := 0, tx.entries := older ++ younger }) := by
        rw [freePlaces_push rfl]
        exact Nat.sub_pos_of_lt hroom
      have hlate := heff.trans ((if_neg (fun h => by
        have hcancelling : (tagAt s n).phase = some .cancelling := h
        rw [hphase] at hcancelling
        cases hcancelling)).trans ((if_pos hphase).trans (postUnreserved_of_room _ hleft)))
      rw [hlate]
      exact ⟨rfl, rfl, List.append_assoc _ _ _⟩
    · have heff := hlim (cancelPendingOf_of_kind (by simp [hframe, TxFrame.kind]))
      rw [hframe] at heff
      obtain ⟨h1, h2, h3⟩ := setTag_effect (heff.trans (if_pos hu))
      exact ⟨by rw [h1]; rfl, h2, by rw [h3]; rfl⟩
  · intro s o e older younger hp hs hplain he hob hx hd hf hb hlimit hfree
    obtain ⟨u, t, hdef, hexec, hbus, hr, ha, ht⟩ := exec_vetoed hp hs (onBusEntry_of_split he hob hx) hf false
    have hlim : withdrawnOnReturn e s = false → u = limitEffect e.frame none
        (push (.sendFailed e.frame.kind e.frame.detail) { s with
          link.sending := none, link.clashRun := 0, link.unheardRun := 0, tx.entries := older ++ younger }) := by
      intro hw
      rw [hdef, ← hb]
      exact returnEntry_atLimit (s := { s with link.sending := none, link.clashRun := 0, link.unheardRun := 0 }) he hob hx
        hd hf hw (cancelPendingOf_of_unbound hb) hlimit hfree
    have hheld : s.apply.rx = [] → internalHeld s ≤ 3 → ((older ++ younger).filter (·.binding.isNone)).length < 3 := by
      intro hrx hthree
      rw [internalHeld_of_no_own (by rw [hrx]; simp), he] at hthree
      simp [hb] at hthree ⊢
      omega
    refine ⟨t, hexec, hbus.replica.trans hr, hbus.apply.trans ha, hbus.tags.trans (ht hb), ?_⟩
    rw [hbus.tx, hbus.notices]
    refine ⟨fun c h serial hframe hst => ?_, fun d hframe hst => ?_, fun joining hframe hst => ?_,
      fun hframe hst hrx hthree hother => ?_, fun hframe hst hrx hthree hother => ?_⟩
    · have heff := hlim (withdrawnOnReturn_of_member hst)
      rw [hframe] at heff
      rw [heff]
      exact ⟨rfl, rfl⟩
    · have heff := hlim (withdrawnOnReturn_of_member hst)
      rw [hframe] at heff
      have hstays := heff.trans (if_neg fun h => by
        have hleaving : s.station.state = .leaving := h.1
        rw [hst] at hleaving
        cases hleaving)
      rw [hstays]
      exact ⟨rfl, rfl⟩
    · have heff := hlim (withdrawnOnReturn_of_member hst)
      rw [hframe] at heff
      rw [heff]
      exact ⟨rfl, rfl⟩
    · have hw : withdrawnOnReturn e s = false := by
        rw [withdrawnOnReturn, hst, hframe]
        simp
      have hkind : ∀ x ∈ older ++ younger, x.frame.kind ≠ .enter := fun x hx' hk =>
        hother x hx' (eq_enter_of_kind hk)
      have heff := hlim hw
      rw [hframe] at heff
      have hqueued := heff.trans ((if_pos hst).trans (queueInternal_of_key_free (f := .enter) hrx (hheld hrx hthree) hkind))
      rw [hqueued]
      exact ⟨rfl, rfl⟩
    · have hw : withdrawnOnReturn e s = false := by
        rw [withdrawnOnReturn, hst, hframe]
        simp
      have heff := hlim hw
      rw [hframe] at heff
      have hqueued := heff.trans ((if_pos ⟨hst, rfl⟩).trans
        (queueInternal_of_key_free (f := .drop s.station.number) hrx (hheld hrx hthree) hother))
      rw [hqueued]
      exact ⟨rfl, rfl⟩

end Sys2Proof.Machine
end

/-! # Trains at their source: the obligations (6.1, 6.5) -/

section
namespace Sys2Proof.Machine

open Sys2Proof (Byte BusFrame FrameEnd TryEnd Instr)

/-! ## The return of a TRAIN-HEAD -/

/-- What the return of an incomplete train leaves, counted once for the whole train: READY below the retry limit,
SIDELINED at it, withdrawn in LEAVING (R120). -/
def TrainReturned (s : State) (older younger : List TxEntry) (e : TxEntry) (t : State) : Prop :=
  (s.station.state = .member → e.retries + 1 < s.station.setup.retryLimit →
    t.replica = s.replica ∧ t.link.sending = none ∧ t.link.bus = .idle ∧ t.train.composer = none ∧
      t.train.failed = false ∧ t.watch.pause = false ∧ t.station = s.station ∧
      t.tx.entries = older ++ { e with onBus := false, retries := e.retries + 1 } :: younger) ∧
  (s.station.state = .member → s.station.setup.retryLimit ≤ e.retries + 1 →
    OffTheBus t ∧ t.watch.rest = some 0 ∧
      t.station = { s.station with state := .sidelined, lastCause := .sendJam, attempts := 0, disagree := 0 }) ∧
  (s.station.state = .leaving →
    t.replica = s.replica ∧ t.link.bus = .idle ∧ t.train.composer = none ∧ t.train.failed = false ∧
      t.station = s.station ∧ t.tx.entries = older ++ younger)

section
variable {s u : State} {older younger : List TxEntry} {e : TxEntry}

theorem trainReturn_withdrawn {counted : Bool} (hw : withdrawnOnReturn e s = true) :
    trainReturn counted e s =
      setEntries (withoutOnBus s) { s with train.composer := none, train.failed := false } := if_pos hw

theorem trainReturn_jams (hw : withdrawnOnReturn e s = false) (hlimit : s.station.setup.retryLimit ≤ e.retries + 1) :
    trainReturn true e s = sideline .sendJam { s with train.composer := none, train.failed := false } :=
  (if_neg (by rw [show withdrawnOnReturn e { s with train.composer := none, train.failed := false } =
    withdrawnOnReturn e s from rfl, hw]; simp)).trans (if_pos ⟨rfl, hlimit⟩)

theorem trainReturn_ready {counted : Bool} (hw : withdrawnOnReturn e s = false)
    (hlimit : counted = true → e.retries + 1 < s.station.setup.retryLimit) :
    trainReturn counted e s = readyAgain counted { s with train.composer := none, train.failed := false } :=
  (if_neg (by rw [show withdrawnOnReturn e { s with train.composer := none, train.failed := false } =
    withdrawnOnReturn e s from rfl, hw]; simp)).trans (if_neg fun h => by
      obtain ⟨rfl, hle⟩ := h
      exact absurd (hlimit rfl) (Nat.not_lt.mpr hle))

/-- In LEAVING an internal entry other than the DROP of itself is withdrawn at its return (R98). -/
theorem withdrawnOnReturn_of_leaving (hst : s.station.state = .leaving) (hb : e.binding = none)
    (hf : e.frame ≠ .drop s.station.number) : withdrawnOnReturn e s = true := by
  rw [withdrawnOnReturn, hst, hb]
  simpa using hf

/-- The bus's being IDLE returns the TRAIN-HEAD of a train that failed. -/
theorem busToIdle_returned (hst : u.station = s.station) (hr : u.replica = s.replica) (hs : u.link.sending = none)
    (ht : u.tx.entries = s.tx.entries) (hfailed : u.train.failed = true) (he : s.tx.entries = older ++ e :: younger)
    (hob : e.onBus = true) (hx : ∀ x ∈ older ++ younger, x.onBus = false) (hf : e.frame = .trainHead)
    (hb : e.binding = none) : TrainReturned s older younger e (busToIdle u) := by
  rw [← ht] at he
  have hidle : (idleBus u).station = s.station := hst
  have hentries : (idleBus u).tx.entries = older ++ e :: younger := he
  have hsending : (idleBus u).link.sending = none := hs
  have hreplica : (idleBus u).replica = s.replica := hr
  have hbus : (idleBus u).link.bus = .idle := rfl
  have hpause : (idleBus u).watch.pause = false := rfl
  rw [busToIdle_of_failed hfailed (onBusEntry_of_split he hob hx) hf]
  generalize idleBus u = v at hidle hentries hsending hreplica hbus hpause ⊢
  refine ⟨fun hmember hlimit => ?_, fun hmember hlimit => ?_, fun hleaving => ?_⟩
  · rw [trainReturn_ready (withdrawnOnReturn_of_member (by rw [hidle]; exact hmember))
      (fun _ => by rw [hidle]; exact hlimit),
      readyAgain_of_split true (s := { v with train.composer := none, train.failed := false }) hentries hob hx]
    exact ⟨hreplica, hsending, hbus, rfl, rfl, hpause, hidle, rfl⟩
  · rw [trainReturn_jams (withdrawnOnReturn_of_member (by rw [hidle]; exact hmember)) (by rw [hidle]; exact hlimit)]
    exact ⟨(sideline_gone _ _).2, sideline_rest _ _, by rw [sideline_station]; rw [← hidle]⟩
  · rw [trainReturn_withdrawn (withdrawnOnReturn_of_leaving (by rw [hidle]; exact hleaving) hb (by rw [hf]; simp)),
      withoutOnBus_of_split hentries hob hx]
    exact ⟨hreplica, hbus, rfl, rfl, hidle, rfl⟩

/-- Only a jam empties the receive queue at the end of a run (R101, R120). -/
theorem busToIdle_apply (u : State) :
    (busToIdle u).apply = u.apply ∨ (busToIdle u).station.state = .sidelined := by
  have hreturn : ∀ (e : TxEntry) (v : State), (trainReturn true e v).apply = v.apply ∨
      (trainReturn true e v).station.state = .sidelined := by
    intro e v
    unfold trainReturn
    dsimp only
    split
    · exact .inl rfl
    · split
      · exact .inr (by rw [sideline_station])
      · exact .inl rfl
  unfold busToIdle returnHead
  split
  next e' _ =>
    split
    · exact hreturn e' (idleBus u)
    · exact .inl rfl
  next => exact .inl rfl

theorem reportUnheard_of_idles {u t : State} (h : Idles u t) (hrun : u.link.unheardRun < 4) : reportUnheard t = t :=
  h.elim (fun h => reportUnheard_of_below (by rw [h.unheardRun]; exact hrun)) (fun h => reportUnheard_of_gone h.1)

theorem reportClash_of_idles {u t : State} (h : Idles u t) (hrun : u.link.clashRun < 4) : reportClash t = t :=
  h.elim (fun h => reportClash_of_below (by rw [h.clashRun]; exact hrun)) (fun h => reportClash_of_gone h.1)

/-- A frame of another station, refused or taken, comes to its CLOSE with the station, the replica and the transmit
queue's entries as they were. -/
theorem slotsOf_close {s : State} (f : BusFrame) (otherVeto : Bool) (hrun : s.link.vetoRun < 7) :
    ∃ u, slotsOf f otherVeto .close s = busToIdle u ∧ u.station = s.station ∧ u.replica = s.replica ∧
      u.link.sending = s.link.sending ∧ u.tx.entries = s.tx.entries ∧ u.train.failed = s.train.failed := by
  by_cases hc : countingVeto f s = true
  · exact ⟨_, slotsOf_counted otherVeto .close hc hrun, rfl, rfl, rfl, rfl, rfl⟩
  by_cases hv : vetoes f s = true ∨ otherVeto = true
  · exact ⟨_, slotsOf_uncounted .close hv (Bool.eq_false_iff.mpr hc) rfl, rfl, rfl, rfl, rfl, rfl⟩
  · obtain ⟨hquiet, hother⟩ := not_or.mp hv
    have hnone : ¬ VetoReason f s := fun h => hc (countingVeto_iff.mpr h)
    have hsource : ¬ NonSourceHead f s := fun h => hquiet (vetoes_iff.mpr (.inr h))
    cases hk : FrameKind.ofCode f.kind.toNat with
    | none => exact absurd (.inr (.inl fun k hk' => by rw [hk] at hk'; cases hk')) hnone
    | some k =>
      rw [Bool.eq_false_iff.mpr hother, slotsOf_accepted hk hnone hsource]
      exact ⟨_, takeFrame_eq .., rfl, rfl, rfl, rfl, rfl⟩

/-- A ROLL is marked superseded at an acceptance (R128). -/
def supersedeRoll (x : TxEntry) : TxEntry := if x.frame.kind = .roll then { x with superseded := true } else x

theorem map_supersedeRoll_offBus (hx : ∀ x ∈ older ++ younger, x.onBus = false) :
    ∀ x ∈ older.map supersedeRoll ++ younger.map supersedeRoll, x.onBus = false := by
  intro x h
  rw [← List.map_append] at h
  obtain ⟨y, hy, rfl⟩ := List.mem_map.mp h
  have hoff := hx y hy
  unfold supersedeRoll
  split <;> exact hoff

/-- A TRAIN-HEAD or TRAIN-CLAIM accepted where the receive queue is full then: the train fails, and the bus becomes
IDLE (R108, R120). -/
theorem acceptTry_full {o : OwnFrame} (he : s.tx.entries = older ++ e :: younger) (hob : e.onBus = true)
    (hx : ∀ x ∈ older ++ younger, x.onBus = false) (hf : e.frame = .trainHead) (htrain : o.kind.isTrain = true)
    (htail : o.kind ≠ .trainTail) (hrx : s.apply.rx.length = 3) :
    ∃ v, acceptTry o (.frameEnd .close) s = busToIdle v ∧ v.station = s.station ∧
      v.tx.entries = older.map supersedeRoll ++ e :: younger.map supersedeRoll ∧ v.link.sending = none ∧
      v.train.failed = true ∧ v.apply.rx.length = 4 ∧ v.link.unheardRun = s.link.unheardRun := by
  have hrelink : relinksWith (.frameEnd .close) (acceptOwn o none { s with link.sending := none }) = none := by
    refine if_neg fun h => ?_
    have hlength : (acceptOwn o none { s with link.sending := none }).apply.rx.length = s.apply.rx.length + 1 :=
      List.length_append
    have hroom := h.2
    rw [hlength, hrx] at hroom
    exact absurd hroom (by decide)
  have haccept : acceptTry o (.frameEnd .close) s =
      busToIdle (failTrain (acceptOwn o none { s with link.sending := none })) := by
    unfold acceptTry acceptTrain
    rw [onBusEntry_of_split he hob hx]
    dsimp only
    rw [if_pos htrain, if_neg htail, hrelink]
    rfl
  refine ⟨_, haccept, rfl, ?_, rfl, rfl, ?_, rfl⟩
  · have hmap : (failTrain (acceptOwn o none { s with link.sending := none })).tx.entries =
        s.tx.entries.map supersedeRoll := rfl
    have hsame : supersedeRoll e = e := if_neg (by rw [hf]; decide)
    rw [hmap, he, List.map_append, List.map_cons, hsame]
  · have hlength : (failTrain (acceptOwn o none { s with link.sending := none })).apply.rx.length =
        s.apply.rx.length + 1 := List.length_append
    rw [hlength, hrx]

end

/-- Settles O37: the train fails where it is, and its TRAIN-HEAD returns when the bus is IDLE. -/
theorem incompleteTrainReturns : Obligations.IncompleteTrainReturns := by
  intro s e older younger hp he hob hx hf hb own back returned
  have hhead := onBusEntry_of_split he hob hx
  have hret : ∀ {u : State}, u.station = s.station → u.replica = s.replica → u.link.sending = none →
      u.tx.entries = s.tx.entries → u.train.failed = true → returned (busToIdle u) := fun hst hr hs ht hfailed =>
    busToIdle_returned hst hr hs ht hfailed he hob hx hf hb
  constructor
  · intro o hs
    have hexec := exec_tryOutcome hp hs
    have hfail : ∀ l : LinkController, returnTry true { s with link := l } =
        { s with train.failed := true, link := { l with sending := none } } := fun l =>
      returnTry_head (s := { s with link := l }) hhead hf
    refine ⟨fun heard => ?_, fun sampled i hb hi hrun => ?_, fun sampled hcut htail => ?_, fun hk hrx hst hlimit => ?_,
      fun sampled i ending hk hst hb hi => ?_⟩
    · have hu := hfail { s.link with clashRun := 0, unheardRun := 0 }
      have hreport := reportUnheard_of_idles (busToIdle_idles { s with
        train.failed := true, link := { s.link with clashRun := 0, unheardRun := 0, sending := none } })
        (by decide : 0 < 4)
      refine ⟨_, by rw [hexec, endTry_veto], ?_⟩
      rw [show afterOwn (.frameEnd .close) (returnTry true { s with link.clashRun := 0, link.unheardRun := 0 }) = _ from
        congrArg busToIdle hu, hreport]
      exact ⟨(busToIdle_apply _).resolve_right, hret rfl rfl rfl rfl rfl⟩
    · have hu := hfail { s.link with
        clashRun := s.link.clashRun + 1, chain := false, droveVeto := true, droveHeard := false }
      have hreport := reportClash_of_idles (busToIdle_idles { s with
        train.failed := true, link := { s.link with
          clashRun := s.link.clashRun + 1, chain := false, droveVeto := true, droveHeard := false, sending := none } })
        (Nat.succ_lt_succ hrun)
      refine ⟨_, by rw [hexec, endTry_clashed hb hi], ?_⟩
      rw [show tryClashed .close s = _ from congrArg (fun x => reportClash (busToIdle x)) hu, hreport]
      exact hret rfl rfl rfl rfl rfl
    · have htry : ∀ ending, (∀ e, ending ≠ TryEnd.frameEnd e) → endTry o sampled ending s =
          afterEnd ending { s with train.failed := true, link.sending := none } := fun ending hend => by
        rw [endTry_cutShort hcut htail hend]
        exact congrArg (afterEnd ending) (hfail s.link)
      refine ⟨⟨_, by rw [hexec, htry _ (by simp)], ?_⟩, by rw [hexec, htry _ (by simp)]; rfl,
        by rw [hexec, htry _ (by simp)]; rfl⟩
      exact hret rfl rfl rfl rfl rfl
    · have hkinds : o.kind.isTrain = true ∧ o.kind ≠ .trainTail := by rcases hk with h | h <;> rw [h] <;> decide
      obtain ⟨v, hv, hst', hentries, hsending, hfailed, hlength, hrun⟩ :=
        acceptTry_full (e := e) (s := { s with link.clashRun := 0, link.unheardRun := 0 }) he hob hx hf hkinds.1 hkinds.2 hrx
      have hx' := map_supersedeRoll_offBus hx
      have hslots : trySlots o false true (.frameEnd .close) s = reportUnheard (busToIdle v) := by
        rw [trySlots_accepted (by simp [senderAccepts])]
        exact congrArg reportUnheard hv
      have hidle : (idleBus v).station = s.station := hst'
      have hready := trainReturn_ready (s := idleBus v) (e := e) (counted := true)
        (withdrawnOnReturn_of_member (by rw [hidle]; exact hst)) (fun _ => by rw [hidle]; exact hlimit)
      have hback := hready.trans (readyAgain_of_split true (s := { idleBus v with
        train.composer := none, train.failed := false }) hentries hob hx')
      have hreturn := (busToIdle_of_failed hfailed (onBusEntry_of_split hentries hob hx') hf).trans hback
      refine ⟨busToIdle v, ?_, ?_⟩
      · rw [hexec, endTry_slots]
        refine congrArg Host.Outcome.next (hslots.trans (reportUnheard_of_idles (busToIdle_idles v) ?_))
        rw [hrun]
        exact (by decide : 0 < 4)
      · rw [hreturn]
        refine ⟨rfl, hsending, rfl, hlength, ?_⟩
        have hsame : supersedeRoll { e with onBus := false, retries := e.retries + 1 } =
            { e with onBus := false, retries := e.retries + 1 } := if_neg (by rw [hf]; decide)
        show _ = (older ++ { e with onBus := false, retries := e.retries + 1 } :: younger).map supersedeRoll
        rw [List.map_append, List.map_cons, hsame]
        rfl
    · have hlost : (o.kind == .trainClaim || o.kind == .trainTail) = false := by
        rw [hk]
        rfl
      have hready := trainReturn_ready (s := { s with link.chain := false, link.sending := none }) (counted := false)
        (withdrawnOnReturn_of_member (e := e) hst) (fun h => by cases h)
      have hreturn : returnTry false { s with link.chain := false } =
          trainReturn false e { s with link.chain := false, link.sending := none } :=
        (returnTry_some (s := { s with link.chain := false }) false hhead).trans (if_pos hf)
      rw [hexec, endTry_lost hb hi]
      unfold tryLost
      rw [hlost]
      refine congrArg Host.Outcome.next (hreturn.trans (hready.trans ?_))
      rw [readyAgain_of_split false (s := { s with
        link.chain := false, link.sending := none, train.composer := none, train.failed := false }) he hob hx]
      rfl
  · intro hfailed hs hr
    refine ⟨fun hbus => ?_, fun hbus sampled => ⟨?_, ?_, fun hrun hveto f otherVeto hread => ?_⟩⟩
    · refine ⟨busToIdle s, congrArg Host.Outcome.next ((powered_high busIdleReturn hp).trans (if_pos ⟨hr, hbus⟩)), ?_⟩
      exact hret rfl rfl hs rfl hfailed
    · obtain ⟨hstall, -⟩ := exec_cutFrame hp hr (.inr (.inl hbus)) sampled
      refine ⟨_, hstall true, ?_⟩
      rw [if_neg (by simp [hs])]
      exact hret rfl rfl hs rfl hfailed
    · obtain ⟨-, hbreak⟩ := exec_cutFrame hp hr (.inr (.inl hbus)) sampled
      refine ⟨_, hbreak true, ?_⟩
      rw [if_neg (by simp [hs])]
      exact hret rfl rfl hs rfl hfailed
    · obtain ⟨u, hslots, h1, h2, h3, h4, h5⟩ := slotsOf_close (s := { s with tx.offered := none }) f otherVeto hveto
      refine ⟨_, exec_frameReceive ⟨hp, hr, hs, .inr (.inl hbus), hrun⟩ hread otherVeto .close, ?_⟩
      rw [hslots]
      exact hret h1 h2 (h3.trans hs) h4 (h5.trans hfailed)

end Sys2Proof.Machine
end

/-! # Relinking: the obligation (6.1) -/

section
namespace Sys2Proof.Machine

open Sys2Proof (Byte BusFrame FrameEnd TryEnd Instr)

/-- The claims left to send begin with the lowest claim above the last that has holders (R109). -/
theorem laterClaims_cons {s : State} {last : Option Nat} {b : Nat} (hb : b < 64) (hheld : (claimAt s b).holders ≠ [])
    (habove : ∀ l ∈ last, l < b) (hfirst : ∀ a < b, (∀ l ∈ last, l < a) → (claimAt s a).holders = []) :
    ∃ more, laterClaims last s = b :: more := by
  have hlast : ∀ a, notAbove last a = false ↔ ∀ l ∈ last, l < a := fun a => by
    rw [← Bool.not_eq_true, notAbove_iff]
    simp
  have hfind : (List.range 64).find? (fun c => !(claimAt s c).holders.isEmpty && !notAbove last c) = some b := by
    refine List.find?_range_eq_some.mpr ⟨?_, List.mem_range.mpr hb, fun a ha => ?_⟩
    · simp [hheld, (hlast b).mpr habove]
    · by_cases hla : notAbove last a = false
      · simp [hfirst a ha ((hlast a).mp hla)]
      · simp [Bool.not_eq_false _ ▸ hla]
  have hhead : (laterClaims last s).head? = some b := (List.head?_filter ..).trans hfind
  cases hl : laterClaims last s with
  | nil =>
    rw [hl] at hhead
    cases hhead
  | cons a more =>
    rw [hl] at hhead
    exact ⟨more, by rw [Option.some.inj hhead]⟩

theorem nextTrainFrame_tail {c : Composer} {s : State} (h : c.accepted = c.k) :
    nextTrainFrame c s = (⟨.trainTail, digestBytes (digest s.replica)⟩, c) := by
  unfold nextTrainFrame
  rw [if_pos h]

theorem nextTrainFrame_claim {c : Composer} {s : State} {b : Nat} {more : List Nat} (h : c.accepted ≠ c.k)
    (hl : laterClaims c.lastClaim s = b :: more) :
    nextTrainFrame c s = (⟨.trainClaim, claimBytes (claimFields b s)⟩, { c with lastClaim := some b }) := by
  unfold nextTrainFrame
  rw [if_neg h, hl]

/-- The composer counts the claims accepted (R108). -/
theorem count_eq (c : Composer) (k : FrameKind) :
    c.count k = ⟨c.k, if k = .trainClaim then c.accepted + 1 else c.accepted, c.lastClaim⟩ := by
  unfold Composer.count
  split <;> rfl

section
variable {s : State} {o : OwnFrame} {e : TxEntry}

/-- The acceptance of an own frame leaves a TRAIN-HEAD's entry ON_BUS. -/
theorem onBusEntry_acceptOwn (he : onBusEntry s = some e) (hf : e.frame = .trainHead) (binding : Option Nat) :
    onBusEntry (acceptOwn o binding s) = some e := by
  have hmap : onBusEntry (acceptOwn o binding s) = (onBusEntry s).map supersedeRoll := by
    show (s.tx.entries.map supersedeRoll).find? _ = _
    rw [List.find?_map]
    congr 2
    funext x
    dsimp only [Function.comp, supersedeRoll]
    split <;> rfl
  rw [hmap, he]
  exact congrArg some (if_neg (by rw [hf]; decide))

theorem acceptTry_relink {c : Composer} {ending : FrameEnd} (he : onBusEntry s = some e) (htrain : o.kind.isTrain = true)
    (htail : o.kind ≠ .trainTail) (hend : ending = .close ∨ ending = .relink) (hrx : s.apply.rx.length < 3)
    (hc : s.train.composer = some c) : acceptTry o (.frameEnd ending) s =
      relink (c.count o.kind) (acceptOwn o none { s with link.sending := none }) := by
  have hphase : ownEndPhase (.frameEnd ending) = true := by rcases hend with rfl | rfl <;> rfl
  have hlength : (acceptOwn o none { s with link.sending := none }).apply.rx.length = s.apply.rx.length + 1 :=
    List.length_append
  have hroom : (acceptOwn o none { s with link.sending := none }).apply.rx.length < Config.rxSize := by
    rw [hlength]
    exact Nat.succ_lt_succ hrx
  have hrelink : relinksWith (.frameEnd ending) (acceptOwn o none { s with link.sending := none }) = some c :=
    (if_pos ⟨hphase, hroom⟩).trans hc
  unfold acceptTry acceptTrain
  rw [he]
  dsimp only
  rw [if_pos htrain, if_neg htail, hrelink]

theorem acceptTry_tail (he : onBusEntry s = some e) (hk : o.kind = .trainTail) (ending : TryEnd) :
    acceptTry o ending s =
      afterOwn ending { acceptOwn o none { s with link.sending := none } with train.composer := none } := by
  unfold acceptTry acceptTrain
  rw [he]
  dsimp only
  rw [if_pos (by rw [hk]; rfl), if_pos hk]

/-- What the acceptance of a TRAIN-TAIL leaves at its source (R108, R149). -/
structure TailAccepted (s : State) (o : OwnFrame) (e : TxEntry) (t : State) : Prop where
  sending : t.link.sending = none
  composer : t.train.composer = none
  failed : t.train.failed = false
  replica : t.replica = s.replica
  head : onBusEntry t = some e
  queued : ∃ r, t.apply.rx = s.apply.rx ++ [r] ∧ r.kind = .trainTail ∧ r.payload = o.payload ∧ r.own = true

/-- The TRAIN-TAIL is accepted, and its CLOSE or its stall ends the frame. -/
theorem acceptTry_tail_accepted (he : onBusEntry s = some e) (hf : e.frame = .trainHead) (hk : o.kind = .trainTail)
    (hfailed : s.train.failed = false) :
    ∃ v, (∀ ending, acceptTry o ending s = afterOwn ending v) ∧ v.train.failed = false ∧ TailAccepted s o e v ∧
      TailAccepted s o e (idleBus v) ∧ v.link.unheardRun = s.link.unheardRun := by
  have hhead := onBusEntry_acceptOwn (s := { s with link.sending := none }) (o := o) he hf none
  exact ⟨_, acceptTry_tail he hk, hfailed, ⟨rfl, rfl, hfailed, rfl, hhead, _, rfl, hk, rfl, rfl⟩,
    ⟨rfl, rfl, hfailed, rfl, hhead, _, rfl, hk, rfl, rfl⟩, rfl⟩

theorem TailAccepted.congr {s' t : State} (h : TailAccepted s' o e t) (hr : s'.replica = s.replica)
    (ha : s'.apply = s.apply) : TailAccepted s o e t := by
  obtain ⟨h1, h2, h3, h4, h5, h6⟩ := h
  exact ⟨h1, h2, h3, h4.trans hr, h5, ha ▸ h6⟩

/-- A TRAIN-TAIL whose frame stalls after a veto slot sampled high is accepted all the same (R149, R150). -/
theorem endTry_tail_stalled (he : onBusEntry s = some e) (hf : e.frame = .trainHead) (hk : o.kind = .trainTail)
    (hfailed : s.train.failed = false) (linesHigh : Bool) :
    ∃ t, endTry o (sentBits s ++ [true]) (.stalled linesHigh) s = t ∧ TailAccepted s o e t ∧
      t.link.bus = if linesHigh then .idle else .busy := by
  obtain ⟨v, hv, hvf, hacc, hidle, -⟩ := acceptTry_tail_accepted (s := countTail s) he hf hk hfailed
  have hend : endTry o (sentBits s ++ [true]) (.stalled linesHigh) s = afterStall linesHigh v := by
    rw [endTry_tail hk (by simp), hv]
    rfl
  refine ⟨_, hend, ?_⟩
  cases linesHigh with
  | true =>
    have hbus : afterStall true v = idleBus v := busToIdle_of_not_failed hvf
    rw [hbus]
    exact ⟨hidle.congr rfl rfl, rfl⟩
  | false =>
    obtain ⟨h1, h2, h3, h4, h5, h6⟩ := hacc
    exact ⟨⟨h1, h2, h3, h4, h5, h6⟩, rfl⟩

end

/-- Settles O36: after its acceptance the source composes the next frame of the train, or ends it after the tail. -/
theorem trainSourceRelinks : Obligations.TrainSourceRelinks := by
  intro s o e c hp hs he hf hc hfailed own
  have hexec := exec_tryOutcome hp hs
  constructor
  · intro heardLow ending hheard hend hk hrx
    have hlists : heardLow = true ∨ listsAnother s = false := hheard.imp_right listsAnother_eq_false
    have haccepts : senderAccepts o.kind false heardLow s = true := by
      rcases hlists with h | h <;> simp [senderAccepts, h]
    have hcount : countSlots false heardLow s = { s with link.clashRun := 0, link.unheardRun := 0 } := by
      rcases hlists with h | h <;> simp [countSlots, h]
    have hkinds : o.kind.isTrain = true ∧ o.kind ≠ .trainTail := by rcases hk with h | h <;> rw [h] <;> decide
    have htry := acceptTry_relink (s := { s with link.clashRun := 0, link.unheardRun := 0 }) (ending := ending) he hkinds.1
      hkinds.2 hend hrx hc
    have hhead := onBusEntry_acceptOwn (o := o)
      (s := { s with link.clashRun := 0, link.unheardRun := 0, link.sending := none }) he hf none
    refine ⟨relink (c.count o.kind) (acceptOwn o none { s with
        link.clashRun := 0, link.unheardRun := 0, link.sending := none }), ?_, ?_⟩
    · rw [hexec, endTry_slots, Bool.not_true, Bool.not_not, trySlots_accepted haccepts, hcount, htry]
      exact congrArg Host.Outcome.next (reportUnheard_of_below (by decide : 0 < 4))
    · rw [count_eq]
      refine ⟨rfl, rfl, rfl, rfl, hhead, hfailed, ⟨_, rfl, rfl, rfl, rfl, rfl, rfl⟩, fun hn => ?_, fun b hb hn hheld habove hfirst => ?_⟩
      · have hnext := nextTrainFrame_tail (c := ⟨c.k, if o.kind = .trainClaim then c.accepted + 1 else c.accepted, c.lastClaim⟩)
          (s := acceptOwn o none { s with link.clashRun := 0, link.unheardRun := 0, link.sending := none }) hn
        exact ⟨congrArg (fun x : OwnFrame × Composer => some x.1) hnext, congrArg (fun x : OwnFrame × Composer => some x.2) hnext⟩
      · obtain ⟨more, hl⟩ := laterClaims_cons
          (s := acceptOwn o none { s with link.clashRun := 0, link.unheardRun := 0, link.sending := none }) hb hheld habove
          hfirst
        have hnext := nextTrainFrame_claim (c := ⟨c.k, if o.kind = .trainClaim then c.accepted + 1 else c.accepted, c.lastClaim⟩)
          hn hl
        exact ⟨congrArg (fun x : OwnFrame × Composer => some x.2) hnext, congrArg (fun x : OwnFrame × Composer => some x.1) hnext⟩
  · intro hk accepted
    have haccepted : ∀ t, TailAccepted s o e t → accepted t := fun t ⟨h1, h2, h3, h4, h5, h6⟩ => ⟨h1, h2, h3, h4, h5, h6⟩
    constructor
    · intro heardHigh hrun
      obtain ⟨v, hv, hvf, -, hidle, hunheard⟩ := acceptTry_tail_accepted (s := countSlots false (!heardHigh) s) he hf hk hfailed
      have hbus : busToIdle v = idleBus v := busToIdle_of_not_failed hvf
      refine ⟨idleBus v, ?_, haccepted _ ?_, rfl, rfl⟩
      · rw [hexec, endTry_slots, Bool.not_true, trySlots_accepted (by simp [senderAccepts, hk]), hv]
        refine congrArg Host.Outcome.next ((congrArg reportUnheard hbus).trans (reportUnheard_of_below ?_))
        have hsame : (idleBus v).link.unheardRun = v.link.unheardRun := rfl
        rw [hsame, hunheard, countSlots_unheardRun]
        rcases hrun with rfl | hrun
        · exact (by decide : 0 < 4)
        · cases heardHigh <;> cases listsAnother s <;> simp <;> omega
      · exact hidle.congr rfl rfl
    · intro linesHigh
      constructor
      · obtain ⟨t, ht, hacc, hbus⟩ := endTry_tail_stalled (s := s) he hf hk hfailed linesHigh
        exact ⟨t, by rw [hexec, ht], haccepted t hacc, hbus⟩
      · intro hr hb
        obtain ⟨t, ht, hacc, hbus⟩ := endTry_tail_stalled (s := { s with tx.offered := none }) he hf hk hfailed linesHigh
        refine ⟨t, ?_, haccepted t (hacc.congr rfl rfl), hbus⟩
        rw [(exec_cutFrame hp hr (.inr hb) _).1, if_pos (by rw [hs]; rfl)]
        exact congrArg Host.Outcome.next ((tryOutcome_of_sending (s := { s with tx.offered := none }) hs _ _).trans ht)

end Sys2Proof.Machine
end

/-! # The end of an incomplete run: the obligation (6.5) -/

section
namespace Sys2Proof.Machine

open Sys2Proof (Byte BusFrame FrameEnd TryEnd Instr)

/-- A listed value that the change leaves listed is read changed. -/
theorem Table.get_map_of_ne {α : Type} [DecidableEq α] {d : α} {f : Nat → α → α} {k : Nat} :
    ∀ {t : Table α}, f k d = d → f k (Table.get d t k) ≠ d → Table.get d (Table.map d f t) k = f k (Table.get d t k)
  | [], hd, hne => absurd hd hne
  | (j, v) :: t, hd, hne => by
    unfold Table.map
    by_cases hj : j = k
    · subst hj
      have hget : Table.get d ((j, v) :: t) j = v := if_pos rfl
      rw [hget] at hne ⊢
      rw [if_neg hne]
      exact if_pos rfl
    · have hget : Table.get d ((j, v) :: t) k = Table.get d t k := if_neg hj
      rw [hget] at hne ⊢
      have ih := Table.get_map_of_ne hd hne
      split
      · exact ih
      · exact (if_neg hj).trans ih

/-- The clearing of the table leaves a tag in use but for its latch (R75). -/
theorem clearTable_tagAt_inUse {s : State} {n : Nat} (h : (tagAt s n).inUse = true) :
    tagAt (clearTable s) n = { tagAt s n with warnLatch := false } :=
  Table.get_map_of_ne (d := Tag.free) (f := fun _ (v : Tag) => { v with warnLatch := false }) rfl fun hfree => by
    have hoff := congrArg Tag.inUse hfree
    exact absurd (h.symm.trans hoff) (by decide : true ≠ false)

theorem queueInternal_noticesStay (s : State) (f : TxFrame) : NoticesStay s (queueInternal s f) := .of_notices (by simp)

theorem enterEntering_noticesStay (cause : StateCause) (s : State) : NoticesStay s (enterEntering cause s) := by
  unfold enterEntering
  dsimp only
  intro m hm h
  unfold postState
  refine postUnreserved_noticesStay _ _ m hm ?_
  exact queueInternal_noticesStay _ _ m hm h

theorem enterAfresh_noticesStay (cause : StateCause) (s : State) : NoticesStay s (enterAfresh cause s) := by
  have h1 : NoticesStay s { s with station.attempts := 1 } := .of_notices rfl
  exact h1.trans (enterEntering_noticesStay cause _)

/-- What the return to ENTERING leaves and what it sets (R91, R97). -/
theorem enterAfresh_effect (cause : StateCause) (s : State) :
    (enterAfresh cause s).replica = s.replica ∧ (enterAfresh cause s).watch.watches = [] ∧
      (enterAfresh cause s).watch.roll = none ∧ (enterAfresh cause s).tags = s.tags ∧
      (enterAfresh cause s).train = s.train ∧ (enterAfresh cause s).apply = s.apply ∧
      (enterAfresh cause s).station = { s.station with state := .entering, attempts := 1, lastCause := cause } ∧
      (internalHeld s < 3 → keyPresent .enter (enterAfresh cause s) = true) := by
  refine ⟨by simp [enterAfresh], by simp [enterAfresh, enterEntering, postState], by simp [enterAfresh, enterEntering, postState],
    by simp [enterAfresh, enterEntering, postState], by simp [enterAfresh, enterEntering, postState],
    by simp [enterAfresh, enterEntering, postState],
    by simp [enterAfresh, enterEntering, postState, setState], fun hheld => ?_⟩
  unfold enterAfresh enterEntering postState
  have hkey := keyPresent_queueInternal (s := setState .entering { s with
    station.attempts := 1
    tx.entries := s.tx.entries.filter keptAtEntering
    watch.watches := []
    watch.roll := none
    watch.listen := none
    watch.copyWait := none }) .enter
    (lt_of_le_of_lt (internalHeld_filter_le keptAtEntering (s := s) rfl rfl) hheld)
  simpa [keyPresent] using hkey

/-- The state in which the end of an incomplete run acts once the train frames are applied (R121). -/
theorem exec_trainRunEnd {s : State} (hp : Powered s) (hrun : s.train.run = .ended)
    (hwaits : ∀ e ∈ s.apply.rx, e.kind.isTrain = false ∧ e.loads = false) :
    exec .trainRunEnd s = .next (endRun s) := by
  have hnone : trainFrameWaits s = false := List.any_eq_false.mpr fun e he => by simp [(hwaits e he).1]
  exact congrArg Host.Outcome.next ((powered_high settleRun hp).trans (if_pos ⟨hrun, hnone⟩))

theorem not_isLoading {t : State} (hp : t.train.partialCopy = false) (hrx : ∀ e ∈ t.apply.rx, e.loads = false) :
    isLoading t = false := by
  rw [isLoading, hp, Bool.false_or]
  exact List.any_eq_false.mpr fun e he => by simp [hrx e he]

/-- Settles O40: the copy is discarded, with the table, and a founder ends its tags and enters again. -/
theorem incompleteRunEnds : Obligations.IncompleteRunEnds := by
  intro s hp hrun hwaits
  have hexec := exec_trainRunEnd hp hrun hwaits
  have hloads : ∀ e ∈ s.apply.rx, e.loads = false := fun e he => (hwaits e he).2
  refine ⟨fun hno => ?_, fun hcopy hst hdue => ?_, fun hcopy hst => ?_⟩
  · rw [hexec]
    exact congrArg Host.Outcome.next (if_neg (by simp [hno]))
  · have hdiscard : endRun s = clearTable (stopLoading { s with train.run := .none }) := by
      have hnotDue : copyWaitDue (clearTable (stopLoading { s with train.run := .none })) = false := by
        have hsame : copyWaitDue (clearTable (stopLoading { s with train.run := .none })) = copyWaitDue s := rfl
        rw [hsame, copyWaitDue]
        exact beq_eq_false_iff_ne.mpr hdue
      unfold endRun discardCopy
      dsimp only
      rw [if_pos hcopy, hst]
      dsimp only
      rw [hnotDue]
      rfl
    refine ⟨_, hexec, ?_⟩
    rw [hdiscard]
    refine ⟨rfl, rfl, rfl, rfl, rfl, not_isLoading rfl hloads, fun r hr => ?_⟩
    obtain ⟨r', _, rfl⟩ := Option.map_eq_some_iff.mp hr
    rfl
  · have hdiscard : endRun s =
        enterAfresh .copy (endTags .copy (clearTable (stopLoading { s with train.run := .none }))) := by
      unfold endRun discardCopy
      dsimp only
      rw [if_pos hcopy, hst]
    have htable : HoldsLess s (clearTable (stopLoading { s with train.run := .none })) :=
      (HoldsLess.of_eq (s := s) (t := stopLoading { s with train.run := .none }) rfl rfl rfl).trans (clearTable_holdsLess _)
    have htags : ∀ n, (tagAt s n).inUse = true →
        tagAt (clearTable (stopLoading { s with train.run := .none })) n = { tagAt s n with warnLatch := false } :=
      fun n h => clearTable_tagAt_inUse (s := stopLoading { s with train.run := .none }) h
    have hcleared : (clearTable (stopLoading { s with train.run := .none })).replica = ⟨[], s.replica.roster⟩ ∧
        (clearTable (stopLoading { s with train.run := .none })).train.partialCopy = false ∧
        (clearTable (stopLoading { s with train.run := .none })).apply.rx = s.apply.rx ∧
        (clearTable (stopLoading { s with train.run := .none })).station = s.station := ⟨rfl, rfl, rfl, rfl⟩
    refine ⟨_, hexec, ?_⟩
    rw [hdiscard]
    generalize clearTable (stopLoading { s with train.run := .none }) = u at htable htags hcleared ⊢
    obtain ⟨hreplica, hpartial, hrx, hstation⟩ := hcleared
    obtain ⟨h1, h2, h3, h4, h5, h6, h7, h8⟩ := enterAfresh_effect .copy (endTags .copy u)
    have hnoTags : NoTags (enterAfresh .copy (endTags .copy u)) := fun n hn => by
      rw [tagAt, h4]
      exact endTags_noTags .copy u n hn
    refine ⟨by rw [h1, endTags_replica, hreplica], h2, h3, hnoTags, not_isLoading ?_ ?_, ?_, fun hheld => h8 ?_, fun n hn hu => ?_⟩
    · rw [h5, endTags_train, hpartial]
    · rw [h6, endTags_apply, hrx]
      exact hloads
    · rw [h7, endTags_station, hstation]
    · exact lt_of_le_of_lt (internalHeld_le (htable.trans (endTags_holdsLess _ _))) hheld
    · have htag := htags n hu
      have hend := endTags_lost_cancelled .copy (enterAfresh_noticesStay .copy (endTags .copy u)) hn (by rw [htag]; exact hu)
      rw [htag] at hend
      exact hend

end Sys2Proof.Machine
end

/-! # Opening a frame: the obligations (7.2, 7.3, 7.8, 8.2) -/

section
namespace Sys2Proof.Machine

open Sys2Proof (Byte BusFrame FrameEnd TryEnd Instr)

/-! ## The queue's order (R125) -/

theorem code_lt (k : FrameKind) : k.code < 16 := by cases k <;> decide

theorem mem_queueOrder {es : List TxEntry} {x : TxEntry} : x ∈ queueOrder es ↔ x ∈ es := by
  simp only [queueOrder, List.mem_flatMap, List.mem_range, List.mem_filter, beq_iff_eq]
  exact ⟨fun ⟨_, _, h, _⟩ => h, fun h => ⟨_, code_lt _, h, rfl⟩⟩

theorem mem_readyEntries {s : State} {x : TxEntry} : x ∈ readyEntries s ↔ x ∈ s.tx.entries ∧ x.onBus = false := by
  simp [readyEntries, List.mem_filter]

/-- The entry whose kind is lowest, and which is the oldest of it, is the first of those that `p` admits. -/
theorem find?_queueOrder {p : TxEntry → Bool} {older younger : List TxEntry} {e : TxEntry} (he : p e = true)
    (holder : ∀ x ∈ older, p x = true → e.frame.kind.code < x.frame.kind.code)
    (hyounger : ∀ x ∈ younger, p x = true → e.frame.kind.code ≤ x.frame.kind.code) :
    (queueOrder (older ++ e :: younger)).find? p = some e := by
  have hlow : ∀ k < e.frame.kind.code,
      ∀ x ∈ (older ++ e :: younger).filter (fun x => x.frame.kind.code == k), p x = false := by
    intro k hk x hx
    obtain ⟨hmem, hcode⟩ := List.mem_filter.mp hx
    have hcode : x.frame.kind.code = k := beq_iff_eq.mp hcode
    refine Bool.eq_false_iff.mpr fun hpx => ?_
    rcases List.mem_append.mp hmem with h | h
    · have := holder x h hpx
      omega
    · rcases List.mem_cons.mp h with rfl | h
      · omega
      · have := hyounger x h hpx
        omega
  have hsplit : List.range 16 = List.range e.frame.kind.code ++
      e.frame.kind.code :: (List.range 16).drop (e.frame.kind.code + 1) := by
    have htake : (List.range 16).take e.frame.kind.code = List.range e.frame.kind.code := by
      rw [List.take_range, Nat.min_eq_left (Nat.le_of_lt (code_lt _))]
    have hdrop := List.drop_eq_getElem_cons (l := List.range 16) (i := e.frame.kind.code) (by simpa using code_lt _)
    rw [List.getElem_range] at hdrop
    rw [← htake, ← hdrop, List.take_append_drop]
  refine List.find?_eq_some_iff_append.mpr ⟨he, ?_⟩
  rw [queueOrder, hsplit, List.flatMap_append, List.flatMap_cons, List.filter_append, List.filter_cons_of_pos (by simp)]
  refine ⟨(List.range e.frame.kind.code).flatMap (fun k => (older ++ e :: younger).filter (fun x => x.frame.kind.code == k)) ++
    older.filter (fun x => x.frame.kind.code == e.frame.kind.code), _, by simp only [List.append_assoc, List.cons_append]; rfl, fun x hx => ?_⟩
  rcases List.mem_append.mp hx with h | h
  · obtain ⟨k, hk, hx⟩ := List.mem_flatMap.mp h
    simpa using hlow k (List.mem_range.mp hk) x hx
  · obtain ⟨hmem, hcode⟩ := List.mem_filter.mp h
    have hcode : x.frame.kind.code = e.frame.kind.code := beq_iff_eq.mp hcode
    rw [Bool.not_eq_true', Bool.eq_false_iff]
    intro hpx
    have := holder x hmem hpx
    omega

/-! ## Idle time (R138) -/

/-- The state in which a station at its gap looks at its queue. -/
abbrev afterIdle (elapsed : Nat) (s : State) : State := { s with link.idleCycles := idleAfter elapsed s }

theorem exec_frameOpen {s : State} (hp : Powered s) (hrun : s.train.run ≠ .ended) (hb : s.link.bus = .idle) (elapsed : Nat)
    (pull : Bool) : exec (.frameOpen elapsed pull) s = .next (openFrame pull (afterIdle elapsed s)) := by
  have hcount : countIdle (elapsed * cyclesPerBit s) s = afterIdle elapsed s := if_pos hb
  refine congrArg Host.Outcome.next ((powered_high _ hp).trans ?_)
  unfold frameOpen
  rw [hcount, settleRun_of_run_ne (s := afterIdle elapsed s) hrun]

theorem openFrame_of_not (pull : Bool) {s : State} (h : mayOpen s = false) : openFrame pull s = s := if_neg (by simp [h])

theorem mayOpen_iff {s : State} : mayOpen s = true ↔ s.link.bus = .idle ∧ s.station.state.sends = true ∧
    s.link.sending = none ∧ s.apply.rx = [] ∧ 10 * cyclesPerBit s ≤ s.link.idleCycles ∧ readyEntries s ≠ [] := by
  simp only [mayOpen, idleFor, Bool.and_eq_true, beq_iff_eq, decide_eq_true_eq, Option.isNone_iff_eq_none,
    List.isEmpty_iff, Bool.not_eq_true', List.isEmpty_eq_false_iff, and_assoc]
  exact Iff.rfl

/-- Where no READY entry is stale, revalidation changes nothing. -/
theorem revalidate_of_fresh {s : State} (h : ∀ x ∈ s.tx.entries, ¬ Stale x s) : revalidate s = s :=
  foldl_eq_self fun x hx => if_neg fun hstale =>
    h x (mem_readyEntries.mp (mem_queueOrder.mp hx)).1 ((isStale_iff x s).mp hstale.2)

/-! ## The offer and the pull (R127, R135, R139) -/

theorem fairKind_iff {k : FrameKind} : fairKind k = true ↔ 9 ≤ k.code := decide_eq_true_iff

theorem offer_of_first {s : State} {e : TxEntry} (h : firstEligible s = some e)
    (hgap : e.frame.kind.code < 9 ∨ s.tx.fairGap = false ∨ 20 * cyclesPerBit s ≤ s.link.idleCycles) :
    offer s = { s with tx.offered := some e.frame } := by
  have hopen : (fairKind e.frame.kind && s.tx.fairGap && !idleFor Config.fairGap s) = false := by
    rcases hgap with h | h | h
    · rw [show fairKind e.frame.kind = false from decide_eq_false (Nat.not_le.mpr h)]
      rfl
    · rw [h, Bool.and_false, Bool.false_and]
    · rw [show idleFor Config.fairGap s = true from decide_eq_true h, Bool.not_true, Bool.and_false]
  unfold offer
  rw [h]
  dsimp only
  rw [hopen]
  rfl

/-- While the fair gap holds the first eligible entry back, nothing is offered (R135). -/
theorem offer_of_held {s : State} (hfair : s.tx.fairGap = true) (hidle : s.link.idleCycles < 20 * cyclesPerBit s)
    (hkinds : ∀ x ∈ s.tx.entries, eligible s.station.number s.station.state x.frame = true → 9 ≤ x.frame.kind.code) :
    offer s = { s with tx.offered := none } := by
  unfold offer
  cases h : firstEligible s with
  | none => rfl
  | some e =>
    have hmem := mem_readyEntries.mp (mem_queueOrder.mp (List.mem_of_find?_eq_some h))
    have hel : eligible s.station.number s.station.state e.frame = true :=
      List.find?_some (p := fun e : TxEntry => eligible s.station.number s.station.state e.frame) h
    have hkind : fairKind e.frame.kind = true := fairKind_iff.mpr (hkinds e hmem.1 hel)
    have hnot : idleFor Config.fairGap s = false := decide_eq_false (Nat.not_le.mpr hidle)
    dsimp only
    rw [hkind, hfair, hnot]
    rfl

theorem pullOffered_of_none {s : State} (h : s.tx.offered = none) : pullOffered s = s := by
  unfold pullOffered offeredEntry
  rw [h]
  dsimp only
  rw [← h]

/-- What a frame is composed of does not depend on the lines, the offer or the queue. -/
theorem compose_congr (f : TxFrame) {s t : State} (hst : t.station = s.station) (hr : t.replica = s.replica) :
    compose f t = compose f s := by
  cases f with
  | roll joining => cases joining <;> simp [compose, hr]
  | _ => simp [compose, ownSerial, headFields, laterClaims, occupancy, claimAt, hst, hr]

section
variable {s : State} {older younger : List TxEntry} {e : TxEntry}

theorem firstEligible_of_split (he : s.tx.entries = older ++ e :: younger) (hob : e.onBus = false)
    (hel : eligible s.station.number s.station.state e.frame = true)
    (holder : ∀ x ∈ older, x.onBus = false → eligible s.station.number s.station.state x.frame = true →
      e.frame.kind.code < x.frame.kind.code)
    (hyounger : ∀ x ∈ younger, x.onBus = false → eligible s.station.number s.station.state x.frame = true →
      e.frame.kind.code ≤ x.frame.kind.code) : firstEligible s = some e := by
  have hready : readyEntries s = older.filter (fun x => !x.onBus) ++ e :: younger.filter (fun x => !x.onBus) := by
    rw [readyEntries, he, List.filter_append, List.filter_cons_of_pos (by simp [hob])]
  rw [firstEligible, hready]
  exact find?_queueOrder hel
    (fun x hx hp => holder x (List.mem_filter.mp hx).1 (by simpa using (List.mem_filter.mp hx).2) hp)
    (fun x hx hp => hyounger x (List.mem_filter.mp hx).1 (by simpa using (List.mem_filter.mp hx).2) hp)

/-- The offered entry is opened: it is the oldest READY one of its frame (R127). -/
theorem pullOffered_of_split (he : s.tx.entries = older ++ e :: younger) (hob : e.onBus = false) (hnew : e ∉ younger)
    (hel : eligible s.station.number s.station.state e.frame = true)
    (holder : ∀ x ∈ older, x.onBus = false → eligible s.station.number s.station.state x.frame = true →
      e.frame.kind.code < x.frame.kind.code) (ho : s.tx.offered = some e.frame) :
    pullOffered s = { s with
      tx.entries := older ++ { e with onBus := true } :: younger
      tx.offered := none
      tx.fairGap := if 9 ≤ e.frame.kind.code then false else s.tx.fairGap
      train.composer := if e.frame = .trainHead then some ⟨(headFields s).k, 0, none⟩ else s.train.composer
      link.sending := some (compose e.frame s)
      link.bus := .inFrame
      link.chain := false
      link.idleCycles := 0 } := by
  have hready : readyEntries s = older.filter (fun x => !x.onBus) ++ e :: younger.filter (fun x => !x.onBus) := by
    rw [readyEntries, he, List.filter_append, List.filter_cons_of_pos (by simp [hob])]
  have hentry : offeredEntry s = some e := by
    unfold offeredEntry
    rw [ho, hready]
    refine List.find?_eq_some_iff_append.mpr ⟨by simp [hel], _, _, rfl, fun x hx => ?_⟩
    obtain ⟨hmem, hoff⟩ := List.mem_filter.mp hx
    rw [Bool.not_eq_true', Bool.eq_false_iff]
    intro hpx
    obtain ⟨hframe, hxel⟩ := Bool.and_eq_true_iff.mp hpx
    have hlt := holder x hmem (by simpa using hoff) hxel
    rw [beq_iff_eq.mp hframe] at hlt
    exact Nat.lt_irrefl _ hlt
  have holder' : e ∉ older := fun h => Nat.lt_irrefl _ (holder e h hob hel)
  have hmap : ∀ l : List TxEntry, e ∉ l → l.map (fun x => if x = e then { x with onBus := true } else x) = l := by
    intro l hl
    refine (List.map_congr_left fun x hx => if_neg fun h => ?_).trans (List.map_id l)
    rw [h] at hx
    exact hl hx
  unfold pullOffered
  rw [hentry]
  dsimp only
  rw [openEntry, he, List.map_append, List.map_cons, hmap older holder', hmap younger hnew, if_pos rfl]
  unfold fairKind
  simp only [decide_eq_true_eq]

end

/-! ## Composing (Table 7-1) -/

/-- A mask over the stations lists those whose roster entry it names (R190). -/
theorem rosterMask_getLsbD (roster : Table RosterEntry) (x : RosterEntry) {d : Nat} (hd : d < 32) :
    (rosterMask roster x).getLsbD d = true ↔ Table.get .absent roster d = x := by
  have hrange : ∀ n ≤ 32, ((List.range n).foldl
      (fun m k => if Table.get .absent roster k = x then m ||| (1#32 <<< k) else m) 0#32).getLsbD d = true ↔
        d < n ∧ Table.get .absent roster d = x := by
    intro n
    induction n with
    | zero => simp
    | succ n ih =>
      intro hn
      rw [List.range_succ, List.foldl_append, List.foldl_cons, List.foldl_nil]
      have ih := ih (Nat.le_of_succ_le hn)
      have hbit : (1#32 <<< n).getLsbD d = true ↔ d = n := by
        simp only [BitVec.getLsbD_shiftLeft, BitVec.getLsbD_one, Bool.and_eq_true, decide_eq_true_eq, Bool.not_eq_true',
          decide_eq_false_iff_not]
        omega
      split
      next hx =>
        rw [BitVec.getLsbD_or, Bool.or_eq_true, ih, hbit]
        constructor
        · rintro (h | rfl)
          · exact ⟨Nat.lt_succ_of_lt h.1, h.2⟩
          · exact ⟨Nat.lt_succ_self d, hx⟩
        · intro h
          exact (Nat.lt_succ_iff_lt_or_eq.mp h.1).imp_left (fun hlt => ⟨hlt, h.2⟩)
      next hx =>
        rw [ih]
        refine and_congr_left fun h => ⟨Nat.lt_succ_of_lt, fun hlt => ?_⟩
        refine (Nat.lt_succ_iff_lt_or_eq.mp hlt).resolve_right fun hdn => hx ?_
        rw [← hdn]
        exact h
  rw [rosterMask]
  exact (hrange 32 (Nat.le_refl _)).trans (and_iff_right hd)

/-- A frame is composed as Table 7-1 gives, kind by kind (R50, R94, R109). -/
theorem compose_composed (f : TxFrame) (s : State) : Composed f s (compose f s) := by
  have hserial : ∀ c x, slotOf (claimAt s c) s.station.number = some x → ownSerial s c = x.serial := fun c x h => by
    rw [ownSerial, h]
  cases f with
  | drop d => exact rfl
  | lapse c h serial => exact rfl
  | extend c lease =>
    intro x hx
    rw [compose, hserial c x hx]
    rfl
  | yield c =>
    intro x hx
    rw [compose, hserial c x hx]
    rfl
  | trainHead =>
    refine ⟨headFields s, rfl, fun d hd => ⟨rosterMask_getLsbD _ _ hd, rosterMask_getLsbD _ _ hd⟩, ?_, rfl⟩
    have hheld : ∀ c, (!(claimAt s c).holders.isEmpty) = decide ((claimAt s c).holders ≠ []) := fun c => by
      rw [Bool.eq_iff_iff]
      simp
    show (laterClaims none s).length = _
    rw [laterClaims_none, carriedBelow]
    simp only [hheld]
  | ask c mode noWait lease => exact rfl
  | cancel c => exact rfl
  | enter => exact rfl
  | roll joining => cases joining <;> exact rfl

/-- Settles O26: the first eligible entry is offered and pulled at once; a held one is not offered. -/
theorem firstEligibleEntryOpensAfterItsGap : Obligations.FirstEligibleEntryOpensAfterItsGap := by
  refine ⟨fun s elapsed older younger e ho => ⟨?_, ?_⟩, ?_, compose_composed⟩
  · rintro ⟨hp, hb, hsends, hs, hrx, hrun⟩ he hob hnew hfresh hel holder hyounger hgap hfair
    have hmay : mayOpen (afterIdle elapsed s) = true := mayOpen_iff.mpr ⟨hb, hsends, hs, hrx, hgap, fun h => by
      have hmem : e ∈ readyEntries (afterIdle elapsed s) := mem_readyEntries.mpr ⟨by
        show e ∈ s.tx.entries
        rw [he]
        simp, hob⟩
      rw [h] at hmem
      cases hmem⟩
    have hopen : openFrame true (afterIdle elapsed s) = pullOffered (offer (revalidate (afterIdle elapsed s))) := by
      have hnone : (afterIdle elapsed s).tx.offered.isSome = false := by rw [show (afterIdle elapsed s).tx.offered = none from ho]; rfl
      unfold openFrame
      rw [if_pos hmay, hnone, if_neg (by simp), if_pos rfl]
    have hfirst := firstEligible_of_split (s := afterIdle elapsed s) he hob hel holder hyounger
    rw [exec_frameOpen hp hrun hb, hopen, revalidate_of_fresh (s := afterIdle elapsed s) hfresh,
      offer_of_first hfirst hfair,
      pullOffered_of_split (s := { afterIdle elapsed s with tx.offered := some e.frame }) he hob hnew hel holder rfl,
      compose_congr e.frame (s := s) rfl rfl]
    simp only [ho]
    rfl
  · intro hp hrun hb hwait pull
    rw [exec_frameOpen hp hrun hb, openFrame_of_not]
    refine Bool.eq_false_iff.mpr fun h => ?_
    obtain ⟨-, -, -, hrx, hidle, -⟩ := mayOpen_iff.mp h
    exact hwait.elim (fun h => h hrx) (fun h => absurd hidle (Nat.not_le.mpr h))
  · rintro s elapsed pull ⟨hp, hb, -, -, -, hrun⟩ ho hfair hfresh hkinds hidle
    rw [exec_frameOpen hp hrun hb]
    cases hmay : mayOpen (afterIdle elapsed s) with
    | false => rw [openFrame_of_not _ hmay]
    | true =>
      have hnone : { afterIdle elapsed s with tx.offered := none } = afterIdle elapsed s := by
        have hsame : (afterIdle elapsed s).tx.offered = none := ho
        rw [← hsame]
      have hoffer := (offer_of_held (s := afterIdle elapsed s) hfair hidle hkinds).trans hnone
      have hrevalidate := revalidate_of_fresh (s := afterIdle elapsed s) hfresh
      have hsome : (afterIdle elapsed s).tx.offered.isSome = false := by rw [show (afterIdle elapsed s).tx.offered = none from ho]; rfl
      unfold openFrame
      rw [if_pos hmay, hsome, if_neg (by simp), hrevalidate, hoffer, pullOffered_of_none (s := afterIdle elapsed s) ho,
        ite_self]

end Sys2Proof.Machine
end

/-! # Revalidation: the obligation (7.3) -/

section
namespace Sys2Proof.Machine

open Sys2Proof (Byte BusFrame FrameEnd TryEnd Instr)

/-- With the gap over and a READY entry, the half of an opening without a pull revalidates and offers (R127). -/
theorem exec_frameOpen_offer {s : State} {elapsed : Nat} (h : AtGap s) (hgap : 10 * cyclesPerBit s ≤ idleAfter elapsed s)
    (hready : ∃ e ∈ s.tx.entries, e.onBus = false) :
    exec (.frameOpen elapsed false) s = .next (offer (revalidate (afterIdle elapsed s))) := by
  obtain ⟨hp, hb, hsends, hs, hrx, hrun⟩ := h
  obtain ⟨e, hmem, hob⟩ := hready
  have hmay : mayOpen (afterIdle elapsed s) = true := mayOpen_iff.mpr ⟨hb, hsends, hs, hrx, hgap, fun h => by
    have he : e ∈ readyEntries (afterIdle elapsed s) := mem_readyEntries.mpr ⟨hmem, hob⟩
    rw [h] at he
    cases he⟩
  rw [exec_frameOpen hp hrun hb]
  unfold openFrame
  rw [if_pos hmay]
  rfl

/-- The removal of an internal entry, or of a YIELD, has no effect on a tag (Table 7-3). -/
theorem staleEffect_of_quiet {e : TxEntry} {s : State} (h : e.binding = none ∨ e.frame.kind = .yield) :
    staleEffect e s = s := by
  unfold staleEffect
  split
  next hf hb => simp [hf, hb, TxFrame.kind] at h
  next hf hb => simp [hf, hb, TxFrame.kind] at h
  next hf hb => simp [hf, hb, TxFrame.kind] at h
  next => rfl

/-- Staleness is read from the station and the replica. -/
theorem isStale_congr (e : TxEntry) {s t : State} (hst : t.station = s.station) (hr : t.replica = s.replica) :
    isStale e t = isStale e s := by
  unfold isStale
  cases e.frame with
  | roll joining => cases joining <;> simp [hst]
  | _ => simp [refMatches, holdsClaim, waitsOn, rosterAt, claimAt, showsJoining, copySource, hst, hr]

/-- Where no removal reaches a tag, revalidation removes the stale entries it looks at and does nothing else. -/
theorem foldl_withdrawIfStale {l : List TxEntry} :
    ∀ {s : State}, (∀ x ∈ l, isStale x s = true → x.binding = none ∨ x.frame.kind = .yield) →
      l.foldl withdrawIfStale s =
        { s with tx.entries := s.tx.entries.filter (fun x => !(l.contains x && isStale x s)) } := by
  induction l with
  | nil =>
    intro s _
    have hall : s.tx.entries.filter (fun x => !(([] : List TxEntry).contains x && isStale x s)) = s.tx.entries :=
      List.filter_eq_self.mpr fun x _ => rfl
    rw [hall]
    rfl
  | cons a l ih =>
    intro s hquiet
    have hstep : withdrawIfStale s a = { s with tx.entries := s.tx.entries.filter (fun x => !(x == a && isStale a s)) } := by
      unfold withdrawIfStale
      split
      next h =>
        rw [staleEffect_of_quiet (hquiet a (List.mem_cons_self ..) h.2), h.2]
        simp only [Bool.and_true]
        rfl
      next h =>
        have hall : s.tx.entries.filter (fun x => !(x == a && isStale a s)) = s.tx.entries := by
          refine List.filter_eq_self.mpr fun x hx => ?_
          rw [Bool.not_eq_true', Bool.eq_false_iff]
          intro hxa
          obtain ⟨hxa, hstale⟩ := Bool.and_eq_true_iff.mp hxa
          rw [beq_iff_eq.mp hxa] at hx
          exact h ⟨List.contains_iff_mem.mpr hx, hstale⟩
        rw [hall]
    have hstale : ∀ x, isStale x (withdrawIfStale s a) = isStale x s := fun x => by
      rw [hstep]
      exact isStale_congr x rfl rfl
    rw [List.foldl_cons, ih (fun x hx hs => hquiet x (List.mem_cons_of_mem a hx) (hstale x ▸ hs))]
    simp only [hstale]
    rw [hstep]
    dsimp only
    rw [List.filter_filter]
    have hboth : ∀ x : TxEntry, (!(l.contains x && isStale x s) && !(x == a && isStale a s)) =
        !((a :: l).contains x && isStale x s) := fun x => by
      rw [List.contains_cons]
      by_cases hx : x = a
      · subst hx
        cases isStale x s <;> simp
      · rw [beq_eq_false_iff_ne.mpr hx]
        simp
    rw [List.filter_congr fun x _ => hboth x]

theorem queueOrder_singleton (e : TxEntry) : queueOrder [e] = [e] := by
  have hone : queueOrder [e] = (List.range 16).flatMap fun code => if e.frame.kind.code == code then [e] else [] := by
    simp only [queueOrder, List.filter_cons, List.filter_nil]
  rw [hone]
  cases e.frame.kind <;> rfl

/-- A stale ASK alone in the queue ends its tag (R128). -/
theorem staleEffect_ask {e : TxEntry} {s : State} {n : Nat} (hk : e.frame.kind = .ask) (hb : e.binding = some n)
    (hu : (tagAt s n).inUse = true) : staleEffect e s = endTag n (.refused n .notMember) s := by
  cases hf : e.frame with
  | ask claim mode noWait lease =>
    rw [staleEffect, hf, hb]
    exact if_pos hu
  | _ => simp [hf, TxFrame.kind] at hk

/-- A stale CANCEL finds its tag HELD (R128). -/
theorem staleEffect_cancel {e : TxEntry} {s : State} {n : Nat} (hk : e.frame.kind = .cancel) (hb : e.binding = some n)
    (hheld : (tagAt s n).phase = some .held) : staleEffect e s = postUnreserved (.tooLate n) s := by
  cases hf : e.frame with
  | cancel claim =>
    rw [staleEffect, hf, hb]
    exact if_pos hheld
  | _ => simp [hf, TxFrame.kind] at hk

/-- A stale EXTEND clears the flag (R128). -/
theorem staleEffect_extend {e : TxEntry} {s : State} {n : Nat} (hk : e.frame.kind = .extend) (hb : e.binding = some n)
    (hu : (tagAt s n).inUse = true) : staleEffect e s = clearExtend n s := by
  cases hf : e.frame with
  | extend ref lease =>
    rw [staleEffect, hf, hb]
    exact if_pos hu
  | _ => simp [hf, TxFrame.kind] at hk

/-- The removal of an entry queues nothing. -/
theorem staleEffect_entries_of_empty {e : TxEntry} {s : State} (h : s.tx.entries = []) :
    (staleEffect e s).tx.entries = [] := by
  have hsub := (staleEffect_holdsLess e s).entries
  rw [h] at hsub
  exact List.map_eq_nil_iff.mp (List.sublist_nil.mp hsub)

/-- Settles O27: revalidation as one filter, or as the removal of the one entry with its effect. -/
theorem staleEntriesAreRemoved : Obligations.StaleEntriesAreRemoved := by
  intro s elapsed hgap hidle
  constructor
  · intro hready hquiet
    have hexec := exec_frameOpen_offer hgap hidle hready
    have hfold := foldl_withdrawIfStale (l := queueOrder (readyEntries (afterIdle elapsed s))) (s := afterIdle elapsed s)
      (fun x hx hs => by
        obtain ⟨hmem, hob⟩ := mem_readyEntries.mp (mem_queueOrder.mp hx)
        exact hquiet x hmem hob ((isStale_iff x s).mp (by rw [← isStale_congr x (s := s) (t := afterIdle elapsed s) rfl rfl]; exact hs)))
    refine ⟨s.tx.entries.filter (fun x => !((queueOrder (readyEntries (afterIdle elapsed s))).contains x &&
      isStale x (afterIdle elapsed s))), _, hexec, ?_, ?_, ?_⟩
    · exact List.filter_sublist
    · intro e he
      have hin : (queueOrder (readyEntries (afterIdle elapsed s))).contains e = true ↔ e.onBus = false := by
        rw [List.contains_iff_mem, mem_queueOrder, mem_readyEntries]
        exact and_iff_right he
      have hst : isStale e (afterIdle elapsed s) = true ↔ Stale e s := isStale_iff e s
      rw [List.mem_filter, Bool.not_eq_true', Bool.and_eq_false_iff, ← Bool.not_eq_true, ← Bool.not_eq_true, hin, hst,
        Bool.not_eq_false]
      exact and_iff_right he
    · unfold revalidate
      rw [hfold]
      rfl
  · intro e n he hob hb hstale hu
    have hexec := exec_frameOpen_offer hgap hidle ⟨e, by rw [he]; exact List.mem_singleton_self e, hob⟩
    have hready : queueOrder (readyEntries (afterIdle elapsed s)) = [e] := by
      have hall : readyEntries (afterIdle elapsed s) = [e] := by
        show s.tx.entries.filter _ = _
        rw [he]
        simp [hob]
      rw [hall, queueOrder_singleton]
    have hst : isStale e (afterIdle elapsed s) = true := (isStale_iff e s).mpr hstale
    have hrevalidate : revalidate (afterIdle elapsed s) = staleEffect e { afterIdle elapsed s with tx.entries := [] } := by
      have hempty : (afterIdle elapsed s).tx.entries.filter (fun x => x != e) = [] := by
        show s.tx.entries.filter _ = _
        rw [he]
        simp
      have hin : (afterIdle elapsed s).tx.entries.contains e = true := by
        show s.tx.entries.contains e = true
        rw [he]
        simp
      unfold revalidate
      rw [hready, List.foldl_cons, List.foldl_nil, withdrawIfStale, if_pos ⟨hin, hst⟩, hempty]
      rfl
    generalize hv : ({ afterIdle elapsed s with tx.entries := [] } : State) = v at hrevalidate
    have hentries : v.tx.entries = [] := by subst hv; rfl
    have htags : ∀ m, tagAt v m = tagAt s m := fun m => by subst hv; rfl
    have hnotices : v.notices = s.notices := by subst hv; rfl
    have hplaces : freePlaces v = freePlaces s := by subst hv; rfl
    refine ⟨_, hexec, ?_, ?_, fun hk hn hw hnone => ?_, fun hk hheld hroom => ?_, fun hk => ?_⟩
    · rw [hrevalidate]
      exact staleEffect_entries_of_empty hentries
    · rw [hrevalidate, offer_replica, staleEffect_replica, ← hv]
    · have hend : staleEffect e v = setTag n Tag.free (push (.refused n .notMember) v) := by
        rw [staleEffect_ask hk hb (by rw [htags]; exact hu),
          endTag_of_no_warn (fun u hu16 _ => by rw [htags]; exact hw u hu16) (by rw [hnotices]; exact hnone) rfl,
          withdrawBound_of_none]
        exact fun x hx => absurd (hentries ▸ hx) List.not_mem_nil
      rw [hrevalidate, hend, ← hnotices]
      exact ⟨rfl, tagAt_setTag_same n Tag.free _⟩
    · have hpost : staleEffect e v = push (.tooLate n) v := by
        rw [staleEffect_cancel hk hb (by rw [htags]; exact hheld), postUnreserved_of_room]
        rw [hplaces]
        exact hroom
      rw [hrevalidate, hpost, ← hnotices, ← htags]
      exact ⟨rfl, rfl⟩
    · rw [hrevalidate, staleEffect_extend hk hb (by rw [htags]; exact hu), ← hnotices, ← htags]
      exact ⟨rfl, tagAt_setTag_same n _ _⟩

end Sys2Proof.Machine
end

/-! # ASK: the decision and what it does (3.5) -/

section
namespace Sys2Proof.Machine

open Sys2Proof (Byte BusFrame FrameEnd TryEnd Instr)

/-! ## The decision in the words of R48 -/

theorem holdsClaim_iff {s : State} {c d : Nat} : holdsClaim s c d = true ↔ ∃ h ∈ (claimAt s c).holders, h.station = d := by
  simp [holdsClaim, List.any_eq_true]

theorem waitsOn_iff {s : State} {c d : Nat} : waitsOn s c d = true ↔ ∃ w ∈ (claimAt s c).waiters, w.station = d := by
  simp [waitsOn, List.any_eq_true]

theorem askMode_eq (c l : Nat) (fb : Byte) :
    AskFields.mode ⟨c, fb.toNat, l⟩ = if fb.getLsbD 0 then .shared else .sole := by
  have hbit : fb.getLsbD 0 = decide (fb.toNat % 2 = 1) := Nat.testBit_zero ..
  rw [hbit]
  simp only [decide_eq_true_eq]
  rfl

theorem askNoWait_eq (c l : Nat) (fb : Byte) : AskFields.noWait ⟨c, fb.toNat, l⟩ = fb.getLsbD 1 := by
  have hbit : fb.getLsbD 1 = decide (fb.toNat / 2 ^ 1 % 2 = 1) := Nat.testBit_eq_decide_div_mod_eq ..
  rw [hbit]
  rfl

/-- An ASK with a field out of range is stale (R47). -/
theorem AskFields.inRange_eq_false {a : AskFields} (h : 64 ≤ a.claim ∨ 4 ≤ a.flags ∨ a.lease = 0 ∨ 4095 < a.lease) :
    a.inRange = false := by
  rw [Bool.eq_false_iff]
  intro hr
  simp only [AskFields.inRange, leaseOutOfRange, Bool.and_eq_true, decide_eq_true_eq, Bool.not_eq_true',
    Bool.or_eq_false_iff, beq_eq_false_iff_ne, decide_eq_false_iff_not] at hr
  have hclaims : Config.claimCount = 64 := rfl
  have hleases : Config.maxLease = 4095 := rfl
  omega

theorem askBody_stale {a : AskFields} {e : RxEntry} {s : State} (hp : parseAsk e.payload = some a)
    (hr : a.inRange = false) : askBody e s = s := by
  simp [askBody, hp, hr]

theorem askDecision_outOfTurn {a : AskFields} {d : Nat} {s : State} (h : rosterAt s d ≠ .member) :
    askDecision a d s = .outOfTurn :=
  if_pos h

theorem askDecision_duplicate {a : AskFields} {d : Nat} {s : State} (hm : rosterAt s d = .member)
    (hnamed : (∃ h ∈ (claimAt s a.claim).holders, h.station = d) ∨ ∃ w ∈ (claimAt s a.claim).waiters, w.station = d) :
    askDecision a d s = .duplicate := by
  rw [← holdsClaim_iff, ← waitsOn_iff] at hnamed
  rw [askDecision, if_neg (not_not_intro hm), if_pos hnamed]

/-- A MEMBER that the record does not name is granted, or else refused or queued (R48). -/
theorem askDecision_unnamed {a : AskFields} {d : Nat} {s : State} (hm : rosterAt s d = .member)
    (hnamed : ¬ ((∃ h ∈ (claimAt s a.claim).holders, h.station = d) ∨ ∃ w ∈ (claimAt s a.claim).waiters, w.station = d)) :
    askDecision a d s =
      if (claimAt s a.claim).waiters = [] ∧ grantTest (claimAt s a.claim).holders a.mode = true then .grant
      else if a.noWait = true then .busy
      else if Config.poolSize ≤ occupancy s then .poolFull
      else .queued := by
  rw [← holdsClaim_iff, ← waitsOn_iff] at hnamed
  rw [askDecision, if_neg (not_not_intro hm), if_neg hnamed]

/-! ## The effects -/

/-- An ASK of another station reaches no tag here (R49). -/
theorem toAskTag_of_other {e : RxEntry} {s : State} (ho : e.own = false) (act : Nat → State → State) :
    toAskTag e act s = s := by
  have hnone : boundTag e s = none := by
    unfold boundTag
    split
    · simp [ho]
    · rfl
  rw [toAskTag, hnone]

/-- The watch of another station's hold starts with the grace (R70). -/
theorem startWatch_other {c h l serial : Nat} {s : State} (hh : h ≠ s.station.number) :
    startWatch c h l serial s = setWatch c h (some ⟨serial, l + max 2 (l / 8), false⟩) s := by
  have hstart : watchStart s h l = l + max 2 (l / 8) := if_neg hh
  rw [startWatch, hstart, startWatchAt, if_neg fun h => hh h.1]

/-- The record after a grant on a claim with no queue. -/
theorem ClaimRecord.grant_of_no_waiters {r : ClaimRecord} (h : r.waiters = []) (d l : Nat) (m : Mode) :
    r.grant ⟨d, m, l⟩ = ⟨(r.serial + 1) % 256, r.holders ++ [⟨d, m, l, (r.serial + 1) % 256⟩], []⟩ := by
  rw [ClaimRecord.grant, h]
  rfl

/-- Settles O41: the outcomes in R48's order, with no tag in reach. -/
theorem askOfAnotherStationIsDecided : Obligations.AskOfAnotherStationIsDecided := by
  intro s e rest cb fb lh ll hfront hst ho hself hpay a c lease mode r named passes
  have hparse : parseAsk e.payload = some ⟨c, fb.toNat, lease⟩ := by rw [hpay]; rfl
  have hexec : exec .applyAsk s = .next (askBody e a) := congrArg Host.Outcome.next (exec_apply hfront)
  have hmode : AskFields.mode ⟨c, fb.toNat, lease⟩ = mode := askMode_eq ..
  have hnowait : AskFields.noWait ⟨c, fb.toNat, lease⟩ = fb.getLsbD 1 := askNoWait_eq ..
  have hgrant : grantTest r.holders mode = true ↔ passes := grantTest_iff ..
  have hstale : AskFields.inRange ⟨c, fb.toNat, lease⟩ = false → exec .applyAsk s = .next a := fun h =>
    hexec.trans (congrArg _ (askBody_stale hparse h))
  have hdecided : ∀ o, askDecision ⟨c, fb.toNat, lease⟩ e.sender a = o →
      AskFields.inRange ⟨c, fb.toNat, lease⟩ = true →
      exec .applyAsk s = .next (askEffect ⟨c, fb.toNat, lease⟩ e o a) := fun o hd hr => by
    rw [hexec, askBody_decided (s := a) hparse hst hr, hd]
  have hnothing : ∀ o, askDecision ⟨c, fb.toNat, lease⟩ e.sender a = o → o ≠ .grant → o ≠ .queued →
      exec .applyAsk s = .next a := fun o hd hg hq => by
    cases hr : AskFields.inRange ⟨c, fb.toNat, lease⟩ with
    | false => exact hstale hr
    | true =>
      rw [hdecided o hd hr]
      cases o with
      | grant => exact absurd rfl hg
      | queued => exact absurd rfl hq
      | outOfTurn | duplicate | busy | poolFull => exact congrArg _ (toAskTag_of_other ho _)
  refine ⟨fun h => hstale (AskFields.inRange_eq_false h), fun h => ?_, fun hwait hrefused => ?_,
    fun hc hf hl hl' hm hnamed => ⟨fun hw hpass => ?_, fun hwait hb hpool => ?_⟩⟩
  · by_cases hm : rosterAt s e.sender = .member
    · exact hnothing _ (askDecision_duplicate (s := a) hm (h.resolve_left (not_not_intro hm))) nofun nofun
    · exact hnothing _ (askDecision_outOfTurn (s := a) hm) nofun nofun
  · by_cases hm : rosterAt s e.sender = .member
    · by_cases hnamed : named
      · exact hnothing _ (askDecision_duplicate (s := a) hm hnamed) nofun nofun
      · have hd := askDecision_unnamed (a := ⟨c, fb.toNat, lease⟩) (s := a) hm hnamed
        rw [hmode, hnowait, if_neg fun h => hwait ⟨h.1, hgrant.mp h.2⟩] at hd
        by_cases hb : fb.getLsbD 1 = true
        · exact hnothing _ (hd.trans (if_pos hb)) nofun nofun
        · exact hnothing _ (hd.trans ((if_neg hb).trans (if_pos (hrefused.resolve_left hb)))) nofun nofun
    · exact hnothing _ (askDecision_outOfTurn (s := a) hm) nofun nofun
  · have hd := askDecision_unnamed (a := ⟨c, fb.toNat, lease⟩) (s := a) hm hnamed
    rw [hmode, if_pos ⟨hw, hgrant.mpr hpass⟩] at hd
    rw [hdecided _ hd (AskFields.inRange_of hc hf hl hl')]
    refine congrArg _ ((toAskTag_of_other ho _).trans ?_)
    unfold grant
    rw [hmode, ClaimRecord.grant_of_no_waiters (r := claimAt a c) hw]
    exact startWatch_other hself
  · have hd := askDecision_unnamed (a := ⟨c, fb.toNat, lease⟩) (s := a) hm hnamed
    have hfree : ¬ fb.getLsbD 1 = true := by rw [hb]; decide
    have hroom : ¬ Config.poolSize ≤ occupancy a := Nat.not_le.mpr hpool
    rw [hmode, hnowait, if_neg fun h => hwait ⟨h.1, hgrant.mp h.2⟩, if_neg hfree, if_neg hroom] at hd
    rw [hdecided _ hd (AskFields.inRange_of hc hf hl hl')]
    refine congrArg _ ((toAskTag_of_other ho _).trans ?_)
    unfold appendWaiter
    rw [hmode]
    rfl

end Sys2Proof.Machine
end

/-! # ASK: an own one reaches its tag (3.5) -/

section
namespace Sys2Proof.Machine

open Sys2Proof (Byte BusFrame FrameEnd TryEnd Instr)

/-! ## Writing one number twice -/

theorem Table.erase_of_unlisted {α : Type} : ∀ (t : Table α) (k : Nat), (∀ p ∈ t, p.1 ≠ k) → Table.erase t k = t
  | [], _, _ => rfl
  | (j, v) :: t, k, h => by
    have hj : j ≠ k := h (j, v) (List.mem_cons_self ..)
    rw [Table.erase, if_neg hj, Table.erase_of_unlisted t k fun p hp => h p (List.mem_cons_of_mem _ hp)]

theorem Table.erase_insert_same {α : Type} (v : α) : ∀ (t : Table α) (k : Nat), (∀ p ∈ t, p.1 ≠ k) →
    Table.erase (Table.insert t k v) k = t
  | [], k, _ => by simp [Table.insert, Table.erase]
  | (j, w) :: t, k, h => by
    have hj : j ≠ k := h (j, w) (List.mem_cons_self ..)
    have ht : ∀ p ∈ t, p.1 ≠ k := fun p hp => h p (List.mem_cons_of_mem _ hp)
    rw [Table.insert]
    split
    · rw [Table.erase, if_pos rfl, Table.erase_of_unlisted _ _ h]
    · rw [Table.erase, if_neg hj, Table.erase_insert_same v t k ht]

theorem Table.set_set {α : Type} [DecidableEq α] (d : α) (t : Table α) (k : Nat) (v w : α) :
    Table.set d (Table.set d t k v) k w = Table.set d t k w := by
  have hfree : ∀ p ∈ Table.erase t k, p.1 ≠ k := fun p hp => ((Table.mem_erase t k p).mp hp).2
  have herase : Table.erase (Table.set d t k v) k = Table.erase t k := by
    unfold Table.set
    split
    · exact Table.erase_of_unlisted _ _ hfree
    · exact Table.erase_insert_same v _ _ hfree
  rw [Table.set, herase]
  rfl

/-- The later of two writes to a tag stands. -/
theorem setTag_setTag (n : Nat) (v w : Tag) (s : State) : setTag n w (setTag n v s) = setTag n w s := by
  unfold setTag
  simp only [Table.set_set]

/-! ## What the outcomes do to the tag -/

/-- GRANTED, with no cancel pending (R49). -/
theorem tagAskGranted_plain {serial n : Nat} {s : State} (h : (tagAt s n).cancelPending = false) :
    tagAskGranted serial n s =
      push (.granted n serial) (setTag n { tagAt s n with phase := some .held, reservations := 1 } s) :=
  if_neg (by simp [h])

/-- GRANTED, and TOO_LATE for the cancel that was pending (R49). -/
theorem tagAskGranted_cancelled {serial n : Nat} {s : State} (hn : n < 16) (h : (tagAt s n).cancelPending = true)
    (hroom : 1 < freePlaces s) (hr : (tagAt s n).reservations = 2) :
    tagAskGranted serial n s = push (.tooLate n) (push (.granted n serial)
      (setTag n { tagAt s n with phase := some .held, reservations := 1, cancelPending := false } s)) := by
  have hact : tagAskGranted serial n s = postUnreserved (.tooLate n)
      (setTag n { tagAt (tagGranted n serial s) n with cancelPending := false } (tagGranted n serial s)) := if_pos h
  have htag : tagAt (tagGranted n serial s) n = { tagAt s n with phase := some .held, reservations := 1 } :=
    tagAt_setTag_same n _ s
  have hset : ∀ v, setTag n v (tagGranted n serial s) = push (.granted n serial) (setTag n v s) := fun v =>
    congrArg (push (.granted n serial)) (setTag_setTag n _ v s)
  have hplaces := placesTaken_setTag (n := n) hn
    { tagAt s n with phase := some .held, reservations := 1, cancelPending := false } s
  rw [hact, htag, hset, postUnreserved_of_room]
  rw [freePlaces_push rfl]
  simp only [freePlaces] at hroom ⊢
  rw [hr] at hplaces
  dsimp only at hplaces
  omega

/-- QUEUED, and on to CANCELLING for the cancel that was pending (R49). -/
theorem tagAskQueued_cancelled {c p n : Nat} {s : State} (h : (tagAt s n).cancelPending = true) (hroom : 0 < freePlaces s) :
    tagAskQueued c p n s = enqueue (.cancel c) (some n) (push (.queued n p)
      (setTag n { tagAt s n with phase := some .cancelling, cancelPending := false } s)) := by
  have hpost : postUnreserved (.queued n p) (setTag n { tagAt s n with phase := some .waiting } s) =
      push (.queued n p) (setTag n { tagAt s n with phase := some .waiting } s) := by
    refine postUnreserved_of_room _ ?_
    rw [freePlaces_setTag (by rfl)]
    exact hroom
  have htag : tagAt (push (.queued n p) (setTag n { tagAt s n with phase := some .waiting } s)) n =
      { tagAt s n with phase := some .waiting } := tagAt_setTag_same n _ s
  have hset : ∀ v, setTag n v (push (.queued n p) (setTag n { tagAt s n with phase := some .waiting } s)) =
      push (.queued n p) (setTag n v s) := fun v => congrArg (push (.queued n p)) (setTag_setTag n _ v s)
  unfold tagAskQueued
  rw [hpost]
  dsimp only
  rw [if_pos h, htag, hset]

/-- Settles O42: the outcome of R48 at the SENDING tag. -/
theorem ownAskReachesItsTag : Obligations.OwnAskReachesItsTag := by
  intro s e rest n cb fb lh ll hfront hst ho hself hb hn hu hphase hpay hc hf hl hl' a g c lease mode r serial named passes
    granted queued refusedWith
  have hparse : parseAsk e.payload = some ⟨c, fb.toNat, lease⟩ := by rw [hpay]; rfl
  have hmode : AskFields.mode ⟨c, fb.toNat, lease⟩ = mode := askMode_eq ..
  have hnowait : AskFields.noWait ⟨c, fb.toNat, lease⟩ = fb.getLsbD 1 := askNoWait_eq ..
  have hgrant : grantTest r.holders mode = true ↔ passes := grantTest_iff ..
  have hrange : AskFields.inRange ⟨c, fb.toNat, lease⟩ = true := AskFields.inRange_of hc hf (Nat.le_of_succ_le hl) hl'
  have hdecided : ∀ {o}, askDecision ⟨c, fb.toNat, lease⟩ e.sender a = o →
      exec .applyAsk s = .next (askEffect ⟨c, fb.toNat, lease⟩ e o a) := fun {o} hd => by
    rw [← hd, ← askBody_decided (s := a) hparse (.inl hst) hrange]
    exact congrArg Host.Outcome.next (exec_apply hfront)
  have hreach : ∀ (act : Nat → State → State) (t : State), tagAt t n = tagAt s n → toAskTag e act t = act n t :=
    fun act t ht => toAskTag_of_sending (boundTag_eq ho hb (by rw [ht]; exact hu)) (by rw [ht]; exact hphase) act
  have hrefused : ∀ {o} (reason : RefuseReason), askDecision ⟨c, fb.toNat, lease⟩ e.sender a = o →
      askEffect ⟨c, fb.toNat, lease⟩ e o a = toAskTag e (fun t => endTag t (.refused t reason)) a →
      refusedWith reason := fun {o} reason hd he hw hnone => by
    have hend : endTag n (.refused n reason) a = setTag n Tag.free (push (.refused n reason) (withdrawBound n a)) :=
      endTag_of_no_warn (fun u hu16 _ => hw u hu16) hnone rfl
    refine ⟨_, (hdecided hd).trans (congrArg _ (he.trans ((hreach _ a rfl).trans hend))), ?_, ?_, ?_⟩
    · simp [withdrawBound, a]
    · exact tagAt_setTag_same n Tag.free _
    · simp [a]
  have hgranted : grant c ⟨e.sender, mode, lease⟩ a = granted ∨ r.waiters ≠ [] := by
    by_cases hw : r.waiters = []
    · refine .inl ?_
      unfold grant
      rw [ClaimRecord.grant_of_no_waiters (r := claimAt a c) hw]
      exact startWatch_own hself hl
    · exact .inr hw
  have hdgrant : rosterAt s e.sender = .member → ¬ named → r.waiters = [] → passes →
      exec .applyAsk s = .next (tagAskGranted serial n granted) := fun hm hnamed hw hpass => by
    have hd := askDecision_unnamed (a := ⟨c, fb.toNat, lease⟩) (s := a) hm hnamed
    rw [hmode, if_pos ⟨hw, hgrant.mpr hpass⟩] at hd
    refine (hdecided hd).trans (congrArg _ ?_)
    unfold askEffect
    dsimp only
    rw [hmode, hgranted.resolve_right (not_not_intro hw)]
    exact hreach _ granted rfl
  refine ⟨fun hm hnamed => ⟨fun hw hpass hpend => ?_, fun hw hpass hpend hroom hres => ?_, fun hwait hb0 hpool hroom => ?_,
    fun hwait hb1 => ?_, fun hwait hb0 hpool => ?_⟩, fun hm hnamed => ?_, fun hm => ?_⟩
  · rw [hdgrant hm hnamed hw hpass, tagAskGranted_plain (s := granted) hpend]
    rfl
  · rw [hdgrant hm hnamed hw hpass, tagAskGranted_cancelled (s := granted) hn hpend hroom hres]
    rfl
  · have hd := askDecision_unnamed (a := ⟨c, fb.toNat, lease⟩) (s := a) hm hnamed
    have hfree : ¬ fb.getLsbD 1 = true := by rw [hb0]; decide
    have hplace : ¬ Config.poolSize ≤ occupancy a := Nat.not_le.mpr hpool
    rw [hmode, hnowait, if_neg fun h => hwait ⟨h.1, hgrant.mp h.2⟩, if_neg hfree, if_neg hplace] at hd
    have hexec : exec .applyAsk s = .next (tagAskQueued c (r.waiters.length + 1) n queued) := by
      refine (hdecided hd).trans (congrArg _ ?_)
      unfold askEffect
      dsimp only
      rw [hmode]
      exact hreach _ queued rfl
    have hplaces : freePlaces queued = freePlaces s := freePlaces_congr rfl rfl rfl
    refine ⟨fun hpend => ?_, fun hpend => ?_⟩
    · rw [hexec, tagAskQueued_plain (s := queued) hpend, postUnreserved_of_room]
      · rfl
      · rw [freePlaces_setTag (by rfl), hplaces]
        exact hroom
    · rw [hexec, tagAskQueued_cancelled (s := queued) hpend (by rw [hplaces]; exact hroom)]
      rfl
  · have hd := askDecision_unnamed (a := ⟨c, fb.toNat, lease⟩) (s := a) hm hnamed
    rw [hmode, hnowait, if_neg fun h => hwait ⟨h.1, hgrant.mp h.2⟩, if_pos hb1] at hd
    exact hrefused _ hd rfl
  · have hd := askDecision_unnamed (a := ⟨c, fb.toNat, lease⟩) (s := a) hm hnamed
    have hfree : ¬ fb.getLsbD 1 = true := by rw [hb0]; decide
    have hplace : Config.poolSize ≤ occupancy a := hpool
    rw [hmode, hnowait, if_neg fun h => hwait ⟨h.1, hgrant.mp h.2⟩, if_neg hfree, if_pos hplace] at hd
    exact hrefused _ hd rfl
  · exact hrefused _ (askDecision_duplicate (a := ⟨c, fb.toNat, lease⟩) (s := a) hm hnamed) rfl
  · exact hrefused _ (askDecision_outOfTurn (a := ⟨c, fb.toNat, lease⟩) (s := a) hm) rfl

end Sys2Proof.Machine
end

/-! # EXTEND: the obligation (3.6) -/

section
namespace Sys2Proof.Machine

open Sys2Proof (Byte BusFrame FrameEnd TryEnd Instr)

/-- A reference fails where no slot of the holder has the serial (R5). -/
theorem refMatches_eq_false {s : State} {c h serial : Nat}
    (hno : ∀ x ∈ (claimAt s c).holders, x.station = h → x.serial ≠ serial) : refMatches s c h serial = false := by
  rw [Bool.eq_false_iff]
  intro hm
  obtain ⟨x, hx, hserial⟩ := refMatches_iff.mp hm
  have hstation := List.find?_some (p := fun x : HoldSlot => x.station == h) hx
  exact hno x (List.mem_of_find?_eq_some hx) (beq_iff_eq.mp hstation) hserial

/-- An EXTEND out of turn has no effect (R56). -/
theorem extendBody_outOfTurn {e : RxEntry} {s : State} (ht : rosterAt s e.sender ≠ .member) : extendBody e s = s := by
  have hturn : inTurn e s = false := by simp [inTurn, ht]
  unfold extendBody
  split
  · rw [hturn, Bool.and_false, if_neg Bool.false_ne_true]
  · rfl

/-- An EXTEND of a MEMBER that does not match is stale (R52). -/
theorem extendBody_stale {e : RxEntry} {s : State} {c serial l : Nat} (hp : parseExtend e.payload = some (c, serial, l))
    (hs : s.station.state = .member ∨ s.station.state = .leaving) (ht : rosterAt s e.sender = .member)
    (hstale : 64 ≤ c ∨ l = 0 ∨ 4095 < l ∨ ∀ x ∈ (claimAt s c).holders, x.station = e.sender → x.serial ≠ serial) :
    extendBody e s = staleExtend e s := by
  have hshare : s.station.state.sharing = true := (sharing_iff _).mpr hs
  have hturn : inTurn e s = true := by simp [inTurn, ht]
  have hno : (decide (c < Config.claimCount) && !leaseOutOfRange l && refMatches s c e.sender serial) = false := by
    rcases hstale with h | h | h | h
    · have hout : decide (c < Config.claimCount) = false := decide_eq_false (Nat.not_lt.mpr h)
      rw [hout, Bool.false_and, Bool.false_and]
    · rw [leaseOutOfRange_iff.mpr (.inl h), Bool.not_true, Bool.and_false, Bool.false_and]
    · rw [leaseOutOfRange_iff.mpr (.inr h), Bool.not_true, Bool.and_false, Bool.false_and]
    · rw [refMatches_eq_false h, Bool.and_false]
  simp only [extendBody, hp, hshare, hturn, hno, Bool.and_self, if_true, Bool.false_eq_true, if_false]

/-- A frame of another station is bound to no tag here (R44). -/
theorem boundTag_of_other {e : RxEntry} {s : State} (ho : e.own = false) : boundTag e s = none := by
  unfold boundTag
  split
  · simp [ho]
  · rfl

/-- The LAPSEs that wait for the hold of `h` on claim `c` leave the queue, in the statement's words (R9, R10). -/
theorem withdrawLapse_eq (c h : Nat) (s : State) :
    withdrawLapse c h s = { s with
      tx.entries := s.tx.entries.filter (fun x => x.onBus || match x.frame with
        | .lapse b k _ => !(b == c && k == h)
        | _ => true) } := by
  unfold withdrawLapse withdrawReady setEntries
  have hsame : ∀ x : TxEntry, (x.onBus || !(match x.frame with
      | .lapse c' h' _ => c' == c && h' == h
      | _ => false)) = (x.onBus || match x.frame with
        | .lapse b k _ => !(b == c && k == h)
        | _ => true) := fun x => by cases x.frame <;> rfl
  exact congrArg (fun es => ({ s with tx.entries := es } : State)) (List.filter_congr fun x _ => hsame x)

/-- The latch of the tag in use that names the claim clears (R75). -/
theorem clearLatch_of_only {c n : Nat} {s : State} {p : Phase} (hn : n < 16) (hin : (tagAt s n).inUse = true)
    (hc : (tagAt s n).claim = c) (hp : (tagAt s n).phase = some p)
    (honly : ∀ m < 16, m ≠ n → (tagAt s m).inUse = true → (tagAt s m).claim ≠ c) :
    clearLatch c s = setTag n { tagAt s n with warnLatch := false } s := by
  have hfind : findTag s c allPhases = some n := findTag_of_only hn hin hc hp (mem_allPhases p) honly
  rw [clearLatch, hfind]

/-- Settles O44: the stale forms first, then the renewal by whose hold it is. -/
theorem matchingExtendRenewsTheHold : Obligations.MatchingExtendRenewsTheHold := by
  intro s e rest c serial lease hfront hst hp a r next extended stale
  have hexec : exec .applyExtend s = .next (extendBody e a) := congrArg Host.Outcome.next (exec_apply hfront)
  refine ⟨fun hm => ?_, fun hstale ho => ?_, fun hstale hm ho n hb hu => ?_, fun hc hl hl' hm hslot => ⟨fun hother => ?_,
    fun hself hl2 hroom n hn hu htc hph honly => ?_⟩⟩
  · rw [hexec, extendBody_outOfTurn (s := a) hm]
  · by_cases hm : rosterAt s e.sender = .member
    · rw [hexec, extendBody_stale (s := a) hp hst hm hstale, staleExtend, boundTag_of_other ho]
    · rw [hexec, extendBody_outOfTurn (s := a) hm]
  · rw [hexec, extendBody_stale (s := a) hp hst hm hstale, staleExtend, boundTag_eq ho hb (s := a) hu]
    rfl
  · rw [hexec, extendBody_matching (s := a) hp hst hm hc hl hl' (refMatches_iff.mpr hslot),
      if_neg (show ¬ e.sender = a.station.number from hother)]
    refine congrArg _ ?_
    unfold extendHold
    simp only [if_neg (show ¬ e.sender = a.station.number from hother)]
    rw [withdrawLapse_eq]
    exact startWatch_other hother
  · have hbody := extendBody_matching (s := a) hp hst hm hc hl hl' (refMatches_iff.mpr hslot)
    rw [if_pos (show e.sender = a.station.number from hself), extendHold_own (s := a) hself hl2] at hbody
    obtain ⟨p, hphase⟩ : ∃ p, (tagAt s n).phase = some p := hph.elim (fun h => ⟨_, h⟩) (fun h => ⟨_, h⟩)
    have hlatch : clearLatch c (withdrawLapse c e.sender (setClaim c ((claimAt a c).extend e.sender lease) a)) =
        setTag n { tagAt s n with warnLatch := false }
          (withdrawLapse c e.sender (setClaim c ((claimAt a c).extend e.sender lease) a)) :=
      clearLatch_of_only (s := withdrawLapse c e.sender (setClaim c ((claimAt a c).extend e.sender lease) a)) hn hu htc
        hphase honly
    rw [hlatch] at hbody
    generalize hv : setWatch c e.sender (some ⟨nextSerial (claimAt a c).serial, lease, false⟩)
      (setTag n { tagAt s n with warnLatch := false }
        (withdrawLapse c e.sender (setClaim c ((claimAt a c).extend e.sender lease) a))) = v at hbody
    have htag : tagAt v n = { tagAt s n with warnLatch := false } := by
      subst hv
      exact tagAt_setTag_same n _ (withdrawLapse c e.sender (setClaim c ((claimAt a c).extend e.sender lease) a))
    have hothers : ∀ m, m ≠ n → tagAt v m = tagAt s m := fun m hmn => by
      subst hv
      exact (tagAt_setTag n m _ (withdrawLapse c e.sender (setClaim c ((claimAt a c).extend e.sender lease) a))).trans
        (if_neg hmn)
    have hnotices : v.notices = s.notices := by subst hv; rfl
    have htold := tagExtended_of_only (s := v) (c := c) (l := lease) (serial := nextSerial (claimAt a c).serial) hn
      (by rw [htag]; exact hu) (by rw [htag]; exact htc) (by rw [htag]; exact hph)
      (fun m hm16 hmn hin => by rw [hothers m hmn] at hin ⊢; exact honly m hm16 hmn hin)
    have hplaces : 0 < freePlaces (setTag n { tagAt v n with lease := lease, extendInFlight := false } v) := by
      rw [freePlaces_setTag (by rfl), freePlaces_of_reservations (s := s)]
      · exact hroom
      · rw [hnotices]
      · subst hv; rfl
      · intro u
        by_cases hun : u = n
        · rw [hun, htag]
        · rw [hothers u hun]
    rw [htold, postUnreserved_of_room _ hplaces, htag] at hbody
    refine ⟨_, hexec.trans (congrArg _ hbody), ?_, ?_, ?_, ?_⟩
    · subst hv; rfl
    · subst hv
      exact watchAt_setWatch_same c e.sender _ _
    · exact tagAt_setTag_same n _ v
    · exact congrArg (fun q : NoticeQueue => q.entries ++ [Notice.extended n next]) hnotices

end Sys2Proof.Machine
end

/-! # ROLL and the learned roster: the obligations (3.3, 3.9, 3.11, 5.8) -/

section
namespace Sys2Proof.Machine

open Sys2Proof (Byte BusFrame FrameEnd TryEnd Instr)

/-! ## The comparison of a MEMBER (R62 to R65) -/

/-- A ROLL with undefined flags, with the joining flag set, or of this station is not compared (R47, R62). -/
theorem rollBody_not_compared {e : RxEntry} {s : State} {flags : Nat} {dig : BitVec 16}
    (hp : parseRoll e.payload = some (flags, dig)) (hm : s.station.state = .member)
    (hno : flags ≠ 0 ∨ e.sender = s.station.number) : rollBody e s = s := by
  have hcompare : ¬ (s.station.state = .member ∧ e.sender ≠ s.station.number ∧ flags = 0) := fun ⟨_, hs, hf⟩ =>
    hno.elim (fun h => h hf) hs
  simp only [rollBody, hp, if_neg hcompare]
  split
  · rfl
  · rw [hm]
    rfl

/-- Any other ROLL at a MEMBER is compared (R62). -/
theorem rollBody_compared {e : RxEntry} {s : State} {dig : BitVec 16} (hp : parseRoll e.payload = some (0, dig))
    (hm : s.station.state = .member) (hs : e.sender ≠ s.station.number) : rollBody e s = compareRoll e.sender dig s := by
  have hlearning : StationState.member.learning = false := rfl
  simp [rollBody, hp, hlearning, hm, hs]

theorem rollDiverges_iff {d : Nat} {dig : BitVec 16} {s : State} :
    rollDiverges d dig s = true ↔
      (copySource s = some d ∧ dig ≠ digest s.replica) ∨ (rosterAt s d = .absent ∧ d < s.station.number) := by
  simp [rollDiverges]

/-- A sender that is not listed is listed as MEMBER by a ROLL with the joining flag clear (R46). -/
theorem learnRoll_of_absent {d : Nat} {s : State} (h : rosterAt s d = .absent) (joining : Bool) :
    learnRoll d joining s = listFresh d (if joining then .joining else .member) s := by
  unfold learnRoll
  rw [h]
  cases joining <;> rfl

/-- A JOINING sender becomes MEMBER by it. -/
theorem learnRoll_of_joining {d : Nat} {s : State} (h : rosterAt s d = .joining) :
    learnRoll d false s = setRoster d .member s := by
  unfold learnRoll
  rw [h]

/-- No entry is lowered (R46). -/
theorem learnRoll_of_listed {d : Nat} {s : State} (h : rosterAt s d ≠ .absent) : learnRoll d true s = s := by
  unfold learnRoll
  cases hr : rosterAt s d with
  | absent => exact absurd hr h
  | joining | member => rfl

theorem learnRoll_of_member {d : Nat} {s : State} (h : rosterAt s d = .member) (joining : Bool) :
    learnRoll d joining s = s := by
  unfold learnRoll
  rw [h]

/-- What a fresh entry changes: the roster and the silence counter of its station (R60, R61). -/
theorem listFresh_effect (d : Nat) (r : RosterEntry) (s : State) :
    (∀ b, rosterAt (listFresh d r s) b = if b = d then r else rosterAt s b) ∧
      (d ≠ s.station.number → silenceAt (listFresh d r s) d = some 0) ∧
      listFresh d r s = { s with
        replica.roster := (listFresh d r s).replica.roster
        watch.silence := (listFresh d r s).watch.silence } := by
  unfold listFresh
  refine ⟨fun b => ?_, fun hd => ?_, ?_⟩
  · have hsame : rosterAt (setSilence d (some 0) (setRoster d r s)) b = rosterAt (setRoster d r s) b := by
      simp [rosterAt]
    rw [hsame, rosterAt_setRoster]
  · rw [silenceAt_setSilence (s := setRoster d r s) (h := hd), if_pos rfl]
  · unfold setSilence
    split <;> rfl

/-- Settles O48: the comparison by its outcomes, and what divergence leaves. -/
theorem rollIsCompared : Obligations.RollIsCompared := by
  intro s e rest flags dig hfront hm hp h32 a d diverged
  have hexec : exec .applyRoll s = .next (rollBody e a) := congrArg Host.Outcome.next (exec_apply hfront)
  have hcompared : flags = 0 → d ≠ s.station.number → exec .applyRoll s = .next (compareRoll d dig a) := fun hf hd => by
    subst hf
    rw [hexec, rollBody_compared (s := a) hp hm hd]
  refine ⟨fun hno => ?_, fun hf hd hnot => ⟨fun hdis => ?_, fun hsame => ?_⟩, fun hf hd hdiv => ?_⟩
  · rw [hexec, rollBody_not_compared (s := a) hp hm hno]
  · rw [hcompared hf hd]
    have hno : ¬ rollDiverges d dig a = true := fun h => hnot (rollDiverges_iff.mp h)
    exact congrArg _ ((if_neg hno).trans (if_pos hdis))
  · rw [hcompared hf hd]
    have hno : ¬ rollDiverges d dig a = true := fun h => hnot (rollDiverges_iff.mp h)
    exact congrArg _ ((if_neg hno).trans (if_neg fun h => h.2 hsame))
  · have hdiverge : exec .applyRoll s = .next (diverge d a) := by
      rw [hcompared hf hd]
      exact congrArg _ (if_pos (rollDiverges_iff.mpr hdiv))
    have htags : ∀ n, (tagAt s n).inUse = true → tagAt (clearTable a) n = { tagAt s n with warnLatch := false } :=
      fun n h => clearTable_tagAt_inUse (s := a) h
    have hless : HoldsLess a (clearTable a) := clearTable_holdsLess a
    have hclaims : (clearTable a).replica.claims = [] := rfl
    have hstation : (clearTable a).station = s.station := rfl
    refine ⟨_, hdiverge, ?_⟩
    unfold diverge
    generalize clearTable a = u at htags hless hclaims hstation ⊢
    dsimp only
    generalize hv : ({ clearRoster u with station.disagree := 0 } : State) = v
    have hvless : HoldsLess u v := by subst hv; exact .of_eq rfl rfl rfl
    have hvtags : ∀ n, tagAt v n = tagAt u n := fun n => by subst hv; rfl
    have hvreplica : v.replica = ⟨[], []⟩ := by
      subst hv
      show (⟨u.replica.claims, []⟩ : Replica) = _
      rw [hclaims]
    have hvstation : v.station = { s.station with disagree := 0 } := by
      subst hv
      show ({ u.station with disagree := 0 } : StationController) = _
      rw [hstation]
    obtain ⟨h1, h2, h3, h4, h5, h6, h7, h8⟩ := enterAfresh_effect .diverged (endTags .diverged v)
    have hstay := enterAfresh_noticesStay .diverged (endTags .diverged v)
    have hlost := fun n (hn : n < 16) (hu : (tagAt s n).inUse = true) =>
      endTags_lost_cancelled .diverged hstay hn (by rw [hvtags, htags n hu]; exact hu)
    have hnone : NoTags (endTags .diverged v) := endTags_noTags .diverged v
    have hheld : internalHeld (endTags .diverged v) ≤ internalHeld a :=
      internalHeld_le ((hless.trans hvless).trans (endTags_holdsLess _ _))
    rw [endTags_replica, hvreplica] at h1
    rw [endTags_station, hvstation] at h7
    generalize enterAfresh .diverged (endTags .diverged v) = w at h1 h2 h3 h4 h5 h6 h7 h8 hlost ⊢
    have habsent : ∀ b, rosterAt w b = .absent := fun b => by rw [rosterAt, h1]; rfl
    rw [learnRoll_of_absent (habsent d)]
    obtain ⟨hroster, _, heq⟩ := listFresh_effect d .member w
    rw [if_neg Bool.false_ne_true]
    generalize listFresh d .member w = t at hroster heq ⊢
    refine ⟨?_, fun n hn => ?_, ?_, fun b => ?_, ?_, fun hroom => ?_, fun n hn hu => ?_⟩
    · rw [heq]
      exact congrArg Replica.claims h1
    · have htag : tagAt t n = tagAt (endTags .diverged v) n := by rw [heq, tagAt, tagAt, ← h4]
      rw [htag]
      exact hnone n hn
    · rw [heq]
      exact h2
    · rw [hroster b, habsent b]
    · rw [heq]
      exact h7
    · rw [heq]
      exact h8 (lt_of_le_of_lt hheld hroom)
    · have hmem := hlost n hn hu
      rw [hvtags, htags n hu] at hmem
      rw [heq]
      exact hmem

/-! ## A learned roster (R41 to R46, R59) -/

theorem sharing_eq_false_of_learning {st : StationState} (h : st = .listen ∨ st = .entering ∨ st = .awaitCopy) :
    st.sharing = false := by
  rcases h with rfl | rfl | rfl <;> rfl

theorem learning_of {st : StationState} (h : st = .listen ∨ st = .entering ∨ st = .awaitCopy) : st.learning = true := by
  rcases h with rfl | rfl | rfl <;> rfl

/-- A station that does not share the claim table applies no claim frame (R45). -/
theorem claimBodies_of_not_sharing {e : RxEntry} {s : State} (h : s.station.state.sharing = false) :
    askBody e s = s ∧ yieldBody e s = s ∧ extendBody e s = s ∧ lapseBody e s = s ∧ cancelBody e s = s := by
  refine ⟨?_, ?_, ?_, ?_, ?_⟩
  · unfold askBody
    split
    · simp [h]
    · rfl
  · unfold yieldBody
    split
    · simp [h]
    · rfl
  · unfold extendBody
    split
    · simp [h]
    · rfl
  · unfold lapseBody
    split
    · simp [h]
    · rfl
  · unfold cancelBody
    split
    · simp [h]
    · rfl

/-- A ROLL on a learned roster (R46). -/
theorem rollBody_learned {e : RxEntry} {s : State} {flags : Nat} {dig : BitVec 16}
    (hp : parseRoll e.payload = some (flags, dig)) (hf : flags < 2)
    (hs : s.station.state = .listen ∨ s.station.state = .entering ∨ s.station.state = .awaitCopy) :
    rollBody e s = learnRoll e.sender (flags == 1) s := by
  simp only [rollBody, hp, if_neg (Nat.not_le.mpr hf), learning_of hs, if_true]

/-- A DROP on a learned roster (R46). -/
theorem dropBody_learned {e : RxEntry} {s : State} {d : Byte} (hp : e.payload = [d]) (hd : d.toNat < 32)
    (hs : s.station.state = .listen ∨ s.station.state = .entering ∨ s.station.state = .awaitCopy) :
    dropBody e s = dropLearned d.toNat s := by
  have hparse : parseOne e.payload = some d.toNat := by rw [hp]; rfl
  have hin : ¬ Config.stationCount ≤ d.toNat := Nat.not_le.mpr hd
  simp only [dropBody, hparse, if_neg hin, sharing_eq_false_of_learning hs, Bool.false_eq_true, if_false]

/-- The common steps in the silence counters (R43, R95). -/
theorem atFront_silenceAt (e : RxEntry) (rest : List RxEntry) (s : State) (b : Nat) :
    silenceAt (atFront e rest s) b =
      if b = e.sender ∧ rosterAt s e.sender ≠ .absent ∧ b ≠ s.station.number then some 0 else silenceAt s b := by
  unfold silenceAt atFront
  dsimp only
  by_cases hskip : rosterAt s e.sender = .absent ∨ e.sender = s.station.number
  · rw [if_pos hskip, if_neg fun ⟨hb, hr, hn⟩ => hskip.elim hr (fun h => hn (hb.trans h))]
  · rw [if_neg hskip, Table.get_set]
    by_cases hb : b = e.sender
    · have hall : b = e.sender ∧ rosterAt s e.sender ≠ .absent ∧ b ≠ s.station.number :=
        ⟨hb, fun h => hskip (.inl h), fun h => hskip (.inr (hb ▸ h))⟩
      rw [if_pos hb, if_pos hall]
    · rw [if_neg hb, if_neg fun h => hb h.1]

/-- Settles O49: the learned roster frame by frame. -/
theorem rosterIsLearned : Obligations.RosterIsLearned := by
  intro s e rest h32 hst a
  have hsilence := atFront_silenceAt e rest s
  refine ⟨fun dig hfront hp hself => ?_, fun dig hfront hp hlisted => ?_, fun dig hfront hp habsent => ?_,
    fun d hfront hp hd hother => ⟨fun habsent => ?_, fun hlisted => ?_⟩,
    fun d hfront hp hd hself hwait hleft hroom => ?_, fun p hmem hfront => ?_⟩
  · have hexec : exec .applyRoll s = .next (learnRoll e.sender false a) :=
      congrArg Host.Outcome.next ((exec_apply hfront).trans (rollBody_learned (s := a) hp (by decide) hst))
    refine ⟨_, hexec, ?_⟩
    cases hr : rosterAt s e.sender with
    | absent =>
      obtain ⟨hroster, hzero, heq⟩ := listFresh_effect e.sender .member a
      rw [learnRoll_of_absent (s := a) hr, if_neg Bool.false_ne_true]
      generalize listFresh e.sender .member a = t at hroster hzero heq ⊢
      refine ⟨(hroster _).trans (if_pos rfl), hzero hself, fun b hb => (hroster b).trans (if_neg hb), ?_, ?_⟩
      · rw [heq]
        rfl
      · rw [heq]
        rfl
    | joining =>
      rw [learnRoll_of_joining (s := a) hr]
      refine ⟨rosterAt_setRoster_same _ _ a, ?_, fun b hb => (rosterAt_setRoster _ b _ a).trans (if_neg hb), rfl, rfl⟩
      exact (hsilence e.sender).trans (if_pos ⟨rfl, by rw [hr]; decide, hself⟩)
    | member =>
      rw [learnRoll_of_member (s := a) hr]
      exact ⟨hr, (hsilence e.sender).trans (if_pos ⟨rfl, by rw [hr]; decide, hself⟩), fun b _ => rfl, rfl, rfl⟩
  · exact congrArg Host.Outcome.next ((exec_apply hfront).trans
      ((rollBody_learned (s := a) hp (by decide) hst).trans (learnRoll_of_listed (s := a) hlisted)))
  · exact congrArg Host.Outcome.next ((exec_apply hfront).trans
      ((rollBody_learned (s := a) hp (by decide) hst).trans (learnRoll_of_absent (s := a) habsent true)))
  · have hskip : ¬ (d.toNat = s.station.number ∧ s.station.state = .awaitCopy) := fun h => hother.elim (fun k => k h.1) (fun k => k h.2)
    refine congrArg Host.Outcome.next ((exec_apply hfront).trans ((dropBody_learned (s := a) hp hd hst).trans ?_))
    exact (if_neg hskip).trans (if_pos habsent)
  · have hskip : ¬ (d.toNat = s.station.number ∧ s.station.state = .awaitCopy) := fun h => hother.elim (fun k => k h.1) (fun k => k h.2)
    refine congrArg Host.Outcome.next ((exec_apply hfront).trans ((dropBody_learned (s := a) hp hd hst).trans ?_))
    exact (if_neg hskip).trans (if_neg hlisted)
  · have hbody : dropBody e a = nextAttempt .dropped (if rosterAt a d.toNat = .absent then a else unlist d.toNat a) :=
      (dropBody_learned (s := a) hp hd hst).trans (if_pos ⟨hself, hwait⟩)
    have hexec : exec .applyDrop s =
        .next (nextAttempt .dropped (if rosterAt a d.toNat = .absent then a else unlist d.toNat a)) :=
      congrArg Host.Outcome.next ((exec_apply hfront).trans hbody)
    refine ⟨_, hexec, ?_⟩
    generalize hv : (if rosterAt a d.toNat = .absent then a else unlist d.toNat a) = v
    have hrest : v.station = s.station ∧ v.notices = s.notices ∧ freePlaces v = freePlaces s ∧
        ∀ b, rosterAt v b = if b = d.toNat then .absent else rosterAt s b := by
      subst hv
      by_cases habsent : rosterAt a d.toNat = .absent
      · rw [if_pos habsent]
        refine ⟨rfl, rfl, rfl, fun b => ?_⟩
        by_cases hb : b = d.toNat
        · rw [if_pos hb, hb]
          exact habsent
        · rw [if_neg hb]
          rfl
      · rw [if_neg habsent, unlist]
        refine ⟨by simp [a], by simp [a], freePlaces_congr (by simp [a]) (by simp [a]) (by simp [a]), fun b => ?_⟩
        have hsame : rosterAt (setSilence d.toNat none (setRoster d.toNat .absent a)) b =
            rosterAt (setRoster d.toNat .absent a) b := by simp [rosterAt]
        rw [hsame, rosterAt_setRoster]
        rfl
    obtain ⟨hstation, hnotices, hplaces, hroster⟩ := hrest
    have hfree : 0 < freePlaces { v with station.attempts := v.station.attempts + 1 } := by
      rw [← hplaces] at hroom
      exact hroom
    rw [nextAttempt_of_left (by rw [hstation]; exact hleft), enterEntering_of_room hfree]
    refine ⟨?_, ?_, fun b => ?_⟩
    · rw [push_entries]
      simp [hnotices]
    · simp [hstation]
    · rw [← hroster b]
      simp [rosterAt]
  · obtain ⟨hask, hyield, hextend, hlapse, hcancel⟩ :=
      claimBodies_of_not_sharing (e := e) (s := a) (sharing_eq_false_of_learning hst)
    have hexec : exec p.1 s = .next a := by
      simp only [List.mem_cons, List.not_mem_nil, or_false] at hmem
      rcases hmem with rfl | rfl | rfl | rfl | rfl
      · exact congrArg Host.Outcome.next ((exec_apply hfront).trans hask)
      · exact congrArg Host.Outcome.next ((exec_apply hfront).trans hyield)
      · exact congrArg Host.Outcome.next ((exec_apply hfront).trans hextend)
      · exact congrArg Host.Outcome.next ((exec_apply hfront).trans hlapse)
      · exact congrArg Host.Outcome.next ((exec_apply hfront).trans hcancel)
    refine ⟨a, hexec, rfl, rfl, fun b => ?_, rfl, rfl⟩
    rw [hsilence b]
    by_cases hb : b = e.sender
    · rw [hb]
    · rw [if_neg fun h => hb h.1, if_neg fun h => hb h.1]

end Sys2Proof.Machine
end

/-! # TRAIN-HEAD and TRAIN-CLAIM: the obligation (6.3) -/

section
namespace Sys2Proof.Machine

open Sys2Proof (Byte BusFrame FrameEnd TryEnd Instr)

/-! ## The roster and the silence counters of a head (R114) -/

/-- A table built from numbers reads back what was put at each of them. -/
theorem Table.get_filterMap {α : Type} (d : α) (g : Nat → Option (Nat × α)) (hg : ∀ n p, g n = some p → p.1 = n)
    (k : Nat) : ∀ (l : List Nat), k ∈ l → Table.get d (l.filterMap g) k = (g k).elim d (·.2)
  | n :: l, hmem => by
    have hlater : k ∈ l → Table.get d (l.filterMap g) k = (g k).elim d (·.2) := Table.get_filterMap d g hg k l
    have hout : k ∉ l → Table.get d (l.filterMap g) k = d := fun hk =>
      Table.get_of_unlisted d _ k fun p hp hpk => by
        obtain ⟨m, hm, hgm⟩ := List.mem_filterMap.mp hp
        exact hk (((hg m p hgm).symm.trans hpk) ▸ hm)
    cases hgn : g n with
    | none =>
      rw [List.filterMap_cons_none hgn]
      by_cases hk : k ∈ l
      · exact hlater hk
      · rw [hout hk, (List.mem_cons.mp hmem).resolve_right hk, hgn]
        rfl
    | some p =>
      rw [List.filterMap_cons_some hgn]
      obtain ⟨j, v⟩ := p
      have hj : j = n := hg n _ hgn
      by_cases hn : n = k
      · rw [Table.get, if_pos (hj.trans hn), ← hn, hgn]
        rfl
      · rw [Table.get, if_neg fun h => hn (hj.symm.trans h)]
        exact hlater ((List.mem_cons.mp hmem).resolve_left fun h => hn h.symm)

theorem get_rosterOf {members joining : BitVec 32} {d : Nat} (hd : d < 32) :
    Table.get .absent (rosterOf members joining) d =
      if members.getLsbD d then .member else if joining.getLsbD d then .joining else .absent := by
  unfold rosterOf
  rw [Table.get_filterMap _ _ _ d (List.range Config.stationCount) (List.mem_range.mpr hd)]
  · unfold maskLists
    split
    · rfl
    · split <;> rfl
  · intro n p h
    split at h
    · cases h
      rfl
    · split at h
      · cases h
        rfl
      · cases h

theorem mem_rosterOf {members joining : BitVec 32} {d : Nat} (hd : d < 32) :
    (∃ p ∈ rosterOf members joining, p.1 = d) ↔ members.getLsbD d = true ∨ joining.getLsbD d = true := by
  unfold rosterOf
  constructor
  · rintro ⟨p, hp, hpd⟩
    obtain ⟨n, _, hn⟩ := List.mem_filterMap.mp hp
    unfold maskLists at hn
    split at hn
    next hm =>
      cases hn
      exact .inl (hpd ▸ hm)
    next =>
      split at hn
      next hj =>
        cases hn
        exact .inr (hpd ▸ hj)
      next => cases hn
  · intro h
    by_cases hm : members.getLsbD d = true
    · exact ⟨(d, .member), List.mem_filterMap.mpr ⟨d, List.mem_range.mpr hd, if_pos hm⟩, rfl⟩
    · exact ⟨(d, .joining), List.mem_filterMap.mpr ⟨d, List.mem_range.mpr hd,
        (if_neg hm).trans (if_pos (h.resolve_left hm))⟩, rfl⟩

/-- A silence counter starts for every listed station but this one (R114). -/
theorem get_silenceOf (self d : Nat) : ∀ (t : Table RosterEntry),
    Table.get none (silenceOf self t) d = if d ≠ self ∧ ∃ p ∈ t, p.1 = d then some 0 else none
  | [] => by simp [silenceOf, Table.get]
  | (j, v) :: t => by
    have ih := get_silenceOf self d t
    unfold silenceOf at ih ⊢
    by_cases hself : j = self
    · rw [List.filter_cons_of_neg (by simp [hself]), ih]
      have hsame : (d ≠ self ∧ ∃ p ∈ (j, v) :: t, p.1 = d) ↔ d ≠ self ∧ ∃ p ∈ t, p.1 = d := by
        refine and_congr_right fun hd => ?_
        simp only [List.mem_cons, exists_eq_or_imp]
        exact or_iff_right fun h => hd (h.symm.trans hself)
      rw [if_congr hsame rfl rfl]
    · rw [List.filter_cons_of_pos (by simp [hself]), List.map_cons, Table.get]
      by_cases hj : j = d
      · rw [if_pos hj, if_pos ⟨fun h => hself (hj.trans h), (j, v), List.mem_cons_self .., hj⟩]
      · rw [if_neg hj, ih]
        have hsame : (∃ p ∈ (j, v) :: t, p.1 = d) ↔ ∃ p ∈ t, p.1 = d := by
          simp only [List.mem_cons, exists_eq_or_imp]
          exact or_iff_right hj
        rw [if_congr (and_congr_right fun _ => hsame) rfl rfl]

/-! ## The holds of a claim (R81, R115) -/

theorem carriedOf_loadHold (c : Nat) (s : State) (h : HoldSlot × Nat) :
    (loadHold c s h).train = { s.train with carried := Table.set 0 s.train.carried (watchKey c h.1.station) h.2 } := by
  unfold loadHold
  dsimp only
  split
  · rw [startWatchAt_train]
  · rfl

@[simp] theorem loadHold_station (c : Nat) (s : State) (h : HoldSlot × Nat) : (loadHold c s h).station = s.station := by
  unfold loadHold
  dsimp only
  split
  · rw [startWatchAt_station]
  · rfl

/-- The ticks left of another hold of the claim stand. -/
theorem carried_foldl_of_unlisted {c b : Nat} (hb : b < 32) : ∀ (l : List (HoldSlot × Nat)) (s : State),
    (∀ h ∈ l, h.1.station < 32) → (∀ h ∈ l, h.1.station ≠ b) →
    Table.get 0 (l.foldl (loadHold c) s).train.carried (watchKey c b) = Table.get 0 s.train.carried (watchKey c b)
  | [], _, _, _ => rfl
  | h :: l, s, hin, hne => by
    have hkey : watchKey c b ≠ watchKey c h.1.station := fun hk =>
      hne h (List.mem_cons_self ..) (watchKey_inj hb (hin h (List.mem_cons_self ..)) hk).2.symm
    rw [List.foldl_cons, carried_foldl_of_unlisted hb l _ (fun x hx => hin x (List.mem_cons_of_mem _ hx))
      (fun x hx => hne x (List.mem_cons_of_mem _ hx)), carriedOf_loadHold]
    exact Table.get_set_other 0 _ _ _ _ hkey

/-- Each loaded hold keeps its ticks left (R81). -/
theorem carried_foldl {c : Nat} : ∀ (l : List (HoldSlot × Nat)) (s : State),
    (∀ h ∈ l, h.1.station < 32) → (l.map (·.1.station)).Nodup →
    ∀ h ∈ l, Table.get 0 (l.foldl (loadHold c) s).train.carried (watchKey c h.1.station) = h.2
  | [], _, _, _ => fun _ h => absurd h List.not_mem_nil
  | h :: l, s, hin, hnodup => by
    obtain ⟨hnot, hnodup⟩ := List.nodup_cons.mp hnodup
    have hrest : ∀ x ∈ l, x.1.station < 32 := fun x hx => hin x (List.mem_cons_of_mem _ hx)
    rw [List.forall_mem_cons]
    refine ⟨?_, carried_foldl l _ hrest hnodup⟩
    rw [List.foldl_cons, carried_foldl_of_unlisted (hin h (List.mem_cons_self ..)) l _ hrest
      (fun x hx heq => hnot (List.mem_map.mpr ⟨x, hx, heq⟩)), carriedOf_loadHold]
    exact Table.get_set_same 0 _ _ _

/-- Outside MEMBER a load touches no more than the ticks left (R115). -/
theorem foldl_loadHold_waiting {c : Nat} : ∀ (l : List (HoldSlot × Nat)) (s : State), s.station.state ≠ .member →
    l.foldl (loadHold c) s = { s with train.carried := (l.foldl (loadHold c) s).train.carried }
  | [], _, _ => rfl
  | h :: l, s, hs => by
    have hone : loadHold c s h = { s with train.carried := (loadHold c s h).train.carried } := by
      rw [carriedOf_loadHold]
      exact if_neg hs
    have ih := foldl_loadHold_waiting (c := c) l (loadHold c s h) (by rw [loadHold_station]; exact hs)
    rw [List.foldl_cons]
    generalize l.foldl (loadHold c) (loadHold c s h) = t at ih ⊢
    rw [ih, hone]

/-- A mistaken founder starts the watch of another station's hold (R81). -/
theorem loadHold_founder {c : Nat} {s : State} {h : HoldSlot × Nat} (hs : s.station.state = .member)
    (hh : h.1.station ≠ s.station.number) :
    loadHold c s h = setWatch c h.1.station (some ⟨h.1.serial, h.2 + max 2 (h.1.lease / 8), false⟩)
      { s with train.carried := Table.set 0 s.train.carried (watchKey c h.1.station) h.2 } :=
  (if_pos hs).trans (if_neg fun k => hh k.1)

theorem foldl_loadHold_founder {c : Nat} : ∀ (l : List (HoldSlot × Nat)) (s : State), s.station.state = .member →
    (∀ h ∈ l, h.1.station ≠ s.station.number) →
    l.foldl (loadHold c) s = { s with
      train.carried := (l.foldl (loadHold c) s).train.carried
      watch.watches := (l.foldl (loadHold c) s).watch.watches }
  | [], _, _, _ => rfl
  | h :: l, s, hs, hne => by
    have hone : loadHold c s h = { s with
        train.carried := (loadHold c s h).train.carried
        watch.watches := (loadHold c s h).watch.watches } := by
      rw [loadHold_founder hs (hne h (List.mem_cons_self ..))]
      rfl
    have ih := foldl_loadHold_founder (c := c) l (loadHold c s h) (by rw [loadHold_station]; exact hs)
      (fun x hx => by rw [loadHold_station]; exact hne x (List.mem_cons_of_mem _ hx))
    rw [List.foldl_cons]
    generalize l.foldl (loadHold c) (loadHold c s h) = t at ih ⊢
    rw [ih, hone]

theorem watchAt_setWatch_other {c h b k : Nat} {w : Option Watch} {s : State} (hne : watchKey b k ≠ watchKey c h) :
    watchAt (setWatch c h w s) b k = watchAt s b k :=
  Table.get_set_other none s.watch.watches (watchKey c h) (watchKey b k) w hne

theorem watchAt_foldl_of_unlisted {c b : Nat} (hb : b < 32) : ∀ (l : List (HoldSlot × Nat)) (s : State),
    s.station.state = .member → (∀ h ∈ l, h.1.station ≠ s.station.number) → (∀ h ∈ l, h.1.station < 32) →
    (∀ h ∈ l, h.1.station ≠ b) → watchAt (l.foldl (loadHold c) s) c b = watchAt s c b
  | [], _, _, _, _, _ => rfl
  | h :: l, s, hs, hself, hin, hne => by
    have hkey : watchKey c b ≠ watchKey c h.1.station := fun hk =>
      hne h (List.mem_cons_self ..) (watchKey_inj hb (hin h (List.mem_cons_self ..)) hk).2.symm
    rw [List.foldl_cons, watchAt_foldl_of_unlisted hb l _ (by rw [loadHold_station]; exact hs)
      (fun x hx => by rw [loadHold_station]; exact hself x (List.mem_cons_of_mem _ hx))
      (fun x hx => hin x (List.mem_cons_of_mem _ hx)) (fun x hx => hne x (List.mem_cons_of_mem _ hx)),
      loadHold_founder hs (hself h (List.mem_cons_self ..))]
    exact watchAt_setWatch_other hkey

/-- Each hold that a mistaken founder loads has its watch, at the ticks left plus the grace (R81). -/
theorem watchAt_foldl_founder {c : Nat} : ∀ (l : List (HoldSlot × Nat)) (s : State), s.station.state = .member →
    (∀ h ∈ l, h.1.station ≠ s.station.number) → (∀ h ∈ l, h.1.station < 32) → (l.map (·.1.station)).Nodup →
    ∀ h ∈ l, watchAt (l.foldl (loadHold c) s) c h.1.station = some ⟨h.1.serial, h.2 + max 2 (h.1.lease / 8), false⟩
  | [], _, _, _, _, _ => fun _ h => absurd h List.not_mem_nil
  | h :: l, s, hs, hself, hin, hnodup => by
    obtain ⟨hnot, hnodup⟩ := List.nodup_cons.mp hnodup
    have hst : (loadHold c s h).station.state = .member := by rw [loadHold_station]; exact hs
    have hself' : ∀ x ∈ l, x.1.station ≠ (loadHold c s h).station.number := fun x hx => by
      rw [loadHold_station]
      exact hself x (List.mem_cons_of_mem _ hx)
    have hrest : ∀ x ∈ l, x.1.station < 32 := fun x hx => hin x (List.mem_cons_of_mem _ hx)
    rw [List.forall_mem_cons]
    refine ⟨?_, watchAt_foldl_founder l _ hst hself' hrest hnodup⟩
    rw [List.foldl_cons, watchAt_foldl_of_unlisted (hin h (List.mem_cons_self ..)) l _ hst hself' hrest
      (fun x hx heq => hnot (List.mem_map.mpr ⟨x, hx, heq⟩)), loadHold_founder hs (hself h (List.mem_cons_self ..))]
    exact watchAt_setWatch_same c _ _ _

/-- Settles O50: the record, and what a station that loads writes. -/
theorem trainIsLoaded : Obligations.TrainIsLoaded := by
  intro s e rest
  refine ⟨fun h hfront hp hcont => ?_, fun r f hfront hcont hp hr => ?_⟩
  · intro record a
    have hexec : exec .applyTrainHead s = .next (trainHeadBody e a) :=
      congrArg Host.Outcome.next (exec_apply hfront)
    refine ⟨fun hl hpart => ?_, fun hl hst => ?_⟩
    · rw [hexec]
      refine congrArg _ ?_
      have hcopy : ¬ a.train.partialCopy = true := by
        show ¬ s.train.partialCopy = true
        rw [hpart]
        decide
      simp only [trainHeadBody, hp, hl, Bool.false_and, Bool.false_eq_true, if_false, if_neg hcopy]
      rfl
    · have hloads : (e.loads && (a.station.state == .awaitCopy || a.station.state == .member)) = true := by
        rw [hl, Bool.true_and, Bool.or_eq_true, beq_iff_eq, beq_iff_eq]
        exact hst
      have hbody : trainHeadBody e a = loadHead h { a with apply.record := some (record true) } := by
        simp only [trainHeadBody, hp, hloads, if_true]
        rfl
      refine ⟨_, hexec.trans (congrArg _ hbody), rfl, rfl, rfl, rfl, rfl, rfl, fun d hd => ⟨get_rosterOf hd, ?_⟩⟩
      have hsilence : silenceAt (loadHead h { a with apply.record := some (record true) }) d = _ :=
        get_silenceOf s.station.number d (rosterOf h.members h.joining)
      rw [hsilence, if_congr (and_congr_right fun _ => mem_rosterOf hd) rfl rfl]
  · intro a counted
    have hrecord : (atFront e rest s).apply.record = some r := by
      show (if e.continuation then s.apply.record else none) = _
      rw [hcont, if_pos rfl, hr]
    have hexec : exec .applyTrainClaim s = .next (if r.loading then loadClaim f counted else counted) := by
      refine (congrArg Host.Outcome.next (exec_apply hfront)).trans (congrArg _ ?_)
      simp only [trainClaimBody, hrecord, hp]
      rfl
    refine ⟨fun hl => ?_, fun hl hst hnodup hin => ?_⟩
    · rw [hexec, hl]
      rfl
    · rw [if_pos hl] at hexec
      refine ⟨_, hexec, loadClaim_replica f counted, carried_foldl f.holders _ hin hnodup, fun hwait => ?_, fun hm hself => ⟨?_, ?_⟩⟩
      · have hfold := foldl_loadHold_waiting (c := f.claim) f.holders
          (setClaim f.claim ⟨f.serial, f.holders.map (·.1), f.waiters⟩ counted) (by
            show s.station.state ≠ .member
            rw [hwait]
            decide)
        have hreplica := loadClaim_replica f counted
        unfold loadClaim at hreplica ⊢
        generalize f.holders.foldl _ _ = t at hfold hreplica ⊢
        rw [hreplica]
        exact hfold
      · exact watchAt_foldl_founder f.holders _ hm hself hin hnodup
      · have hfold := foldl_loadHold_founder (c := f.claim) f.holders
          (setClaim f.claim ⟨f.serial, f.holders.map (·.1), f.waiters⟩ counted) hm hself
        have hreplica := loadClaim_replica f counted
        unfold loadClaim at hreplica ⊢
        generalize f.holders.foldl _ _ = t at hfold hreplica ⊢
        rw [hreplica]
        exact hfold

end Sys2Proof.Machine
end

/-! # TRAIN-TAIL: the obligation (6.4) -/

section
namespace Sys2Proof.Machine

open Sys2Proof (Byte BusFrame FrameEnd TryEnd Instr)

/-! ## The commit in the roster (R117) -/

theorem foldl_commitStation (joining : BitVec 32) : ∀ (l : List Nat) (s : State), l.Nodup →
    (∀ d, rosterAt (l.foldl (commitStation joining) s) d =
      if d ∈ l ∧ joining.getLsbD d = true ∧ rosterAt s d = .joining then .member else rosterAt s d) ∧
    l.foldl (commitStation joining) s =
      { s with replica.roster := (l.foldl (commitStation joining) s).replica.roster }
  | [], s, _ => ⟨fun d => (if_neg fun h => absurd h.1 List.not_mem_nil).symm, rfl⟩
  | a :: l, s, hnodup => by
    obtain ⟨hnot, hnodup⟩ := List.nodup_cons.mp hnodup
    obtain ⟨hroster, heq⟩ := foldl_commitStation joining l (commitStation joining s a) hnodup
    have hone : ∀ d, rosterAt (commitStation joining s a) d =
        if d = a ∧ joining.getLsbD d = true ∧ rosterAt s d = .joining then .member else rosterAt s d := fun d => by
      unfold commitStation
      by_cases hc : maskLists joining a = true ∧ rosterAt s a = .joining
      · rw [if_pos hc, rosterAt_setRoster]
        by_cases hd : d = a
        · rw [if_pos hd, if_pos ⟨hd, hd ▸ hc.1, hd ▸ hc.2⟩]
        · rw [if_neg hd, if_neg fun h => hd h.1]
      · rw [if_neg hc, if_neg fun ⟨hd, h1, h2⟩ => hc ⟨hd ▸ h1, hd ▸ h2⟩]
    have hsame : commitStation joining s a =
        { s with replica.roster := (commitStation joining s a).replica.roster } := by
      unfold commitStation
      split <;> rfl
    rw [List.foldl_cons]
    refine ⟨fun d => ?_, ?_⟩
    · rw [hroster d, hone d]
      by_cases hd : d = a
      · subst hd
        simp [hnot]
      · simp [hd]
    · generalize l.foldl (commitStation joining) (commitStation joining s a) = t at heq ⊢
      rw [heq, hsame]

/-! ## The watches of a loaded copy (R81, R118) -/

/-- Without a tag in use no warn latch is set, so that a start of a watch writes that watch only (R74). -/
theorem startLoaded_of_noTags {c : Nat} {s : State} (hn : NoTags s) (h : HoldSlot) :
    ∃ w, startLoaded c s h = setWatch c h.station w s ∧ (h.station ≠ s.station.number →
      w = some ⟨h.serial, Table.get 0 s.train.carried (watchKey c h.station) + max 2 (h.lease / 8), false⟩) := by
  unfold startLoaded startWatchAt
  split
  next hown =>
    refine ⟨some ⟨h.serial, Table.get 0 s.train.carried (watchKey c h.station) + grace h.lease, true⟩, ?_,
      fun hne => absurd hown.1 hne⟩
    generalize hv : setWatch c h.station _ s = v
    have hnone : findTag v c allPhases = none := findTag_of_unnamed (fun u hu hin => by
      subst hv
      exact absurd ((hn u hu).symm.trans hin) (by decide)) _
    rw [latchWarn, hnone]
  next => exact ⟨_, rfl, fun _ => rfl⟩

/-- `t` differs from `s` in lease watches only. -/
def WatchesOnly (s t : State) : Prop := t = { s with watch.watches := t.watch.watches }

theorem WatchesOnly.trans {s t u : State} (h1 : WatchesOnly s t) (h2 : WatchesOnly t u) : WatchesOnly s u := by
  unfold WatchesOnly at h1 h2 ⊢
  rw [h2, h1]

theorem WatchesOnly.noTags {s t : State} (h : WatchesOnly s t) (hn : NoTags s) : NoTags t := fun n hn16 => by
  rw [h]
  exact hn n hn16

theorem WatchesOnly.setWatch (c h : Nat) (w : Option Watch) (s : State) : WatchesOnly s (setWatch c h w s) := rfl

theorem foldl_startLoaded {c : Nat} : ∀ (l : List HoldSlot) (s : State), NoTags s →
    WatchesOnly s (l.foldl (startLoaded c) s)
  | [], _, _ => rfl
  | h :: l, s, hn => by
    obtain ⟨w, hw, _⟩ := startLoaded_of_noTags (c := c) hn h
    rw [List.foldl_cons, hw]
    exact (WatchesOnly.setWatch c h.station w s).trans (foldl_startLoaded l _ hn)

theorem foldl_startLoadedOn : ∀ (l : List Nat) (s : State), NoTags s → WatchesOnly s (l.foldl startLoadedOn s)
  | [], _, _ => rfl
  | c :: l, s, hn => by
    have hone : WatchesOnly s (startLoadedOn s c) := foldl_startLoaded (claimAt s c).holders s hn
    rw [List.foldl_cons]
    exact hone.trans (foldl_startLoadedOn l _ (hone.noTags hn))

/-- The watch of a hold that is not among those started stands. -/
theorem watchAt_startLoaded_of_unlisted {c b k : Nat} (hk : k < 32) : ∀ (l : List HoldSlot) (s : State), NoTags s →
    (∀ h ∈ l, h.station < 32) → (b = c → ∀ h ∈ l, h.station ≠ k) →
    watchAt (l.foldl (startLoaded c) s) b k = watchAt s b k
  | [], _, _, _, _ => rfl
  | h :: l, s, hn, hin, hne => by
    obtain ⟨w, hw, _⟩ := startLoaded_of_noTags (c := c) hn h
    have hkey : watchKey b k ≠ watchKey c h.station := fun he => by
      obtain ⟨hb, hst⟩ := watchKey_inj hk (hin h (List.mem_cons_self ..)) he
      exact hne hb h (List.mem_cons_self ..) hst.symm
    rw [List.foldl_cons, hw, watchAt_startLoaded_of_unlisted hk l (setWatch c h.station w s) hn (fun x hx => hin x (List.mem_cons_of_mem _ hx))
      (fun hb x hx => hne hb x (List.mem_cons_of_mem _ hx))]
    exact watchAt_setWatch_other hkey

/-- Each loaded hold of another station on the claim has its watch, at the ticks left plus the grace (R81). -/
theorem watchAt_startLoaded {c : Nat} : ∀ (l : List HoldSlot) (s : State), NoTags s → (∀ h ∈ l, h.station < 32) →
    (l.map (·.station)).Nodup → ∀ h ∈ l, h.station ≠ s.station.number →
    watchAt (l.foldl (startLoaded c) s) c h.station =
      some ⟨h.serial, Table.get 0 s.train.carried (watchKey c h.station) + max 2 (h.lease / 8), false⟩
  | [], _, _, _, _ => fun _ h => absurd h List.not_mem_nil
  | h :: l, s, hn, hin, hnodup => by
    obtain ⟨hnot, hnodup⟩ := List.nodup_cons.mp hnodup
    have hrest : ∀ x ∈ l, x.station < 32 := fun x hx => hin x (List.mem_cons_of_mem _ hx)
    obtain ⟨w, hw, hother⟩ := startLoaded_of_noTags (c := c) hn h
    rw [List.forall_mem_cons, List.foldl_cons, hw]
    refine ⟨fun hself => ?_, watchAt_startLoaded l (setWatch c h.station w s) hn hrest hnodup⟩
    rw [watchAt_startLoaded_of_unlisted (hin h (List.mem_cons_self ..)) l (setWatch c h.station w s) hn hrest
      (fun _ x hx heq => hnot (List.mem_map.mpr ⟨x, hx, heq⟩)), watchAt_setWatch_same]
    exact hother hself

theorem watchAt_startLoadedOn_of_unlisted {b k : Nat} (hk : k < 32) : ∀ (l : List Nat) (s : State), NoTags s →
    (∀ c ∈ l, ∀ h ∈ (claimAt s c).holders, h.station < 32) → b ∉ l →
    watchAt (l.foldl startLoadedOn s) b k = watchAt s b k
  | [], _, _, _, _ => rfl
  | c :: l, s, hn, hin, hb => by
    have hone : WatchesOnly s (startLoadedOn s c) := foldl_startLoaded (claimAt s c).holders s hn
    have hclaims : ∀ x, claimAt (startLoadedOn s c) x = claimAt s x := fun x => by rw [hone]; rfl
    rw [List.foldl_cons, watchAt_startLoadedOn_of_unlisted hk l _ (hone.noTags hn)
      (fun x hx => by rw [hclaims]; exact hin x (List.mem_cons_of_mem _ hx)) (fun h => hb (List.mem_cons_of_mem _ h))]
    exact watchAt_startLoaded_of_unlisted hk _ s hn (hin c (List.mem_cons_self ..))
      (fun h => absurd (h ▸ List.mem_cons_self ..) hb)

theorem watchAt_startLoadedOn : ∀ (l : List Nat) (s : State), NoTags s → l.Nodup →
    (∀ c ∈ l, ∀ h ∈ (claimAt s c).holders, h.station < 32) →
    ∀ c ∈ l, ((claimAt s c).holders.map (·.station)).Nodup → ∀ h ∈ (claimAt s c).holders, h.station ≠ s.station.number →
      watchAt (l.foldl startLoadedOn s) c h.station =
        some ⟨h.serial, Table.get 0 s.train.carried (watchKey c h.station) + max 2 (h.lease / 8), false⟩
  | [], _, _, _, _ => fun _ h => absurd h List.not_mem_nil
  | a :: l, s, hn, hnodup, hin => by
    obtain ⟨hnot, hnodup⟩ := List.nodup_cons.mp hnodup
    have hone : WatchesOnly s (startLoadedOn s a) := foldl_startLoaded (claimAt s a).holders s hn
    have hclaims : ∀ x, claimAt (startLoadedOn s a) x = claimAt s x := fun x => by rw [hone]; rfl
    have hstation : (startLoadedOn s a).station = s.station := by rw [hone]
    have hcarried : (startLoadedOn s a).train = s.train := by rw [hone]
    have hrest : ∀ c ∈ l, ∀ h ∈ (claimAt (startLoadedOn s a) c).holders, h.station < 32 := fun c hc => by
      rw [hclaims]
      exact hin c (List.mem_cons_of_mem _ hc)
    rw [List.forall_mem_cons, List.foldl_cons]
    refine ⟨fun hd h hh hself => ?_, fun c hc hd h hh hself => ?_⟩
    · rw [watchAt_startLoadedOn_of_unlisted (hin a (List.mem_cons_self ..) h hh) l _ (hone.noTags hn) hrest hnot]
      exact watchAt_startLoaded _ s hn (hin a (List.mem_cons_self ..)) hd h hh hself
    · have ih := watchAt_startLoadedOn l (startLoadedOn s a) (hone.noTags hn) hnodup hrest c hc
      rw [hclaims, hstation, hcarried] at ih
      exact ih hd h hh hself

/-! ## The tags of a mistaken founder (R119) -/

/-- `t` leaves tag `n` as it was but for its warn latch. -/
def SameTag (n : Nat) (s t : State) : Prop :=
  (tagAt t n).inUse = (tagAt s n).inUse ∧ (tagAt t n).phase = (tagAt s n).phase ∧
    (tagAt t n).claim = (tagAt s n).claim

theorem SameTag.trans {n : Nat} {s t u : State} (h1 : SameTag n s t) (h2 : SameTag n t u) : SameTag n s u :=
  ⟨h2.1.trans h1.1, h2.2.1.trans h1.2.1, h2.2.2.trans h1.2.2⟩

theorem reconcileTag_cases (s : State) (n : Nat) : reconcileTag s n = s ∨ reconcileTag s n = endTagIfUsed .copy s n := by
  unfold reconcileTag
  extract_lets stays
  split
  · exact .inl rfl
  · exact .inr rfl

/-- The ending of another tag leaves this one (R173). -/
theorem reconcileTag_other {n m : Nat} (hm : n ≠ m) (s : State) : SameTag n s (reconcileTag s m) := by
  rcases reconcileTag_cases s m with h | h
  · rw [h]
    exact ⟨rfl, rfl, rfl⟩
  · rw [h]
    unfold endTagIfUsed
    split
    · obtain ⟨w, hw⟩ := endTag_tagAt m n (endNotice m (tagAt s m).phase .copy) s
      rw [if_neg hm] at hw
      unfold SameTag
      rw [hw]
      exact ⟨rfl, rfl, rfl⟩
    · exact ⟨rfl, rfl, rfl⟩

@[simp] theorem reconcileTag_station (s : State) (n : Nat) : (reconcileTag s n).station = s.station := by
  rcases reconcileTag_cases s n with h | h
  · rw [h]
  · rw [h]
    simp

theorem reconcileTag_noticesStay (s : State) (n : Nat) : NoticesStay s (reconcileTag s n) := by
  rcases reconcileTag_cases s n with h | h
  · rw [h]
    exact .refl s
  · rw [h]
    exact endTagIfUsed_noticesStay .copy s n

theorem reconcileTag_inUse {s : State} {n : Nat} (h : (tagAt s n).inUse = false) (m : Nat) :
    (tagAt (reconcileTag s m) n).inUse = false := by
  rcases reconcileTag_cases s m with hm | hm
  · rw [hm, h]
  · rw [hm, endTagIfUsed_inUse, h, ite_self]

/-- A tag that the copy does not show ends with cause COPY (R119). -/
theorem foldl_reconcileTag_ends {n : Nat} {s : State} (hu : (tagAt s n).inUse = true)
    (hends : ∀ t, SameTag n s t → t.replica = s.replica → t.station = s.station →
      reconcileTag t n = endTagIfUsed .copy t n) : ∀ (l : List Nat) (t : State), n ∈ l → SameTag n s t →
    t.replica = s.replica → t.station = s.station →
    (tagAt (l.foldl reconcileTag t) n).inUse = false ∧
      endNotice n (tagAt s n).phase .copy ∈ (l.foldl reconcileTag t).notices.entries
  | [], _, h, _, _, _ => absurd h List.not_mem_nil
  | m :: l, t, hmem, hsame, hreplica, hstation => by
    rw [List.foldl_cons]
    by_cases hm : n = m
    · subst hm
      rw [hends t hsame hreplica hstation]
      have hnow : endNotice n (tagAt s n).phase .copy ∈ (endTagIfUsed .copy t n).notices.entries := by
        rw [endTagIfUsed, if_pos (hsame.1.trans hu), hsame.2.1]
        exact mem_endTag n (endNotice_lasting _ _ _) t
      have hfree : (tagAt (endTagIfUsed .copy t n) n).inUse = false := by rw [endTagIfUsed_inUse, if_pos rfl]
      exact ⟨foldl_preserves (P := fun t => (tagAt t n).inUse = false) (fun t m h => reconcileTag_inUse h m) l hfree,
        foldl_noticesStay reconcileTag_noticesStay l _ _ (endNotice_lasting _ _ _) hnow⟩
    · exact foldl_reconcileTag_ends hu hends l _ ((List.mem_cons.mp hmem).resolve_left hm)
        (hsame.trans (reconcileTag_other hm t)) ((reconcileTag_replica t m).trans hreplica)
        ((reconcileTag_station t m).trans hstation)

/-- One that is still SENDING stays (R119). -/
theorem foldl_reconcileTag_sending {n : Nat} : ∀ (l : List Nat) (t : State), (tagAt t n).inUse = true →
    (tagAt t n).phase = some .sending →
    (tagAt (l.foldl reconcileTag t) n).inUse = true ∧ (tagAt (l.foldl reconcileTag t) n).phase = some .sending
  | [], _, hu, hp => ⟨hu, hp⟩
  | m :: l, t, hu, hp => by
    rw [List.foldl_cons]
    by_cases hm : n = m
    · subst hm
      have hstay : reconcileTag t n = t := by
        unfold reconcileTag
        rw [hp]
        rfl
      rw [hstay]
      exact foldl_reconcileTag_sending l t hu hp
    · obtain ⟨h1, h2, _⟩ := reconcileTag_other hm t
      exact foldl_reconcileTag_sending l _ (h1.trans hu) (h2.trans hp)

theorem reconcileTag_granted {n : Nat} {s : State} (hp : (tagAt s n).phase = some .held ∨ (tagAt s n).phase = some .yielding)
    (hno : ∀ h ∈ (claimAt s (tagAt s n).claim).holders, h.station ≠ s.station.number) :
    reconcileTag s n = endTagIfUsed .copy s n := by
  have hholds : holdsClaim s (tagAt s n).claim s.station.number = false :=
    List.any_eq_false.mpr fun h hm => by simp [hno h hm]
  unfold reconcileTag
  rcases hp with hp | hp
  · simp [hp, hholds]
  · simp [hp, hholds]

theorem reconcileTag_waiting {n : Nat} {s : State}
    (hp : (tagAt s n).phase = some .waiting ∨ (tagAt s n).phase = some .cancelling)
    (hno : ∀ w ∈ (claimAt s (tagAt s n).claim).waiters, w.station ≠ s.station.number) :
    reconcileTag s n = endTagIfUsed .copy s n := by
  have hwaits : waitsOn s (tagAt s n).claim s.station.number = false :=
    List.any_eq_false.mpr fun h hm => by simp [hno h hm]
  unfold reconcileTag
  rcases hp with hp | hp
  · simp [hp, hwaits]
  · simp [hp, hwaits]

/-! ## The DROPs of a mistaken founder (R119, log entry 35) -/

/-- Every DROP queued for a listed station is marked superseded. -/
def DropsSuperseded (s : State) : Prop :=
  ∀ x ∈ s.tx.entries, ∀ d, x.frame = .drop d → rosterAt s d ≠ .absent → x.superseded = true

theorem supersedeDrops_superseded (s : State) : DropsSuperseded (supersedeDrops s) := by
  intro x hx d hf hr
  obtain ⟨e, _, rfl⟩ := List.mem_map.mp hx
  cases he : e.frame with
  | drop k =>
    simp only [he] at hf ⊢
    split at hf
    next habsent =>
      have hk : k = d := TxFrame.drop.inj (he.symm.trans hf)
      exact absurd (hk ▸ habsent) hr
    next hlisted => rw [if_neg hlisted]
  | _ =>
    simp only [he] at hf
    exact absurd hf nofun

theorem endTag_superseded {n : Nat} {m : Notice} {s : State} (h : DropsSuperseded s) : DropsSuperseded (endTag n m s) := by
  intro x hx d hf hr
  have htx : (endTag n m s).tx = (withdrawBound n s).tx := by simp [endTag]
  rw [htx] at hx
  obtain ⟨e, he, rfl⟩ := List.mem_map.mp hx
  have hmem := (List.mem_filter.mp he).1
  have hroster : rosterAt (endTag n m s) d = rosterAt s d := by simp [rosterAt]
  split at hf
  · rw [if_pos ‹_›]
    exact h e hmem d hf (hroster ▸ hr)
  · rw [if_neg ‹_›]
    exact h e hmem d hf (hroster ▸ hr)

theorem reconcileTag_superseded (s : State) (n : Nat) (h : DropsSuperseded s) : DropsSuperseded (reconcileTag s n) := by
  rcases reconcileTag_cases s n with hc | hc
  · rw [hc]
    exact h
  · rw [hc]
    unfold endTagIfUsed
    split
    · exact endTag_superseded h
    · exact h

/-- Settles O51: the roster's commit, then the loader's part by its state. -/
theorem trainTailCommits : Obligations.TrainTailCommits := by
  intro s e rest r hfront hcont hr committed
  have hrecord : (atFront e rest s).apply.record = some r := by
    show (if e.continuation then s.apply.record else none) = _
    rw [hcont, if_pos rfl, hr]
  obtain ⟨hroster, heq⟩ := foldl_commitStation r.joining (List.range Config.stationCount)
    { atFront e rest s with apply.record := none } List.nodup_range
  have hexec : exec .applyTrainTail s = .next
      (if r.loading then
        loaderCommit (if e.own then sourceCommit (commitRoster r.joining { atFront e rest s with apply.record := none })
          else commitRoster r.joining { atFront e rest s with apply.record := none })
      else if e.own then sourceCommit (commitRoster r.joining { atFront e rest s with apply.record := none })
        else commitRoster r.joining { atFront e rest s with apply.record := none }) := by
    refine (congrArg Host.Outcome.next (exec_apply hfront)).trans (congrArg _ ?_)
    simp only [trainTailBody, hrecord]
  unfold commitRoster at hexec
  generalize hu : (List.range Config.stationCount).foldl (commitStation r.joining)
    { atFront e rest s with apply.record := none } = u at hroster heq hexec
  have hcommitted : ∀ t : State, t.replica = u.replica → t.apply = u.apply → committed t := fun t hrep happ => by
    refine ⟨?_, ?_, fun d hd => ?_⟩
    · rw [hrep, heq]
      rfl
    · rw [happ, heq]
      rfl
    · have ht : rosterAt t d = rosterAt u d := by rw [rosterAt, hrep]; rfl
      rw [ht, hroster d]
      exact if_congr (and_iff_right (List.mem_range.mpr hd)) rfl rfl
  have hstation : u.station = s.station := by rw [heq]; rfl
  have htags : u.tags = s.tags := by rw [heq]; rfl
  have hnotices : u.notices = s.notices := by rw [heq]; rfl
  have hport : u.port = s.port := by rw [heq]; rfl
  have hclaims : ∀ c, claimAt u c = claimAt s c := fun c => by rw [heq]; rfl
  refine ⟨fun hl => ?_, fun hl ho hwait hn h32 hroom => ?_, fun hl ho hm => ?_⟩
  · rw [hl, if_neg Bool.false_ne_true] at hexec
    refine ⟨_, hexec, ?_⟩
    cases ho : e.own with
    | false =>
      exact ⟨hcommitted u rfl rfl, hstation, htags, hnotices, nofun, fun _ => by
        show u.tx = s.tx
        rw [heq]
        rfl⟩
    | true =>
      refine ⟨hcommitted (sourceCommit u) rfl rfl, hstation, htags, hnotices, fun _ => ⟨rfl, fun x => ?_⟩, nofun⟩
      have hentries : u.tx.entries = s.tx.entries := by rw [heq]; rfl
      show x ∈ u.tx.entries.filter _ ↔ _
      rw [List.mem_filter, hentries, Bool.not_eq_true', Bool.and_eq_false_iff, beq_eq_false_iff_ne, not_and_or,
        Bool.not_eq_true]
  · rw [if_pos hl, ho, if_neg Bool.false_ne_true] at hexec
    have hnone : NoTags u := fun n hn16 => by rw [tagAt, htags]; exact hn n hn16
    have hfold := foldl_startLoadedOn (List.range Config.claimCount) u hnone
    have hwatch := watchAt_startLoadedOn (List.range Config.claimCount) u hnone List.nodup_range
    have hloader : loaderCommit u = joinCommit u := by
      unfold loaderCommit
      rw [hstation, hwait]
    refine ⟨_, hexec.trans (congrArg _ hloader), ?_⟩
    have htrain : u.train = s.train := by rw [heq]; rfl
    unfold joinCommit
    generalize (List.range Config.claimCount).foldl startLoadedOn u = v at hfold hwatch ⊢
    have hplaces : 0 < freePlaces (loaderReady v) := by
      have hsame : freePlaces (loaderReady v) = freePlaces s := by
        refine freePlaces_congr ?_ ?_ ?_
        · rw [hfold]
          exact congrArg NoticeQueue.entries hnotices
        · rw [hfold]
          exact congrArg HostPort.reading hport
        · rw [hfold]
          exact htags
      rw [hsame]
      exact hroom
    rw [moveTo_of_room hplaces]
    refine ⟨hcommitted _ ?_ ?_, rfl, rfl, rfl, rfl, ?_, ?_, fun hin c hc hd h hh hself => ?_⟩
    · rw [hfold]
      rfl
    · rw [hfold]
      rfl
    · show v.notices.entries ++ _ = _
      rw [hfold]
      show u.notices.entries ++ _ = _
      rw [hnotices]
    · show ({ v.station with state := .member, attempts := 0, disagree := 0, lastCause := .joined } : StationController) = _
      rw [hfold]
      show ({ u.station with state := .member, attempts := 0, disagree := 0, lastCause := .joined } : StationController) = _
      rw [hstation]
    · have hvw := hwatch (fun c hc => by rw [hclaims]; exact hin c (List.mem_range.mp hc)) c (List.mem_range.mpr hc)
      rw [hclaims, hstation, htrain] at hvw
      exact hvw hd h hh hself
  · rw [if_pos hl, ho, if_neg Bool.false_ne_true] at hexec
    have hloader : loaderCommit u = founderCommit u := by
      unfold loaderCommit
      rw [hstation, hm]
    refine ⟨_, hexec.trans (congrArg _ hloader), ?_⟩
    have hvtags : ∀ n, tagAt (supersedeDrops (loaderReady u)) n = tagAt s n := fun n => by
      show Table.get _ u.tags n = _
      rw [htags]
      rfl
    have hvstation : (supersedeDrops (loaderReady u)).station = { s.station with attempts := 0, disagree := 0 } := by
      rw [← hstation]
      rfl
    have hvclaims : ∀ c, claimAt (supersedeDrops (loaderReady u)) c = claimAt s c := hclaims
    have hvrest : (supersedeDrops (loaderReady u)).replica = u.replica ∧
        (supersedeDrops (loaderReady u)).apply = u.apply ∧
        (supersedeDrops (loaderReady u)).watch.roll = some 0 ∧
        (supersedeDrops (loaderReady u)).train.partialCopy = false := ⟨rfl, rfl, rfl, rfl⟩
    have hdrops := supersedeDrops_superseded (loaderReady u)
    unfold founderCommit
    generalize supersedeDrops (loaderReady u) = v at hvtags hvstation hvclaims hvrest hdrops ⊢
    have hends := fun n (hn : n < 16) (hu : (tagAt v n).inUse = true) h =>
      foldl_reconcileTag_ends (n := n) (s := v) hu h (List.range Config.tagCount) v (List.mem_range.mpr hn)
        ⟨rfl, rfl, rfl⟩ rfl rfl
    have hsending := fun n (hu : (tagAt v n).inUse = true) h =>
      foldl_reconcileTag_sending (n := n) (List.range Config.tagCount) v hu h
    have hwdrops := foldl_preserves (P := DropsSuperseded) (fun t n h => reconcileTag_superseded t n h) (List.range Config.tagCount) hdrops
    have hkeep : (((List.range Config.tagCount).foldl reconcileTag v).replica,
        ((List.range Config.tagCount).foldl reconcileTag v).apply,
        ((List.range Config.tagCount).foldl reconcileTag v).watch,
        ((List.range Config.tagCount).foldl reconcileTag v).train,
        ((List.range Config.tagCount).foldl reconcileTag v).station) =
        (v.replica, v.apply, v.watch, v.train, v.station) :=
      foldl_keeps (fun s : State => (s.replica, s.apply, s.watch, s.train, s.station)) reconcileTag (fun t n => by
        rcases reconcileTag_cases t n with h | h
        · rw [h]
        · rw [h]
          simp) _ v
    generalize (List.range Config.tagCount).foldl reconcileTag v = w at hends hsending hwdrops hkeep ⊢
    simp only [Prod.mk.injEq] at hkeep
    obtain ⟨h1, h2, h3, h4, h5⟩ := hkeep
    obtain ⟨hrep, happ, hroll, hpart⟩ := hvrest
    have hstay := moveTo_noticesStay .member .copy w
    have hmovedTag : ∀ n, tagAt (moveTo .member .copy w) n = tagAt w n := fun n => by simp [tagAt]
    refine ⟨hcommitted _ ?_ ?_, ?_, ?_, fun x hx d hd hf hlisted => ?_, ?_, fun n hn hu => ⟨fun hp hno => ?_, fun hp hno => ?_, fun hp => ?_⟩⟩
    · rw [moveTo_replica, h1, hrep]
    · rw [moveTo_apply, h2, happ]
    · rw [moveTo_watch, h3, hroll]
    · rw [moveTo_train, h4, hpart]
    · have hmark : x.superseded = true := by
        refine hwdrops x ?_ d hf ?_
        · simpa using hx
        · simpa [rosterAt] using hlisted
      rw [Stale, hf]
      exact .inl hmark
    · have hmoved : (moveTo .member .copy w).station = { w.station with state := .member, lastCause := .copy } := by
        simp [moveTo, postState, setState]
      rw [hmoved, h5, hvstation, ← hm]
    · obtain ⟨hfree, hnotice⟩ := hends n hn (by rw [hvtags]; exact hu) (fun t hsame hrep' hst => by
        obtain ⟨_, hphase, hclaim⟩ := hsame
        refine reconcileTag_granted (by rw [hphase, hvtags]; exact hp) ?_
        have hsameRecord : claimAt t (tagAt s n).claim = claimAt s (tagAt s n).claim := by
          rw [claimAt, hrep']
          exact hvclaims _
        rw [hclaim, hvtags, hsameRecord, hst, hvstation]
        exact hno)
      rw [hvtags] at hnotice
      refine ⟨(congrArg Tag.inUse (hmovedTag n)).trans hfree, ?_⟩
      have hlost := hstay _ (endNotice_lasting _ _ _) hnotice
      rcases hp with hp | hp <;> rw [hp] at hlost <;> exact hlost
    · obtain ⟨hfree, hnotice⟩ := hends n hn (by rw [hvtags]; exact hu) (fun t hsame hrep' hst => by
        obtain ⟨_, hphase, hclaim⟩ := hsame
        refine reconcileTag_waiting (by rw [hphase, hvtags]; exact hp) ?_
        have hsameRecord : claimAt t (tagAt s n).claim = claimAt s (tagAt s n).claim := by
          rw [claimAt, hrep']
          exact hvclaims _
        rw [hclaim, hvtags, hsameRecord, hst, hvstation]
        exact hno)
      rw [hvtags] at hnotice
      refine ⟨(congrArg Tag.inUse (hmovedTag n)).trans hfree, ?_⟩
      have hended := hstay _ (endNotice_lasting _ _ _) hnotice
      rcases hp with hp | hp <;> rw [hp] at hended <;> exact hended
    · have hkept := hsending n (by rw [hvtags]; exact hu) (by rw [hvtags]; exact hp)
      rw [hmovedTag n]
      exact hkept

end Sys2Proof.Machine
end

/-! # Promotion: its grants, their watches and tags (1.6) -/

section
namespace Sys2Proof.Machine

open Sys2Proof (Byte BusFrame FrameEnd TryEnd Instr)

/-! ## One grant -/

theorem latchWarn_latchesOnly (c : Nat) (s : State) : LatchesOnly s (latchWarn c s) := by
  unfold latchWarn
  split
  next n _ =>
    intro u
    obtain ⟨w, hw⟩ := postPendingWarns_tagAt (setTag n { tagAt s n with warnLatch := true } s) u
    obtain ⟨v, hv⟩ := setLatch_latchesOnly n true s u
    exact ⟨w, by rw [hw, hv]⟩
  next => exact .refl s

theorem latchWarn_noticesStay (c : Nat) (s : State) : NoticesStay s (latchWarn c s) := by
  unfold latchWarn
  split
  · exact fun m hm h => postPendingWarns_noticesStay _ m hm h
  · exact .refl s

/-- A grant to another station writes the record and the slot's watch (R7, R70). -/
theorem grant_other {c : Nat} {w : Waiter} {s : State} (h : w.station ≠ s.station.number) :
    grant c w s = setWatch c w.station (some ⟨nextSerial (claimAt s c).serial, w.lease + max 2 (w.lease / 8), false⟩)
      (setClaim c ((claimAt s c).grant w) s) :=
  startWatch_other h

/-- The watch that a grant starts (R70, R74). -/
theorem watchAt_grant (c : Nat) (w : Waiter) (s : State) :
    (w.station ≠ s.station.number → watchAt (grant c w s) c w.station =
      some ⟨nextSerial (claimAt s c).serial, w.lease + max 2 (w.lease / 8), false⟩) ∧
    (w.station = s.station.number → watchAt (grant c w s) c w.station =
      some ⟨nextSerial (claimAt s c).serial, w.lease, decide (w.lease ≤ max 1 (w.lease / 4))⟩) := by
  constructor
  · intro h
    rw [grant_other h]
    exact watchAt_setWatch_same c _ _ _
  · intro h
    have hstart : watchStart (setClaim c ((claimAt s c).grant w) s) w.station w.lease = w.lease := if_pos h
    unfold grant startWatch startWatchAt
    rw [hstart]
    by_cases hwarn : w.lease ≤ warnPoint w.lease
    · have hdue : w.lease ≤ max 1 (w.lease / 4) := hwarn
      rw [if_pos ⟨h, hwarn⟩, decide_eq_true hdue]
      have hlatch : ∀ u : State, watchAt (latchWarn c u) c w.station = watchAt u c w.station := fun u => by simp [watchAt]
      rw [hlatch]
      exact watchAt_setWatch_same c _ _ _
    · have hdue : ¬ w.lease ≤ max 1 (w.lease / 4) := hwarn
      rw [if_neg fun k => hwarn k.2, decide_eq_false hdue]
      exact watchAt_setWatch_same c _ _ _

/-- What a grant on claim `c` to one of the waiters `q`, with what it hands on, leaves as it was: every other claim and
watch, the roster, the tags of other claims but for their latches, and the lasting notices (R7, R15). -/
structure GrantsTo (c : Nat) (q : List Waiter) (s t : State) : Prop where
  station : t.station = s.station
  roster : t.replica.roster = s.replica.roster
  claims : ∀ b, b ≠ c → claimAt t b = claimAt s b
  watches : ∀ b k, (∀ w ∈ q, watchKey b k ≠ watchKey c w.station) → watchAt t b k = watchAt s b k
  tags : ∀ n, (tagAt s n).claim ≠ c → ∃ latch, tagAt t n = { tagAt s n with warnLatch := latch }
  named : ∀ n, (tagAt t n).inUse = (tagAt s n).inUse ∧ (tagAt t n).claim = (tagAt s n).claim
  quiet : (∀ w ∈ q, w.station ≠ s.station.number) → t.tags = s.tags ∧ t.notices = s.notices
  notices : NoticesStay s t

theorem GrantsTo.refl (c : Nat) (q : List Waiter) (s : State) : GrantsTo c q s s :=
  ⟨rfl, rfl, fun _ _ => rfl, fun _ _ _ => rfl, fun _ _ => ⟨_, rfl⟩, fun _ => ⟨rfl, rfl⟩, fun _ => ⟨rfl, rfl⟩, .refl s⟩

theorem GrantsTo.trans {c : Nat} {q : List Waiter} {s t u : State} (h1 : GrantsTo c q s t) (h2 : GrantsTo c q t u) :
    GrantsTo c q s u where
  station := h2.station.trans h1.station
  roster := h2.roster.trans h1.roster
  claims b hb := (h2.claims b hb).trans (h1.claims b hb)
  watches b k h := (h2.watches b k h).trans (h1.watches b k h)
  tags n hn := by
    obtain ⟨_, hv⟩ := h1.tags n hn
    obtain ⟨w, hw⟩ := h2.tags n (by rw [(h1.named n).2]; exact hn)
    exact ⟨w, by rw [hw, hv]⟩
  named n := ⟨(h2.named n).1.trans (h1.named n).1, (h2.named n).2.trans (h1.named n).2⟩
  quiet h := by
    obtain ⟨ht, hn⟩ := h1.quiet h
    obtain ⟨ht', hn'⟩ := h2.quiet (by rw [h1.station]; exact h)
    exact ⟨ht'.trans ht, hn'.trans hn⟩
  notices := h1.notices.trans h2.notices

/-- A longer queue allows more. -/
theorem GrantsTo.mono {c : Nat} {q q' : List Waiter} {s t : State} (h : GrantsTo c q s t) (hq : ∀ w ∈ q, w ∈ q') :
    GrantsTo c q' s t :=
  { h with
    watches := fun b k hk => h.watches b k fun w hw => hk w (hq w hw)
    quiet := fun hk => h.quiet fun w hw => hk w (hq w hw) }

theorem GrantsTo.setClaim (c : Nat) (q : List Waiter) (r : ClaimRecord) (s : State) : GrantsTo c q s (setClaim c r s) :=
  { GrantsTo.refl c q s with claims := fun b hb => by rw [claimAt_setClaim, if_neg hb] }

theorem latchWarn_grantsTo {c : Nat} {q : List Waiter} {s : State} (h : ∃ w ∈ q, w.station = s.station.number) :
    GrantsTo c q s (latchWarn c s) where
  station := by simp
  roster := by simp
  claims b _ := by simp [claimAt]
  watches b k _ := by simp [watchAt]
  tags n _ := latchWarn_latchesOnly c s n
  named n := by
    obtain ⟨w, hw⟩ := latchWarn_latchesOnly c s n
    rw [hw]
    exact ⟨rfl, rfl⟩
  quiet hne := by
    obtain ⟨w, hw, hown⟩ := h
    exact absurd hown (hne w hw)
  notices := latchWarn_noticesStay c s

theorem grant_grantsTo (c : Nat) (w : Waiter) (s : State) : GrantsTo c [w] s (grant c w s) := by
  have hset : ∀ v u, GrantsTo c [w] u (setWatch c w.station v u) := fun v u =>
    { GrantsTo.refl c [w] u with
      watches := fun b k hk => watchAt_setWatch_other (hk w (List.mem_singleton_self w)) }
  refine (GrantsTo.setClaim c [w] ((claimAt s c).grant w) s).trans ?_
  unfold grant startWatch startWatchAt
  split
  next hown =>
    refine (hset (some ⟨_, _, true⟩) _).trans (latchWarn_grantsTo ⟨w, List.mem_singleton_self w, hown.1⟩)
  next => exact hset _ _

/-- GRANTED at the tag that names the claim (R15). -/
theorem tagGranted_grantsTo {c n serial : Nat} {q : List Waiter} {s : State} (hc : (tagAt s n).claim = c)
    (h : ∃ w ∈ q, w.station = s.station.number) :
    GrantsTo c q s (tagGranted n serial s) where
  station := by simp
  roster := by simp
  claims b _ := by simp [claimAt]
  watches b k _ := by simp [watchAt]
  tags m hm := by
    have hmn : m ≠ n := fun he => hm (by rw [he]; exact hc)
    exact ⟨(tagAt s m).warnLatch, (tagAt_setTag n m _ s).trans (if_neg hmn)⟩
  named m := by
    have htag : tagAt (tagGranted n serial s) m = _ := tagAt_setTag n m _ s
    rw [htag]
    split
    next hm =>
      rw [hm]
      exact ⟨rfl, rfl⟩
    next => exact ⟨rfl, rfl⟩
  quiet hne := by
    obtain ⟨w, hw, hown⟩ := h
    exact absurd hown (hne w hw)
  notices := push_noticesStay _ _

theorem promoteHead_grantsTo (c : Nat) (w : Waiter) (rest : List Waiter) (s : State) :
    GrantsTo c [w] s (promoteHead c w rest s) := by
  have hgrant : GrantsTo c [w] s (grant c w (setClaim c { claimAt s c with waiters := rest } s)) :=
    (GrantsTo.setClaim c [w] _ s).trans (grant_grantsTo c w _)
  unfold promoteHead
  dsimp only
  generalize grant c w (setClaim c { claimAt s c with waiters := rest } s) = u at hgrant ⊢
  split
  next hown =>
    split
    next n hfind =>
      obtain ⟨_, _, hc, _⟩ := findTag_some hfind
      exact hgrant.trans (tagGranted_grantsTo hc ⟨w, List.mem_singleton_self w, hown.trans (congrArg _ hgrant.station.symm)⟩)
    next => exact hgrant
  next => exact hgrant

theorem promoteQueue_grantsTo (c : Nat) : ∀ (q : List Waiter) (s : State), GrantsTo c q s (promoteQueue c q s)
  | [], s => .refl c [] s
  | w :: rest, s => by
    unfold promoteQueue
    split
    · refine GrantsTo.trans ((promoteHead_grantsTo c w rest s).mono fun x hx => ?_)
        ((promoteQueue_grantsTo c rest _).mono fun x hx => List.mem_cons_of_mem w hx)
      rw [List.mem_singleton.mp hx]
      exact List.mem_cons_self ..
    · exact .refl c _ s

/-- What promotion leaves as it was (R11, R12, R15). -/
theorem promote_grantsTo (c : Nat) (s : State) : GrantsTo c (claimAt s c).waiters s (promote c s) := by
  refine (promoteQueue_grantsTo c (claimAt s c).waiters s).trans ?_
  unfold promote freeSerial
  split
  · exact .setClaim c _ _ _
  · exact .refl c _ _

/-! ## The record (R4, R7, R12) -/

theorem grantedSlots_station {x : HoldSlot} : ∀ {n : Nat} {ws : List Waiter}, x ∈ grantedSlots n ws →
    ∃ w ∈ ws, w.station = x.station
  | _, [], h => absurd h List.not_mem_nil
  | n, w :: ws, h => by
    rcases List.mem_cons.mp h with h | h
    · exact ⟨w, List.mem_cons_self .., by rw [h]⟩
    · obtain ⟨v, hv, hx⟩ := grantedSlots_station h
      exact ⟨v, List.mem_cons_of_mem w hv, hx⟩

/-- The waiters that the steps of promotion grant, from the head in queue order. -/
theorem promoteQueue_record (c : Nat) : ∀ (q : List Waiter) (s : State), (claimAt s c).waiters = q →
    ∃ granted, q = granted ++ (claimAt (promoteQueue c q s) c).waiters ∧
      (claimAt (promoteQueue c q s) c).holders =
        (claimAt s c).holders ++ grantedSlots (claimAt s c).serial granted ∧
      (claimAt (promoteQueue c q s) c).serial =
        if granted = [] then (claimAt s c).serial else ((claimAt s c).serial + granted.length) % 256
  | [], s, hq => ⟨[], hq.symm, (List.append_nil _).symm, rfl⟩
  | w :: rest, s, hq => by
    unfold promoteQueue
    split
    · have hhead : claimAt (promoteHead c w rest s) c = ({ claimAt s c with waiters := rest } : ClaimRecord).grant w := by
        rw [claimAt_promoteHead, if_pos rfl]
      obtain ⟨granted, h1, h2, h3⟩ := promoteQueue_record c rest (promoteHead c w rest s) (by rw [hhead]; rfl)
      rw [hhead] at h2 h3
      refine ⟨w :: granted, congrArg (w :: ·) h1, h2.trans (List.append_assoc ..), h3.trans ?_⟩
      have hserial : (({ claimAt s c with waiters := rest } : ClaimRecord).grant w).serial =
          ((claimAt s c).serial + 1) % 256 := rfl
      rw [hserial, if_neg (List.cons_ne_nil w granted), List.length_cons]
      split
      next h => rw [h]; rfl
      next => omega
    · exact ⟨[], hq.symm, (List.append_nil _).symm, rfl⟩

/-- Promotion from the record as it stands (R12). -/
theorem promote_promoted (c : Nat) (s : State) :
    Promoted c (claimAt s c).holders (claimAt s c).waiters s (promote c s) := by
  refine ⟨promote_headWaits c s, ?_⟩
  obtain ⟨granted, h1, h2, h3⟩ := promoteQueue_record c (claimAt s c).waiters s rfl
  refine ⟨granted, ?_⟩
  unfold promote freeSerial
  generalize promoteQueue c (claimAt s c).waiters s = t at h1 h2 h3 ⊢
  split
  next h =>
    rw [claimAt_setClaim, if_pos rfl]
    exact ⟨h1, h2, (if_pos h).symm⟩
  next h => exact ⟨h1, h2, h3⟩

/-! ## Where the grants reach (R7, R15, R44, R70, R74) -/

theorem watchKey_ne {c h k : Nat} (hne : h ≠ k) : watchKey c h ≠ watchKey c k := by
  unfold watchKey
  omega

/-- The grant of the head, where the record names no station twice, and this station's tag is the only one for the
claim. -/
theorem promoteHead_reaches {c : Nat} {w : Waiter} {rest : List Waiter} {s : State} :
    (w.station ≠ s.station.number → watchAt (promoteHead c w rest s) c w.station =
      some ⟨nextSerial (claimAt s c).serial, w.lease + max 2 (w.lease / 8), false⟩) ∧
    (w.station = s.station.number →
      watchAt (promoteHead c w rest s) c w.station =
        some ⟨nextSerial (claimAt s c).serial, w.lease, decide (w.lease ≤ max 1 (w.lease / 4))⟩ ∧
      ∀ n < 16, (tagAt s n).inUse = true → (tagAt s n).claim = c →
        (tagAt s n).phase = some .waiting ∨ (tagAt s n).phase = some .cancelling →
        (∀ m < 16, m ≠ n → (tagAt s m).inUse = true → (tagAt s m).claim ≠ c) →
        (tagAt (promoteHead c w rest s) n).inUse = true ∧ (tagAt (promoteHead c w rest s) n).phase = some .held ∧
          .granted n (nextSerial (claimAt s c).serial) ∈ (promoteHead c w rest s).notices.entries) := by
  have hserial : (claimAt (setClaim c { claimAt s c with waiters := rest } s) c).serial = (claimAt s c).serial := by
    rw [claimAt_setClaim_same]
  obtain ⟨hother, hown⟩ := watchAt_grant c w (setClaim c { claimAt s c with waiters := rest } s)
  rw [hserial] at hother hown
  have hnow : (claimAt (grant c w (setClaim c { claimAt s c with waiters := rest } s)) c).serial =
      nextSerial (claimAt s c).serial := by
    rw [claimAt_grant, if_pos rfl, claimAt_setClaim_same]
    rfl
  have hlatch : LatchesOnly s (grant c w (setClaim c { claimAt s c with waiters := rest } s)) := by
    unfold grant startWatch startWatchAt
    split
    · exact fun n => latchWarn_latchesOnly c _ n
    · exact fun n => ⟨_, rfl⟩
  unfold promoteHead
  dsimp only
  generalize grant c w (setClaim c { claimAt s c with waiters := rest } s) = u at hother hown hnow hlatch ⊢
  refine ⟨fun h => ?_, fun h => ⟨?_, fun n hn hin hc hp honly => ?_⟩⟩
  · rw [if_neg h]
    exact hother h
  · rw [if_pos h]
    split
    · exact hown h
    · exact hown h
  · have hfind : findTag u c [.waiting, .cancelling] = some n := by
      rw [hlatch.findTag]
      rcases hp with hp | hp
      · exact findTag_of_only hn hin hc hp (by decide) honly
      · exact findTag_of_only hn hin hc hp (by decide) honly
    rw [if_pos h, hfind, hnow]
    obtain ⟨v, hv⟩ := hlatch n
    have htag : tagAt (tagGranted n (nextSerial (claimAt s c).serial) u) n = _ := tagAt_setTag_same n _ u
    refine ⟨?_, ?_, List.mem_append_right _ (List.mem_singleton_self _)⟩
    · dsimp only
      rw [htag, hv]
      exact hin
    · dsimp only
      rw [htag]

theorem promoteQueue_reaches (c : Nat) : ∀ (q : List Waiter) (s : State), (claimAt s c).waiters = q →
    GrantsReach c s (promoteQueue c q s)
  | [], s, hq => fun _ x _ hw => by
    obtain ⟨w, hw, _⟩ := hw
    rw [hq] at hw
    exact absurd hw List.not_mem_nil
  | w :: rest, s, hq => by
    intro hnodup x hx hw
    have hdisjoint := List.disjoint_of_nodup_append hnodup
    have hnotHeld : ∀ y ∈ (claimAt s c).holders, y.station ≠ x.station := fun y hy he => by
      obtain ⟨v, hv, hvx⟩ := hw
      exact hdisjoint (List.mem_map.mpr ⟨y, hy, he⟩) (List.mem_map.mpr ⟨v, hv, hvx⟩)
    rw [hq] at hw hnodup
    unfold promoteQueue at hx ⊢
    split at hx
    next hgrant =>
      rw [if_pos hgrant]
      have hhead : claimAt (promoteHead c w rest s) c = ({ claimAt s c with waiters := rest } : ClaimRecord).grant w := by
        rw [claimAt_promoteHead, if_pos rfl]
      have hrest : (claimAt (promoteHead c w rest s) c).waiters = rest := by rw [hhead]; rfl
      have hwrest : ∀ v ∈ rest, v.station ≠ w.station := fun v hv he => by
        have hws := (List.nodup_append.mp hnodup).2.1
        exact (List.nodup_cons.mp hws).1 (List.mem_map.mpr ⟨v, hv, he⟩)
      obtain ⟨granted, hq1, hholders, _⟩ := promoteQueue_record c rest (promoteHead c w rest s) hrest
      have hlater := promoteQueue_grantsTo c rest (promoteHead c w rest s)
      have hnumber : (promoteHead c w rest s).station = s.station := by simp
      by_cases hxw : x.station = w.station
      · have hslot : x = ⟨w.station, w.mode, w.lease, nextSerial (claimAt s c).serial⟩ := by
          rw [hholders, hhead] at hx
          rcases List.mem_append.mp hx with hx | hx
          · rcases List.mem_append.mp hx with hx | hx
            · exact absurd rfl (hnotHeld x hx)
            · exact List.mem_singleton.mp hx
          · obtain ⟨v, hv, hvx⟩ := grantedSlots_station hx
            have hvrest : v ∈ rest := by
              rw [hq1]
              exact List.mem_append_left _ hv
            exact absurd (hvx.trans hxw) (hwrest v hvrest)
        obtain ⟨hother, hown⟩ := promoteHead_reaches (c := c) (w := w) (rest := rest) (s := s)
        have hwatch : watchAt (promoteQueue c rest (promoteHead c w rest s)) c w.station =
            watchAt (promoteHead c w rest s) c w.station :=
          hlater.watches c w.station fun v hv => watchKey_ne fun he => hwrest v hv he.symm
        rw [hslot]
        dsimp only
        refine ⟨fun h => hwatch.trans (hother h), fun h => ⟨hwatch.trans (hown h).1, fun n hn hin hc hp honly => ?_⟩⟩
        obtain ⟨_, hreach⟩ := hown h
        obtain ⟨h1, h2, h3⟩ := hreach n hn hin hc hp honly
        obtain ⟨htags, hnotices⟩ := hlater.quiet fun v hv => by
          rw [hnumber, ← h]
          exact hwrest v hv
        rw [tagAt, htags, hnotices]
        exact ⟨h1, h2, h3⟩
      · have hnodup' : ((claimAt (promoteHead c w rest s) c).holders.map (·.station) ++
            (claimAt (promoteHead c w rest s) c).waiters.map (·.station)).Nodup := by
          rw [hrest, hhead]
          have hswap : ((claimAt s c).holders.map (·.station) ++ [w.station] ++ rest.map (·.station)).Nodup := by
            rw [List.append_assoc]
            exact hnodup
          simpa [ClaimRecord.grant] using hswap
        have hwait : ∃ v ∈ (claimAt (promoteHead c w rest s) c).waiters, v.station = x.station := by
          rw [hrest]
          obtain ⟨v, hv, hvx⟩ := hw
          exact ⟨v, (List.mem_cons.mp hv).resolve_left fun he => hxw (by rw [← hvx, he]), hvx⟩
        obtain ⟨hother, hown⟩ := promoteQueue_reaches c rest (promoteHead c w rest s) hrest hnodup' x hx hwait
        rw [hnumber] at hother hown
        refine ⟨hother, fun h => ⟨(hown h).1, ?_⟩⟩
        obtain ⟨htags, _⟩ := (promoteHead_grantsTo c w rest s).quiet fun v hv => by
          rw [List.mem_singleton.mp hv, ← h]
          exact fun he => hxw he.symm
        have hreach := (hown h).2
        have hsame : ∀ n, tagAt (promoteHead c w rest s) n = tagAt s n := fun n => by rw [tagAt, htags]; rfl
        simp only [hsame] at hreach
        exact hreach
    next => exact absurd rfl (hnotHeld x hx)

/-- Promotion's grants reach watches and tags. -/
theorem promote_reaches (c : Nat) (s : State) : GrantsReach c s (promote c s) := by
  have h := promoteQueue_reaches c (claimAt s c).waiters s rfl
  unfold promote freeSerial
  generalize promoteQueue c (claimAt s c).waiters s = t at h ⊢
  split
  next hnone =>
    intro _ x hx _
    rw [claimAt_setClaim, if_pos rfl] at hx
    exact absurd (hnone ▸ hx) List.not_mem_nil
  next => exact h

end Sys2Proof.Machine
end

/-! # YIELD, LAPSE and CANCEL: the obligations (3.6, 3.7) -/

section
namespace Sys2Proof.Machine

open Sys2Proof (Byte BusFrame FrameEnd TryEnd Instr)

/-! ## Promotion seen from before the removal and from after what follows it -/

/-- Promotion's record is read from the serial before and the record after. -/
theorem Promoted.congr {c : Nat} {hs : List HoldSlot} {ws : List Waiter} {s s' t t' : State} (h : Promoted c hs ws s t)
    (hserial : (claimAt s' c).serial = (claimAt s c).serial) (ht : claimAt t' c = claimAt t c) :
    Promoted c hs ws s' t' := by
  unfold Promoted at h ⊢
  rw [hserial, ht]
  exact h

/-- The holders after a promotion held before or waited. -/
theorem Promoted.holder {c : Nat} {hs : List HoldSlot} {ws : List Waiter} {s t : State} (h : Promoted c hs ws s t)
    {x : HoldSlot} (hx : x ∈ (claimAt t c).holders) : x ∈ hs ∨ ∃ w ∈ ws, w.station = x.station := by
  obtain ⟨_, granted, hws, hholders, _⟩ := h
  rw [hholders] at hx
  refine (List.mem_append.mp hx).imp_right fun hg => ?_
  obtain ⟨w, hw, hwx⟩ := grantedSlots_station hg
  exact ⟨w, by rw [hws]; exact List.mem_append_left _ hw, hwx⟩

theorem LatchesOnly.named {s t : State} (h : LatchesOnly s t) (n : Nat) :
    (tagAt t n).inUse = (tagAt s n).inUse ∧ (tagAt t n).claim = (tagAt s n).claim := by
  obtain ⟨w, hw⟩ := h n
  rw [hw]
  exact ⟨rfl, rfl⟩

/-- The reach of a promotion from `s1` to `t1`, seen from `s`, which the removal led to `s1`, at `t`, to which later
acts led that leave the granted watches and tags alone. -/
theorem GrantsReach.transport {c : Nat} {s s1 t1 t : State} (h : GrantsReach c s1 t1) (hst : s1.station = s.station)
    (hbefore : ∀ n, (tagAt s n).claim = c → ∃ latch, tagAt s1 n = { tagAt s n with warnLatch := latch })
    (hnamed : ∀ n, (tagAt s1 n).inUse = (tagAt s n).inUse ∧ (tagAt s1 n).claim = (tagAt s n).claim)
    (hholders : (claimAt s1 c).holders.Sublist (claimAt s c).holders)
    (hwaiters : (claimAt s1 c).waiters.Sublist (claimAt s c).waiters)
    (hrecord : ∀ x ∈ (claimAt t1 c).holders,
      x ∈ (claimAt s1 c).holders ∨ ∃ w ∈ (claimAt s1 c).waiters, w.station = x.station)
    (hclaim : claimAt t c = claimAt t1 c)
    (hwatch : ∀ w ∈ (claimAt s1 c).waiters, watchAt t c w.station = watchAt t1 c w.station)
    (htags : (∃ w ∈ (claimAt s1 c).waiters, w.station = s.station.number) → ∀ n, (tagAt s n).claim = c →
      (tagAt t n).inUse = (tagAt t1 n).inUse ∧ (tagAt t n).phase = (tagAt t1 n).phase)
    (hstay : NoticesStay t1 t) : GrantsReach c s t := by
  intro hnodup x hx hw
  rw [hclaim] at hx
  have hnodup1 : ((claimAt s1 c).holders.map (·.station) ++ (claimAt s1 c).waiters.map (·.station)).Nodup :=
    hnodup.sublist ((hholders.map _).append (hwaiters.map _))
  have hw1 : ∃ w ∈ (claimAt s1 c).waiters, w.station = x.station := (hrecord x hx).resolve_left fun hheld => by
    obtain ⟨w, hw, hwx⟩ := hw
    exact List.disjoint_of_nodup_append hnodup (List.mem_map.mpr ⟨x, hholders.subset hheld, rfl⟩)
      (List.mem_map.mpr ⟨w, hw, hwx⟩)
  obtain ⟨hother, hown⟩ := h hnodup1 x hx hw1
  have hsame : watchAt t c x.station = watchAt t1 c x.station := by
    obtain ⟨w, hw, hwx⟩ := hw1
    rw [← hwx]
    exact hwatch w hw
  rw [hst] at hother hown
  refine ⟨fun hne => hsame.trans (hother hne), fun he => ⟨hsame.trans (hown he).1, fun n hn hin hc hp honly => ?_⟩⟩
  obtain ⟨_, hreach⟩ := hown he
  obtain ⟨v, hv⟩ := hbefore n hc
  obtain ⟨h1, h2, h3⟩ := hreach n hn (by rw [hv]; exact hin) (by rw [hv]; exact hc) (by rw [hv]; exact hp)
    (fun m hm hmn hmin => by
      obtain ⟨hin', hc'⟩ := hnamed m
      rw [hc']
      exact honly m hm hmn (hin'.symm.trans hmin))
  obtain ⟨hin', hp'⟩ := htags (by rw [← he]; exact hw1) n hc
  exact ⟨hin'.trans h1, hp'.trans h2, hstay _ ⟨rfl, fun _ => rfl⟩ h3⟩

/-! ## The removal of a hold (R10) -/

theorem removeHold_latchesOnly (c h : Nat) (s : State) : LatchesOnly s (removeHold c h s) := fun n => by
  have htag : tagAt (removeHold c h s) n = tagAt (removeWatch c h
      (setClaim c { claimAt s c with holders := (claimAt s c).holders.filter (fun x => x.station != h) } s)) n := by
    simp [removeHold, tagAt]
  rw [htag]
  unfold removeWatch
  dsimp only
  split
  · exact clearLatch_tagAt c _ n
  · exact ⟨_, rfl⟩

theorem removeHold_watches (c h : Nat) (s : State) :
    (removeHold c h s).watch.watches = Table.set none s.watch.watches (watchKey c h) none := by
  unfold removeHold removeWatch
  dsimp only
  rw [withdrawLapse_watch]
  split
  · rw [clearLatch_watch]
    rfl
  · rfl

theorem removeHold_watchAt_same (c h : Nat) (s : State) : watchAt (removeHold c h s) c h = none := by
  rw [watchAt, removeHold_watches]
  exact Table.get_set_same none _ _ _

theorem removeHold_watchAt_other {c h b k : Nat} (hne : watchKey b k ≠ watchKey c h) (s : State) :
    watchAt (removeHold c h s) b k = watchAt s b k := by
  rw [watchAt, removeHold_watches]
  exact Table.get_set_other none _ _ _ _ hne

theorem removeHold_roster (c h : Nat) (s : State) : (removeHold c h s).replica.roster = s.replica.roster := by
  simp [removeHold]

/-- The LAPSEs for the hold leave the queue, and nothing else does (R10). -/
theorem mem_removeHold {c h : Nat} {s : State} {x : TxEntry} (hx : x ∈ (removeHold c h s).tx.entries) :
    x ∈ s.tx.entries ∧ (x.onBus = false → ∀ k, x.frame ≠ .lapse c h k) := by
  have htx : (removeWatch c h (setClaim c
      { claimAt s c with holders := (claimAt s c).holders.filter (fun x => x.station != h) } s)).tx = s.tx := by simp
  unfold removeHold at hx
  rw [withdrawLapse_eq] at hx
  obtain ⟨hmem, hkeep⟩ := List.mem_filter.mp hx
  rw [htx] at hmem
  refine ⟨hmem, fun hob k hf => ?_⟩
  rw [hob, hf] at hkeep
  simp at hkeep

/-- A holder's hold is removed and promotion runs: the record, the watch, the LAPSE and the tags. -/
theorem removeAndPromote_removed {c h : Nat} {s : State} (hw : ∀ w ∈ (claimAt s c).waiters, w.station ≠ h) :
    RemovedAndPromoted c h s (removeAndPromote c h s) ∧
      (removeAndPromote c h s).replica.roster = s.replica.roster ∧
      (removeAndPromote c h s).station = s.station ∧
      (∀ x ∈ (removeAndPromote c h s).tx.entries, x.onBus = false → ∀ k, x.frame ≠ .lapse c h k) := by
  have hrecord : claimAt (removeHold c h s) c =
      { claimAt s c with holders := (claimAt s c).holders.filter (fun x => x.station != h) } := by
    rw [claimAt_removeHold, if_pos rfl]
  have hstation : (removeHold c h s).station = s.station := by simp
  have hgrants := promote_grantsTo c (removeHold c h s)
  have hpromoted := promote_promoted c (removeHold c h s)
  have hreach := promote_reaches c (removeHold c h s)
  have hother : ∀ b, b ≠ c → claimAt (promote c (removeHold c h s)) b = claimAt s b := fun b hb => by
    rw [claimAt_promote_other c b _ hb, claimAt_removeHold, if_neg hb]
  refine ⟨⟨hother, ?_, ?_, ?_⟩, ?_, ?_, fun x hx => ?_⟩
  · refine (hgrants.watches c h fun w hmem => watchKey_ne fun he => ?_).trans (removeHold_watchAt_same c h s)
    rw [hrecord] at hmem
    exact hw w hmem he.symm
  · rw [hrecord] at hpromoted
    exact hpromoted.congr (by rw [hrecord]) rfl
  · refine hreach.transport hstation (fun n _ => removeHold_latchesOnly c h s n) (removeHold_latchesOnly c h s).named
      ?_ ?_ (fun x hx => hpromoted.holder hx) rfl
      (fun _ _ => rfl) (fun _ _ _ => ⟨rfl, rfl⟩) (.refl _)
    · rw [hrecord]
      exact List.filter_sublist
    · rw [hrecord]
  · exact hgrants.roster.trans (removeHold_roster c h s)
  · exact hgrants.station.trans hstation
  · have htx : (removeAndPromote c h s).tx = (removeHold c h s).tx := by simp [removeAndPromote]
    rw [htx] at hx
    exact (mem_removeHold hx).2

/-! ## The end of this station's tag (R51, R53, R54) -/

/-- An entry after the end of a tag was in the queue, and is not bound to the tag while it is READY (R173). -/
theorem mem_entries_endTag {n : Nat} {m : Notice} {s : State} {x : TxEntry} (hx : x ∈ (endTag n m s).tx.entries) :
    ∃ e ∈ s.tx.entries, x.frame = e.frame ∧ x.onBus = e.onBus ∧ (x.onBus = false → x.binding ≠ some n) := by
  have htx : (endTag n m s).tx = (withdrawBound n s).tx := by simp [endTag]
  rw [htx] at hx
  obtain ⟨e, he, rfl⟩ := List.mem_map.mp hx
  obtain ⟨hmem, hkeep⟩ := List.mem_filter.mp he
  have hbound : e.onBus = false → e.binding ≠ some n := fun hob => by
    rw [hob, Bool.or_false] at hkeep
    simpa using hkeep
  refine ⟨e, hmem, ?_⟩
  split
  · exact ⟨rfl, rfl, hbound⟩
  · exact ⟨rfl, rfl, hbound⟩

/-- The tag in use that names the claim ends, where it is in one of the phases. -/
theorem endTagFor_of_only {c n : Nat} {s t : State} {ps : List Phase} {p : Phase} (hlatch : LatchesOnly s t) (hn : n < 16)
    (hin : (tagAt s n).inUse = true) (hc : (tagAt s n).claim = c) (hp : (tagAt s n).phase = some p) (hps : p ∈ ps)
    (honly : ∀ m < 16, m ≠ n → (tagAt s m).inUse = true → (tagAt s m).claim ≠ c) (note : Nat → Notice) :
    endTagFor c ps note t = endTag n (note n) t := by
  have hfind : findTag t c ps = some n := (hlatch.findTag c ps).trans (findTag_of_only hn hin hc hp hps honly)
  rw [endTagFor, hfind]

theorem endTagFor_cases (c : Nat) (ps : List Phase) (note : Nat → Notice) (s : State) :
    endTagFor c ps note s = s ∨ ∃ n, endTagFor c ps note s = endTag n (note n) s := by
  unfold endTagFor
  split
  next n _ => exact .inr ⟨n, rfl⟩
  next => exact .inl rfl

/-- The end of a tag touches no claim, watch, roster or station value, and no entry's frame. -/
theorem endTagFor_keeps (c : Nat) (ps : List Phase) (note : Nat → Notice) (s : State) :
    (endTagFor c ps note s).replica = s.replica ∧ (endTagFor c ps note s).watch = s.watch ∧
      (endTagFor c ps note s).station = s.station ∧ NoticesStay s (endTagFor c ps note s) ∧
      ∀ x ∈ (endTagFor c ps note s).tx.entries, ∃ e ∈ s.tx.entries, x.frame = e.frame ∧ x.onBus = e.onBus := by
  rcases endTagFor_cases c ps note s with h | ⟨n, h⟩
  · rw [h]
    exact ⟨rfl, rfl, rfl, .refl s, fun x hx => ⟨x, hx, rfl, rfl⟩⟩
  · rw [h]
    refine ⟨by simp, by simp, by simp, endTag_noticesStay n _ s, fun x hx => ?_⟩
    obtain ⟨e, he, hf, hob, _⟩ := mem_entries_endTag hx
    exact ⟨e, he, hf, hob⟩

/-! ## YIELD and LAPSE (R51, R53) -/

theorem yieldBody_cases {e : RxEntry} {s : State} {c serial : Nat} (hp : parseYield e.payload = some (c, serial))
    (hs : s.station.state = .member ∨ s.station.state = .leaving) :
    yieldBody e s =
      if rosterAt s e.sender = .member ∧ c < 64 ∧ refMatches s c e.sender serial = true then
        if e.sender = s.station.number then
          endTagFor c [.yielding] (fun t => .released t) (removeAndPromote c e.sender s)
        else removeAndPromote c e.sender s
      else s := by
  have hshare : s.station.state.sharing = true := (sharing_iff _).mpr hs
  simp only [yieldBody, hp, hshare, Bool.true_and]
  refine if_congr ?_ rfl rfl
  simp only [inTurn, Bool.and_eq_true, beq_iff_eq, decide_eq_true_eq, and_assoc]
  exact Iff.rfl

theorem lapseBody_cases {e : RxEntry} {s : State} {c h serial : Nat} (hp : parseLapse e.payload = some (c, h, serial))
    (hs : s.station.state = .member ∨ s.station.state = .leaving) :
    lapseBody e s =
      if c < 64 ∧ h < 32 ∧ refMatches s c h serial = true then
        if h = s.station.number then
          endTagFor c [.held, .yielding] (fun t => .lost t .lapsed) (removeAndPromote c h s)
        else removeAndPromote c h s
      else s := by
  have hshare : s.station.state.sharing = true := (sharing_iff _).mpr hs
  simp only [lapseBody, hp, hshare, Bool.true_and]
  refine if_congr ?_ rfl rfl
  simp only [Bool.and_eq_true, decide_eq_true_eq, and_assoc]
  exact Iff.rfl

/-- The removal with the end of this station's tag where the hold was its own. -/
theorem removedHold_effect {c h : Nat} {s : State} {phases : List Phase} {ended : Nat → Notice}
    (hlasting : ∀ n, Lasting (ended n)) (hw : ∀ w ∈ (claimAt s c).waiters, w.station ≠ h) :
    let t := if h = s.station.number then endTagFor c phases ended (removeAndPromote c h s) else removeAndPromote c h s
    RemovedAndPromoted c h s t ∧ t.replica.roster = s.replica.roster ∧ t.station = s.station ∧
      (∀ x ∈ t.tx.entries, x.onBus = false → ∀ k, x.frame ≠ .lapse c h k) ∧
      (h = s.station.number → ∀ n < 16, (tagAt s n).inUse = true → (tagAt s n).claim = c →
        (tagAt s n).phase ∈ phases.map some → (∀ m < 16, m ≠ n → (tagAt s m).inUse = true → (tagAt s m).claim ≠ c) →
        (tagAt t n).inUse = false ∧ ended n ∈ t.notices.entries ∧
          ∀ x ∈ t.tx.entries, x.onBus = false → x.binding ≠ some n) := by
  intro t
  obtain ⟨⟨hother, hwatch, hpromoted, hreach⟩, hroster, hstation, hlapse⟩ := removeAndPromote_removed hw
  by_cases hown : h = s.station.number
  · have ht : t = endTagFor c phases ended (removeAndPromote c h s) := if_pos hown
    rw [ht]
    obtain ⟨hrep, hwat, hsta, hstay, hent⟩ := endTagFor_keeps c phases ended (removeAndPromote c h s)
    have hclaim : ∀ b, claimAt (endTagFor c phases ended (removeAndPromote c h s)) b =
        claimAt (removeAndPromote c h s) b := fun b => by rw [claimAt, hrep]; rfl
    have hwatches : ∀ b k, watchAt (endTagFor c phases ended (removeAndPromote c h s)) b k =
        watchAt (removeAndPromote c h s) b k := fun b k => by rw [watchAt, hwat]; rfl
    refine ⟨⟨fun b hb => (hclaim b).trans (hother b hb), (hwatches c h).trans hwatch,
      hpromoted.congr rfl (hclaim c), ?_⟩, by rw [hrep]; exact hroster, hsta.trans hstation, fun x hx hob k => ?_,
      fun _ n hn hin hc hp honly => ?_⟩
    · refine hreach.transport rfl (fun n _ => LatchesOnly.refl s n) (LatchesOnly.refl s).named (List.Sublist.refl _)
        (List.Sublist.refl _) ?_ (hclaim c) (fun w _ => hwatches c _)
        (fun ⟨w, hmem, hwo⟩ => absurd (hwo.trans hown.symm) (hw w hmem)) hstay
      exact fun x hx => (hpromoted.holder hx).imp_left fun hx => List.mem_of_mem_filter hx
    · obtain ⟨e, he, hf, hob'⟩ := hent x hx
      rw [hf]
      exact hlapse e he (hob'.symm.trans hob) k
    · have hquiet := (promote_grantsTo c (removeHold c h s)).quiet fun w hmem => by
        have hstay : (removeHold c h s).station = s.station := by simp
        rw [claimAt_removeHold, if_pos rfl] at hmem
        rw [hstay, ← hown]
        exact hw w hmem
      have hlatch : LatchesOnly s (removeAndPromote c h s) := fun n => by
        obtain ⟨v, hv⟩ := removeHold_latchesOnly c h s n
        refine ⟨v, ?_⟩
        rw [← hv, tagAt, tagAt, ← hquiet.1]
        rfl
      obtain ⟨p, hps, hpp⟩ := List.mem_map.mp hp
      rw [endTagFor_of_only hlatch hn hin hc hpp.symm hps honly ended]
      refine ⟨by rw [endTag_inUse, if_pos rfl], mem_endTag n (hlasting n) _, fun x hx hob => ?_⟩
      obtain ⟨_, _, _, _, hbound⟩ := mem_entries_endTag hx
      exact hbound hob
  · have ht : t = removeAndPromote c h s := if_neg hown
    rw [ht]
    exact ⟨⟨hother, hwatch, hpromoted, hreach⟩, hroster, hstation, hlapse, fun he => absurd he hown⟩

/-- Settles O43: a stale reference by the body's test, a matching one by the removal's effect. -/
theorem matchingYieldOrLapseRemovesTheHold : Obligations.MatchingYieldOrLapseRemovesTheHold := by
  intro s e rest c h serial i phases ended hst hi a
  have hcases : ∃ turn : Prop, (turn ↔ (i = .applyYield → rosterAt s e.sender = .member) ∧ (i = .applyLapse → h < 32)) ∧
      (∀ n, Lasting (ended n)) ∧
      (turn ∧ c < 64 ∧ refMatches a c h serial = true → exec i s = .next
        (if h = a.station.number then endTagFor c phases ended (removeAndPromote c h a) else removeAndPromote c h a)) ∧
      (¬ (turn ∧ c < 64 ∧ refMatches a c h serial = true) → exec i s = .next a) := by
    rcases hi with ⟨rfl, hfront, hp, rfl, rfl, rfl⟩ | ⟨rfl, hfront, hp, rfl, rfl⟩
    · have hexec : exec .applyYield s = .next (yieldBody e a) := congrArg Host.Outcome.next (exec_apply hfront)
      refine ⟨rosterAt s e.sender = .member, ⟨fun hr => ⟨fun _ => hr, nofun⟩, fun hr => hr.1 rfl⟩,
        fun _ => ⟨rfl, fun _ => rfl⟩, fun hall => ?_, fun hall => ?_⟩
      · exact hexec.trans (congrArg _ ((yieldBody_cases (s := a) hp hst).trans (if_pos hall)))
      · exact hexec.trans (congrArg _ ((yieldBody_cases (s := a) hp hst).trans (if_neg hall)))
    · have hexec : exec .applyLapse s = .next (lapseBody e a) := congrArg Host.Outcome.next (exec_apply hfront)
      refine ⟨h < 32, ⟨fun hr => ⟨nofun, fun _ => hr⟩, fun hr => hr.2 rfl⟩, fun _ => ⟨rfl, fun _ => rfl⟩, fun hall => ?_,
        fun hall => ?_⟩
      · obtain ⟨hin, hclaim, href⟩ := hall
        exact hexec.trans (congrArg _ ((lapseBody_cases (s := a) hp hst).trans (if_pos ⟨hclaim, hin, href⟩)))
      · exact hexec.trans (congrArg _ ((lapseBody_cases (s := a) hp hst).trans
          (if_neg fun ⟨hclaim, hin, href⟩ => hall ⟨hin, hclaim, href⟩)))
  obtain ⟨turn, hturn, hlasting, hacts, hstale⟩ := hcases
  refine ⟨fun hno => hstale fun ⟨ht, hc, hm⟩ => ?_, fun hc h32 hmember hslot hwaits => ?_⟩
  · obtain ⟨hmember, hin⟩ := hturn.mp ht
    rcases hno with hno | ⟨hl, hno⟩ | ⟨hy, hno⟩ | hno
    · omega
    · exact absurd (hin hl) (Nat.not_lt.mpr hno)
    · exact hno (hmember hy)
    · rw [refMatches_eq_false (s := a) hno] at hm
      exact absurd hm (by decide)
  · obtain ⟨hremoved, hroster, hstation, hlapse, htag⟩ :=
      removedHold_effect (s := a) (phases := phases) hlasting hwaits
    exact ⟨_, hacts ⟨hturn.mpr ⟨hmember, fun _ => h32⟩, hc, refMatches_iff.mpr hslot⟩, hremoved, hroster, hstation, hlapse, htag⟩

end Sys2Proof.Machine
end

/-! # CANCEL: the obligation (3.7) -/

section
namespace Sys2Proof.Machine

open Sys2Proof (Byte BusFrame FrameEnd TryEnd Instr)

theorem isHead_iff {s : State} {c h : Nat} :
    isHead s c h = true ↔ ∃ w, (claimAt s c).waiters.head? = some w ∧ w.station = h := by
  unfold isHead
  cases (claimAt s c).waiters with
  | nil => simp
  | cons w rest => simp

/-- A CANCEL out of turn has no effect (R56). -/
theorem cancelBody_outOfTurn {e : RxEntry} {s : State} (ht : rosterAt s e.sender ≠ .member) : cancelBody e s = s := by
  have hturn : inTurn e s = false := by simp [inTurn, ht]
  unfold cancelBody
  split
  · rw [hturn, Bool.and_false, if_neg Bool.false_ne_true]
  · rfl

/-- A CANCEL of a MEMBER that waits takes its waiter out of the queue (R54). -/
theorem cancelBody_waits {e : RxEntry} {s : State} {c : Nat} (hp : parseOne e.payload = some c)
    (hs : s.station.state = .member ∨ s.station.state = .leaving) (ht : rosterAt s e.sender = .member) (hc : c < 64)
    (hw : ∃ w ∈ (claimAt s c).waiters, w.station = e.sender) :
    cancelBody e s =
      if e.sender = s.station.number then
        endTagFor c [.cancelling] (fun t => .cancelled t .host) (leaveQueue c e.sender s)
      else leaveQueue c e.sender s := by
  have hshare : s.station.state.sharing = true := (sharing_iff _).mpr hs
  have hturn : inTurn e s = true := by simp [inTurn, ht]
  have hclaim : decide (c < Config.claimCount) = true := decide_eq_true hc
  simp only [cancelBody, hp, hshare, hturn, hclaim, waitsOn_iff.mpr hw, Bool.and_self, if_true]

/-- What the departure of a waiter leaves: other claims, the roster, and the tags where this station gets no grant; and
the promotion where it was the head (R33, R34). -/
theorem leaveQueue_effect (c h : Nat) (s : State) :
    (∀ b, b ≠ c → claimAt (leaveQueue c h s) b = claimAt s b) ∧
    (leaveQueue c h s).replica.roster = s.replica.roster ∧ (leaveQueue c h s).station = s.station ∧
    (h = s.station.number → (leaveQueue c h s).tags = s.tags) ∧
    (isHead s c h = false → claimAt (leaveQueue c h s) c =
      { claimAt s c with waiters := (claimAt s c).waiters.filter (fun w => w.station != h) }) ∧
    (isHead s c h = true → Promoted c (claimAt s c).holders ((claimAt s c).waiters.filter (fun w => w.station != h)) s
      (leaveQueue c h s) ∧ GrantsReach c s (leaveQueue c h s)) := by
  have hrecord : claimAt (removeWaiter c h s) c =
      { claimAt s c with waiters := (claimAt s c).waiters.filter (fun w => w.station != h) } := by
    rw [claimAt_removeWaiter, if_pos rfl]
  have hother : ∀ b, b ≠ c → claimAt (removeWaiter c h s) b = claimAt s b := fun b hb => by
    rw [claimAt_removeWaiter, if_neg hb]
  unfold leaveQueue
  cases hhead : isHead s c h with
  | false =>
    rw [if_neg Bool.false_ne_true]
    exact ⟨hother, rfl, rfl, fun _ => rfl, fun _ => hrecord, nofun⟩
  | true =>
    rw [if_pos rfl]
    have hgrants := promote_grantsTo c (removeWaiter c h s)
    have hpromoted := promote_promoted c (removeWaiter c h s)
    have hreach := promote_reaches c (removeWaiter c h s)
    refine ⟨fun b hb => (hgrants.claims b hb).trans (hother b hb), hgrants.roster, hgrants.station, fun hown => ?_, nofun,
      fun _ => ⟨?_, ?_⟩⟩
    · refine (hgrants.quiet fun w hw => ?_).1
      rw [hrecord] at hw
      have hne := (List.mem_filter.mp hw).2
      rw [hown] at hne
      exact bne_iff_ne.mp hne
    · rw [hrecord] at hpromoted
      exact hpromoted.congr (by rw [hrecord]) rfl
    · refine hreach.transport rfl (fun n _ => LatchesOnly.refl s n) (LatchesOnly.refl s).named ?_ ?_ (fun x hx => hpromoted.holder hx) rfl (fun _ _ => rfl)
        (fun _ _ _ => ⟨rfl, rfl⟩) (.refl _)
      · rw [hrecord]
      · rw [hrecord]
        exact List.filter_sublist

/-- Settles O45: the stale forms, then the waiter's departure with what it hands on. -/
theorem cancelRemovesTheWaiter : Obligations.CancelRemovesTheWaiter := by
  intro s e rest cb hfront hst hpay a c r waits
  have hp : parseOne e.payload = some c := by rw [hpay]; rfl
  have hexec : exec .applyCancel s = .next (cancelBody e a) := congrArg Host.Outcome.next (exec_apply hfront)
  have hnot : 64 ≤ c ∨ ¬ waits → 64 ≤ c ∨ ∀ w ∈ (claimAt a c).waiters, w.station ≠ e.sender := fun h =>
    h.imp_right fun hno w hw he => hno ⟨w, hw, he⟩
  refine ⟨fun hm => ?_, fun hno ho => ?_, fun hno hm ho n hb hu => ⟨fun hph hroom => ?_, fun hph => ?_⟩,
    fun hc hm hw hhead hself => ?_, fun hc hm hw hheld => ?_⟩
  · rw [hexec, cancelBody_outOfTurn (s := a) hm]
  · by_cases hm : rosterAt s e.sender = .member
    · rw [hexec, cancelBody_stale (s := a) hp hst hm (hnot hno), staleCancel, boundTag_of_other ho]
    · rw [hexec, cancelBody_outOfTurn (s := a) hm]
  · rw [hexec, cancelBody_stale (s := a) hp hst hm (hnot hno), staleCancel, boundTag_eq ho hb (s := a) hu]
    refine congrArg _ ((if_pos hph).trans (postUnreserved_of_room _ ?_))
    rw [atFront_freePlaces]
    exact hroom
  · rw [hexec, cancelBody_stale (s := a) hp hst hm (hnot hno), staleCancel, boundTag_eq ho hb (s := a) hu]
    exact congrArg _ (if_neg hph)
  · have hnotHead : isHead a c e.sender = false := by
      rw [Bool.eq_false_iff]
      intro h
      obtain ⟨w, hw', hws⟩ := isHead_iff.mp h
      exact hhead w hw' hws
    refine hexec.trans (congrArg _ ((cancelBody_waits (s := a) hp hst hm hc hw).trans ((if_neg hself).trans ?_)))
    exact if_neg (by rw [hnotHead]; decide)
  · intro left
    obtain ⟨hother, hroster, hstation, htags, hplain, hhead⟩ := leaveQueue_effect c e.sender a
    have hbody := cancelBody_waits (s := a) hp hst hm hc hw
    have hheadIff : (∃ w, r.waiters.head? = some w ∧ w.station = e.sender) → isHead a c e.sender = true := isHead_iff.mpr
    have hnotHead : (∀ w ∈ r.waiters.head?, w.station ≠ e.sender) → isHead a c e.sender = false := fun hno => by
      rw [Bool.eq_false_iff]
      intro h
      obtain ⟨w, hw', hws⟩ := isHead_iff.mp h
      exact hno w hw' hws
    generalize leaveQueue c e.sender a = u at hother hroster hstation htags hplain hhead hbody
    by_cases hself : e.sender = s.station.number
    · rw [if_pos (show e.sender = a.station.number from hself)] at hbody
      obtain ⟨hrep, hwat, _, hstay, _⟩ := endTagFor_keeps c [.cancelling] (fun t => .cancelled t .host) u
      have hclaim : ∀ b, claimAt (endTagFor c [.cancelling] (fun t => .cancelled t .host) u) b = claimAt u b := fun b => by
        rw [claimAt, hrep]
        rfl
      refine ⟨_, hexec.trans (congrArg _ hbody), by rw [hrep]; exact hroster, fun b hb => (hclaim b).trans (hother b hb),
        fun hno => (hclaim c).trans (hplain (hnotHead hno)), fun his => ?_, fun _ n hn hin hcl hph honly => ?_⟩
      · obtain ⟨hpromoted, hreach⟩ := hhead (hheadIff his)
        refine ⟨hpromoted.congr rfl (hclaim c), ?_⟩
        intro hnodup x hx hwx
        rw [hclaim] at hx
        obtain ⟨hgrantOther, _⟩ := hreach hnodup x hx hwx
        refine ⟨fun hne => ?_, fun he => ?_⟩
        · have hsame : watchAt (endTagFor c [.cancelling] (fun t => .cancelled t .host) u) c x.station =
              watchAt u c x.station := by rw [watchAt, hwat]; rfl
          exact hsame.trans (hgrantOther hne)
        · have hdisjoint := List.disjoint_of_nodup_append hnodup
          obtain ⟨v, hv, hvx⟩ := hwx
          rcases hpromoted.holder hx with hheld' | ⟨w, hwl, hwx'⟩
          · exact absurd (List.mem_map.mpr ⟨v, hv, hvx⟩) (hdisjoint (List.mem_map.mpr ⟨x, hheld', rfl⟩))
          · have hne := bne_iff_ne.mp (List.mem_filter.mp hwl).2
            exact absurd (hwx'.trans (he.trans hself.symm)) hne
      · have hlatch : LatchesOnly s u := fun m => ⟨(tagAt s m).warnLatch, by rw [tagAt, htags hself]; rfl⟩
        rw [endTagFor_of_only hlatch hn hin hcl hph (List.mem_singleton_self _) honly (fun t => .cancelled t .host)]
        exact ⟨by rw [endTag_inUse, if_pos rfl], mem_endTag n ⟨rfl, fun _ => rfl⟩ _⟩
    · rw [if_neg (show ¬ e.sender = a.station.number from hself)] at hbody
      exact ⟨u, hexec.trans (congrArg _ hbody), hroster, hother, fun hno => hplain (hnotHead hno),
        fun his => hhead (hheadIff his), fun he => absurd he hself⟩

end Sys2Proof.Machine
end

/-! # The purge of a station: the obligation of DROP (1.7, 3.9) -/

section
namespace Sys2Proof.Machine

open Sys2Proof (Byte BusFrame FrameEnd TryEnd Instr)

/-! ## The purge on one claim (R16) -/

/-- Claim `c` once the waiter and the hold of station `d` have left it, before any promotion: what `purgeClaim` does
first. -/
def purgeRemoved (d : Nat) (s : State) (c : Nat) : State :=
  let s1 := if waitsOn s c d then removeWaiter c d s else s
  if holdsClaim s c d then removeHold c d s1 else s1

theorem purgeClaim_eq (d : Nat) (s : State) (c : Nat) :
    purgeClaim d s c =
      if holdsClaim s c d || isHead s c d then promote c (purgeRemoved d s c) else purgeRemoved d s c := rfl

theorem filter_holders_of_not_holding {s : State} {c d : Nat} (h : holdsClaim s c d = false) :
    (claimAt s c).holders.filter (fun x => x.station != d) = (claimAt s c).holders :=
  List.filter_eq_self.mpr fun x hx => by
    have := List.any_eq_false.mp h x hx
    simpa using this

theorem filter_waiters_of_not_waiting {s : State} {c d : Nat} (h : waitsOn s c d = false) :
    (claimAt s c).waiters.filter (fun w => w.station != d) = (claimAt s c).waiters :=
  List.filter_eq_self.mpr fun w hw => by
    have := List.any_eq_false.mp h w hw
    simpa using this

/-- What the removals leave and what they take away. -/
structure Removed (d c : Nat) (s t : State) : Prop where
  station : t.station = s.station
  roster : t.replica.roster = s.replica.roster
  other : ∀ b, b ≠ c → claimAt t b = claimAt s b
  record : claimAt t c = { claimAt s c with
    holders := (claimAt s c).holders.filter (fun x => x.station != d)
    waiters := (claimAt s c).waiters.filter (fun w => w.station != d) }
  latches : LatchesOnly s t
  notices : t.notices = s.notices
  watches : ∀ b k, watchKey b k ≠ watchKey c d → watchAt t b k = watchAt s b k
  gone : holdsClaim s c d = true → watchAt t c d = none ∧
    ∀ x ∈ t.tx.entries, x.onBus = false → ∀ k, x.frame ≠ .lapse c d k
  entries : ∀ x ∈ t.tx.entries, x ∈ s.tx.entries

theorem removeWaiter_removed {d c : Nat} {s : State} (h : holdsClaim s c d = false) :
    Removed d c s (if waitsOn s c d then removeWaiter c d s else s) := by
  split
  next hw =>
    exact
      { station := rfl
        roster := rfl
        other := fun b hb => by rw [claimAt_removeWaiter, if_neg hb]
        record := by rw [claimAt_removeWaiter, if_pos rfl, filter_holders_of_not_holding h]
        latches := .refl s
        notices := rfl
        watches := fun _ _ _ => rfl
        gone := fun hh => absurd (h.symm.trans hh) (by decide)
        entries := fun _ hx => hx }
  next hw =>
    exact
      { station := rfl
        roster := rfl
        other := fun _ _ => rfl
        record := by rw [filter_holders_of_not_holding h, filter_waiters_of_not_waiting (Bool.eq_false_iff.mpr hw)]
        latches := .refl s
        notices := rfl
        watches := fun _ _ _ => rfl
        gone := fun hh => absurd (h.symm.trans hh) (by decide)
        entries := fun _ hx => hx }

theorem purgeRemoved_removed (d c : Nat) (s : State) : Removed d c s (purgeRemoved d s c) := by
  unfold purgeRemoved
  dsimp only
  cases hh : holdsClaim s c d with
  | false =>
    rw [if_neg Bool.false_ne_true]
    exact removeWaiter_removed hh
  | true =>
    rw [if_pos rfl]
    have hwaiter : (if waitsOn s c d then removeWaiter c d s else s) = setClaim c { claimAt s c with
        waiters := (claimAt s c).waiters.filter (fun w => w.station != d) } s ∨
        (if waitsOn s c d then removeWaiter c d s else s) = s ∧
          (claimAt s c).waiters.filter (fun w => w.station != d) = (claimAt s c).waiters := by
      split
      next => exact .inl rfl
      next hw => exact .inr ⟨rfl, filter_waiters_of_not_waiting (Bool.eq_false_iff.mpr hw)⟩
    have hu : ∃ u, (if waitsOn s c d then removeWaiter c d s else s) = u ∧ u.station = s.station ∧
        u.replica.roster = s.replica.roster ∧ (∀ b, b ≠ c → claimAt u b = claimAt s b) ∧
        claimAt u c = { claimAt s c with waiters := (claimAt s c).waiters.filter (fun w => w.station != d) } ∧
        u.tags = s.tags ∧ u.notices = s.notices ∧ u.watch = s.watch ∧ u.tx = s.tx := by
      refine ⟨_, rfl, ?_⟩
      rcases hwaiter with h | ⟨h, hsame⟩
      · rw [h]
        exact ⟨rfl, rfl, fun b hb => by rw [claimAt_setClaim, if_neg hb], claimAt_setClaim_same .., rfl, rfl, rfl, rfl⟩
      · rw [h, hsame]
        exact ⟨rfl, rfl, fun _ _ => rfl, rfl, rfl, rfl, rfl, rfl⟩
    obtain ⟨u, hu, hstation, hroster, hother, hrecord, htags, hnotices, hwatch, htx⟩ := hu
    rw [hu]
    exact
      { station := by simp [hstation]
        roster := (removeHold_roster c d u).trans hroster
        other := fun b hb => by rw [claimAt_removeHold, if_neg hb, hother b hb]
        record := by rw [claimAt_removeHold, if_pos rfl, hrecord]
        latches := fun n => by
          obtain ⟨w, hw⟩ := removeHold_latchesOnly c d u n
          have hn : tagAt u n = tagAt s n := by rw [tagAt, htags]; rfl
          exact ⟨w, by rw [hw, hn]⟩
        notices := by simp [hnotices]
        watches := fun b k hne => by rw [removeHold_watchAt_other hne, watchAt, hwatch]; rfl
        gone := fun _ => ⟨removeHold_watchAt_same c d u, fun x hx => (mem_removeHold hx).2⟩
        entries := fun x hx => by
          rw [← htx]
          exact (mem_removeHold hx).1 }

/-- What the purge of station `d` makes of claim `c`'s record (R16, R33, R34). -/
def PurgedOn (d c : Nat) (s t : State) : Prop :=
  let r := claimAt s c
  let holds := ∃ h ∈ r.holders, h.station = d
  let heads := ∃ w, r.waiters.head? = some w ∧ w.station = d
  (¬ holds → ¬ heads → claimAt t c = { r with waiters := r.waiters.filter (fun w => w.station != d) }) ∧
    (holds ∨ heads →
      Promoted c (r.holders.filter (fun h => h.station != d)) (r.waiters.filter (fun w => w.station != d)) s t)

theorem purged_iff {d : Nat} {s t : State} : Purged d s t ↔ ∀ c < 64, PurgedOn d c s t := Iff.rfl

theorem PurgedOn.congr {d c : Nat} {s s' t t' : State} (h : PurgedOn d c s t) (hs : claimAt s' c = claimAt s c)
    (ht : claimAt t' c = claimAt t c) : PurgedOn d c s' t' := by
  unfold PurgedOn at h ⊢
  rw [hs]
  exact ⟨fun h1 h2 => ht.trans (h.1 h1 h2), fun h12 => (h.2 h12).congr (by rw [hs]) ht⟩

/-- The holders after the purge held before or waited. -/
theorem PurgedOn.holder {d c : Nat} {s t : State} (h : PurgedOn d c s t) {x : HoldSlot} (hx : x ∈ (claimAt t c).holders) :
    x ∈ (claimAt s c).holders ∨ ∃ w ∈ (claimAt s c).waiters, w.station = x.station := by
  obtain ⟨hplain, hpromoted⟩ := h
  by_cases hall : (∃ h ∈ (claimAt s c).holders, h.station = d) ∨
      ∃ w, (claimAt s c).waiters.head? = some w ∧ w.station = d
  · refine ((hpromoted hall).holder hx).imp List.mem_of_mem_filter ?_
    rintro ⟨w, hw, hwx⟩
    exact ⟨w, List.mem_of_mem_filter hw, hwx⟩
  · rw [not_or] at hall
    rw [hplain hall.1 hall.2] at hx
    exact .inl hx

/-- What one claim's purge hands on, and what it leaves. -/
structure PurgeStep (d c : Nat) (s t : State) : Prop where
  station : t.station = s.station
  roster : t.replica.roster = s.replica.roster
  other : ∀ b, b ≠ c → claimAt t b = claimAt s b
  record : PurgedOn d c s t
  reach : GrantsReach c s t
  tags : ∀ n, (tagAt s n).claim ≠ c → ∃ latch, tagAt t n = { tagAt s n with warnLatch := latch }
  named : ∀ n, (tagAt t n).inUse = (tagAt s n).inUse ∧ (tagAt t n).claim = (tagAt s n).claim
  notices : NoticesStay s t
  quiet : d = s.station.number → LatchesOnly s t ∧ t.notices = s.notices
  watches : ∀ b k, watchKey b k ≠ watchKey c d → (∀ w ∈ (claimAt s c).waiters, watchKey b k ≠ watchKey c w.station) →
    watchAt t b k = watchAt s b k
  gone : (∃ h ∈ (claimAt s c).holders, h.station = d) → watchAt t c d = none ∧
    ∀ x ∈ t.tx.entries, x.onBus = false → ∀ k, x.frame ≠ .lapse c d k
  entries : ∀ x ∈ t.tx.entries, x ∈ s.tx.entries

theorem purgeClaim_step (d c : Nat) (s : State) : PurgeStep d c s (purgeClaim d s c) := by
  have hr := purgeRemoved_removed d c s
  rw [purgeClaim_eq]
  generalize purgeRemoved d s c = u at hr ⊢
  have hholders : (claimAt u c).holders.Sublist (claimAt s c).holders := by
    rw [hr.record]
    exact List.filter_sublist
  have hwaiters : (claimAt u c).waiters.Sublist (claimAt s c).waiters := by
    rw [hr.record]
    exact List.filter_sublist
  have hreach : ∀ {t}, GrantsReach c u t →
      (∀ x ∈ (claimAt t c).holders, x ∈ (claimAt u c).holders ∨ ∃ w ∈ (claimAt u c).waiters, w.station = x.station) →
      GrantsReach c s t := fun h hx =>
    h.transport hr.station (fun n _ => hr.latches n) hr.latches.named hholders hwaiters hx rfl (fun _ _ => rfl)
      (fun _ _ _ => ⟨rfl, rfl⟩) (.refl _)
  cases hpromotes : holdsClaim s c d || isHead s c d with
  | false =>
    rw [if_neg Bool.false_ne_true]
    obtain ⟨hholds, hheads⟩ := Bool.or_eq_false_iff.mp hpromotes
    have hnone : GrantsReach c u u := fun hnodup x hx ⟨w, hw, hwx⟩ =>
      absurd (List.mem_map.mpr ⟨w, hw, hwx⟩) (List.disjoint_of_nodup_append hnodup (List.mem_map.mpr ⟨x, hx, rfl⟩))
    exact
      { station := hr.station
        roster := hr.roster
        other := hr.other
        record := by
          refine ⟨fun _ _ => ?_, fun h => ?_⟩
          · rw [hr.record, filter_holders_of_not_holding hholds]
          · rw [← holdsClaim_iff, ← isHead_iff, hholds, hheads] at h
            exact absurd h (by decide)
        reach := hreach hnone fun x hx => .inl hx
        tags := fun n _ => hr.latches n
        named := hr.latches.named
        notices := .of_notices hr.notices
        quiet := fun _ => ⟨hr.latches, hr.notices⟩
        watches := fun b k h _ => hr.watches b k h
        gone := fun h => hr.gone (holdsClaim_iff.mpr h)
        entries := hr.entries }
  | true =>
    rw [if_pos rfl]
    have hgrants := promote_grantsTo c u
    have hpromoted := promote_promoted c u
    have hne : ∀ w ∈ (claimAt u c).waiters, w.station ≠ d := fun w hw => by
      rw [hr.record] at hw
      exact bne_iff_ne.mp (List.mem_filter.mp hw).2
    exact
      { station := hgrants.station.trans hr.station
        roster := hgrants.roster.trans hr.roster
        other := fun b hb => (hgrants.claims b hb).trans (hr.other b hb)
        record := by
          refine ⟨fun h1 h2 => ?_, fun _ => ?_⟩
          · have hor := Bool.or_eq_true_iff.mp hpromotes
            rw [holdsClaim_iff, isHead_iff] at hor
            exact absurd hor (not_or.mpr ⟨h1, h2⟩)
          · have hu := hpromoted
            rw [hr.record] at hu
            exact hu.congr (by rw [hr.record]) rfl
        reach := hreach (promote_reaches c u) fun x hx => hpromoted.holder hx
        tags := fun n hn => by
          obtain ⟨v, hv⟩ := hr.latches n
          obtain ⟨w, hw⟩ := hgrants.tags n (by rw [hv]; exact hn)
          exact ⟨w, by rw [hw, hv]⟩
        named := fun n => ⟨(hgrants.named n).1.trans (hr.latches.named n).1, (hgrants.named n).2.trans (hr.latches.named n).2⟩
        notices := (NoticesStay.of_notices hr.notices).trans hgrants.notices
        quiet := fun hown => by
          obtain ⟨htags, hnotices⟩ := hgrants.quiet fun w hw => by
            rw [hr.station, ← hown]
            exact hne w hw
          refine ⟨fun n => ?_, hnotices.trans hr.notices⟩
          obtain ⟨v, hv⟩ := hr.latches n
          exact ⟨v, by rw [← hv, tagAt, htags]; rfl⟩
        watches := fun b k h hw => (hgrants.watches b k fun w hmem => hw w (hwaiters.subset hmem)).trans (hr.watches b k h)
        gone := fun h => by
          obtain ⟨hwatch, hlapse⟩ := hr.gone (holdsClaim_iff.mpr h)
          refine ⟨(hgrants.watches c d fun w hmem => watchKey_ne fun he => hne w hmem he.symm).trans hwatch, ?_⟩
          rw [promote_tx]
          exact hlapse
        entries := by
          rw [promote_tx]
          exact hr.entries }

/-! ## The purge over the claims (R16) -/

/-- What the purge over the claims of `l` makes of their records, and leaves. -/
structure PurgeRun (d : Nat) (l : List Nat) (s t : State) : Prop where
  station : t.station = s.station
  roster : t.replica.roster = s.replica.roster
  other : ∀ b, b ∉ l → claimAt t b = claimAt s b
  record : ∀ c ∈ l, PurgedOn d c s t
  tags : ∀ n, (tagAt s n).claim ∉ l → ∃ latch, tagAt t n = { tagAt s n with warnLatch := latch }
  named : ∀ n, (tagAt t n).inUse = (tagAt s n).inUse ∧ (tagAt t n).claim = (tagAt s n).claim
  notices : NoticesStay s t
  quiet : d = s.station.number → LatchesOnly s t ∧ t.notices = s.notices
  entries : ∀ x ∈ t.tx.entries, x ∈ s.tx.entries

theorem foldl_purgeClaim_run (d : Nat) : ∀ (l : List Nat) (s : State), l.Nodup →
    PurgeRun d l s (l.foldl (purgeClaim d) s)
  | [], s, _ =>
    { station := rfl
      roster := rfl
      other := fun _ _ => rfl
      record := fun _ h => absurd h List.not_mem_nil
      tags := fun _ _ => ⟨_, rfl⟩
      named := fun _ => ⟨rfl, rfl⟩
      notices := .refl s
      quiet := fun _ => ⟨.refl s, rfl⟩
      entries := fun _ h => h }
  | a :: l, s, hnodup => by
    obtain ⟨hnot, hnodup⟩ := List.nodup_cons.mp hnodup
    have hstep := purgeClaim_step d a s
    have hrun := foldl_purgeClaim_run d l (purgeClaim d s a) hnodup
    rw [List.foldl_cons]
    generalize l.foldl (purgeClaim d) (purgeClaim d s a) = t at hrun ⊢
    generalize purgeClaim d s a = u at hstep hrun
    exact
      { station := hrun.station.trans hstep.station
        roster := hrun.roster.trans hstep.roster
        other := fun b hb => by
          obtain ⟨hba, hbl⟩ := not_or.mp fun h => hb (List.mem_cons.mpr h)
          exact (hrun.other b hbl).trans (hstep.other b hba)
        record := fun c hc => by
          by_cases hca : c = a
          · subst hca
            exact hstep.record.congr rfl (hrun.other c hnot)
          · exact (hrun.record c ((List.mem_cons.mp hc).resolve_left hca)).congr (hstep.other c hca).symm rfl
        tags := fun n hn => by
          obtain ⟨hna, hnl⟩ := not_or.mp fun h => hn (List.mem_cons.mpr h)
          obtain ⟨v, hv⟩ := hstep.tags n hna
          obtain ⟨w, hw⟩ := hrun.tags n (by rw [(hstep.named n).2]; exact hnl)
          exact ⟨w, by rw [hw, hv]⟩
        named := fun n => ⟨(hrun.named n).1.trans (hstep.named n).1, (hrun.named n).2.trans (hstep.named n).2⟩
        notices := hstep.notices.trans hrun.notices
        quiet := fun hown => by
          obtain ⟨h1, h2⟩ := hstep.quiet hown
          obtain ⟨h3, h4⟩ := hrun.quiet (hown.trans (congrArg _ hstep.station.symm))
          exact ⟨h1.trans h3, h4.trans h2⟩
        entries := fun x hx => hstep.entries x (hrun.entries x hx) }

/-- What the purge hands on, claim by claim, where the records name stations 0 to 31 only (R10, R16, R17). -/
structure PurgeReaches (d c : Nat) (s t : State) : Prop where
  reach : GrantsReach c s t
  gone : (∃ h ∈ (claimAt s c).holders, h.station = d) → watchAt t c d = none ∧
    ∀ x ∈ t.tx.entries, x.onBus = false → ∀ k, x.frame ≠ .lapse c d k
  kept : ∀ b < 32, b ≠ d → (∀ w ∈ (claimAt s c).waiters, w.station ≠ b) → watchAt t c b = watchAt s c b

theorem foldl_purgeClaim_reaches {d : Nat} (hd : d < 32) : ∀ (l : List Nat) (s : State), l.Nodup →
    (∀ c ∈ l, ∀ w ∈ (claimAt s c).waiters, w.station < 32) →
    (∀ c ∈ l, PurgeReaches d c s (l.foldl (purgeClaim d) s)) ∧
      ∀ c, c ∉ l → ∀ k < 32, watchAt (l.foldl (purgeClaim d) s) c k = watchAt s c k
  | [], _, _, _ => ⟨fun _ h => absurd h List.not_mem_nil, fun _ _ _ _ => rfl⟩
  | a :: l, s, hnodup, hin => by
    obtain ⟨hnot, hnodup⟩ := List.nodup_cons.mp hnodup
    have hstep := purgeClaim_step d a s
    have hrun := foldl_purgeClaim_run d l (purgeClaim d s a) hnodup
    obtain ⟨hreaches, hwatches⟩ := foldl_purgeClaim_reaches hd l (purgeClaim d s a) hnodup fun c hc => by
      have hca : c ≠ a := fun he => hnot (he ▸ hc)
      rw [hstep.other c hca]
      exact hin c (List.mem_cons_of_mem _ hc)
    rw [List.foldl_cons]
    generalize l.foldl (purgeClaim d) (purgeClaim d s a) = t at hrun hreaches hwatches ⊢
    generalize purgeClaim d s a = u at hstep hrun hreaches hwatches
    have hina : ∀ w ∈ (claimAt s a).waiters, w.station < 32 := hin a (List.mem_cons_self ..)
    have hout : ∀ c, c ≠ a → ∀ k < 32, watchAt u c k = watchAt s c k := fun c hca k hk =>
      hstep.watches c k (fun he => hca (watchKey_inj hk hd he).1) fun w hw he => hca (watchKey_inj hk (hina w hw) he).1
    refine ⟨fun c hc => ?_, fun c hc k hk => ?_⟩
    · by_cases hca : c = a
      · subst hca
        refine ⟨?_, fun hholds => ?_, fun b hb hbd hw => ?_⟩
        · refine hstep.reach.transport rfl (fun n _ => LatchesOnly.refl s n) (LatchesOnly.refl s).named (List.Sublist.refl _)
            (List.Sublist.refl _) (fun x hx => hstep.record.holder hx) (hrun.other c hnot)
            (fun w hw => hwatches c hnot _ (hina w hw)) (fun _ n hn => ?_) hrun.notices
          obtain ⟨v, hv⟩ := hrun.tags n (by rw [(hstep.named n).2, hn]; exact hnot)
          rw [hv]
          exact ⟨rfl, rfl⟩
        · obtain ⟨hwatch, hlapse⟩ := hstep.gone hholds
          exact ⟨(hwatches c hnot d hd).trans hwatch, fun x hx => hlapse x (hrun.entries x hx)⟩
        · exact (hwatches c hnot b hb).trans (hstep.watches c b (watchKey_ne hbd) fun w hmem =>
            watchKey_ne fun he => hw w hmem he.symm)
      · have hsame := hstep.other c hca
        obtain ⟨hreach, hgone, hkept⟩ := hreaches c ((List.mem_cons.mp hc).resolve_left hca)
        rw [hsame] at hgone hkept
        refine ⟨?_, hgone, fun b hb hbd hw => (hkept b hb hbd hw).trans (hout c hca b hb)⟩
        refine hreach.transport hstep.station (fun n hn => hstep.tags n (by rw [hn]; exact hca)) hstep.named ?_ ?_
          (fun x hx => (hrun.record c ((List.mem_cons.mp hc).resolve_left hca)).holder hx) rfl (fun _ _ => rfl)
          (fun _ _ _ => ⟨rfl, rfl⟩) (.refl _)
        · rw [hsame]
        · rw [hsame]
    · obtain ⟨hca, hcl⟩ := not_or.mp fun h => hc (List.mem_cons.mpr h)
      exact (hwatches c hcl k hk).trans (hout c hca k hk)

/-- The purge: its records (R16). -/
theorem purge_run (d : Nat) (s : State) : PurgeRun d (List.range Config.claimCount) s (purge d s) :=
  foldl_purgeClaim_run d (List.range Config.claimCount) s List.nodup_range

theorem PurgeRun.purged {d : Nat} {s t u : State} (h : PurgeRun d (List.range Config.claimCount) s t)
    (hu : u.replica.claims = t.replica.claims) : Purged d s u :=
  purged_iff.mpr fun c hc => (h.record c (List.mem_range.mpr hc)).congr rfl (congrArg (fun t => Table.get ClaimRecord.free t c) hu)

/-- The purge of a station: what it hands on, where no later act touches claims, watches, tags or notices. -/
theorem purge_handedOn {d : Nat} (hd : d < 32) {s u : State} (hclaims : u.replica.claims = (purge d s).replica.claims)
    (hwatches : u.watch.watches = (purge d s).watch.watches) (htags : u.tags = (purge d s).tags)
    (hnotices : u.notices = (purge d s).notices) (htx : u.tx = (purge d s).tx) : PurgeHandedOn d s u := by
  intro hin c hc
  have hreaches : PurgeReaches d c s (purge d s) :=
    (foldl_purgeClaim_reaches hd (List.range Config.claimCount) s List.nodup_range
      fun c hc => hin c (List.mem_range.mp hc)).1 c (List.mem_range.mpr hc)
  have hrecord := (purge_run d s).record c (List.mem_range.mpr hc)
  generalize purge d s = t at hclaims hwatches htags hnotices htx hreaches hrecord
  obtain ⟨hreach, hgone, hkept⟩ := hreaches
  have hwatch : ∀ b, watchAt u c b = watchAt t c b := fun b =>
    congrArg (fun t => Table.get none t (watchKey c b)) hwatches
  have htag : ∀ n, tagAt u n = tagAt t n := fun n => congrArg (fun t => Table.get Tag.free t n) htags
  refine ⟨?_, fun hholds => ?_, fun b hb hbd hw => (hwatch b).trans (hkept b hb hbd hw)⟩
  · exact hreach.transport rfl (fun n _ => LatchesOnly.refl s n) (LatchesOnly.refl s).named (List.Sublist.refl _)
      (List.Sublist.refl _) (fun x hx => hrecord.holder hx)
      (congrArg (fun t => Table.get ClaimRecord.free t c) hclaims) (fun w _ => hwatch _)
      (fun _ n _ => by rw [htag]; exact ⟨rfl, rfl⟩) (.of_notices hnotices)
  · obtain ⟨hnone, hlapse⟩ := hgone hholds
    rw [htx]
    exact ⟨(hwatch d).trans hnone, hlapse⟩

end Sys2Proof.Machine
end

/-! # DROP: the obligation (3.9, 5.8, 5.9) -/

section
namespace Sys2Proof.Machine

open Sys2Proof (Byte BusFrame FrameEnd TryEnd Instr)

/-- What the end of the departure leaves and posts (R59, R99). -/
theorem departureEnds_effect (s : State) :
    (departureEnds s).station =
      { s.station with state := .localState, lastCause := .left, attempts := 0, disagree := 0 } ∧
    NoticesStay (endTags .left s) (departureEnds s) ∧
    (NoTags s → 0 < freePlaces s →
      (departureEnds s).notices.entries = s.notices.entries ++ [.state .localState .left]) := by
  refine ⟨by simp [departureEnds, moveTo, postState, setState, leaveBus], ?_, fun hn hroom => ?_⟩
  · unfold departureEnds
    generalize endTags .left s = u
    exact fun m hm h => moveTo_noticesStay .localState .left _ m hm h
  · have hplaces : 0 < freePlaces { leaveBus s with station.attempts := 0 } := hroom
    rw [departureEnds, endTags_of_noTags _ hn]
    exact congrArg (·.notices.entries) (moveTo_of_room hplaces)

/-- What a DROP that finds its subject listed has done before this station's own part (R57). -/
theorem unlist_effect (d : Nat) (s : State) :
    (∀ b, rosterAt (unlist d s) b = if b = d then .absent else rosterAt s b) ∧
      (d ≠ s.station.number → silenceAt (unlist d s) d = none) ∧
      unlist d s = { s with
        replica.roster := (unlist d s).replica.roster
        watch.silence := (unlist d s).watch.silence } := by
  unfold unlist
  refine ⟨fun b => ?_, fun hd => ?_, ?_⟩
  · have hsame : rosterAt (setSilence d none (setRoster d .absent s)) b = rosterAt (setRoster d .absent s) b := by
      simp [rosterAt]
    rw [hsame, rosterAt_setRoster]
  · rw [silenceAt_setSilence (s := setRoster d .absent s) (h := hd), if_pos rfl]
  · unfold setSilence
    split <;> rfl

/-- A station purged and unlisted: what the rest of the DROP finds (R57). -/
theorem purgedAndUnlisted {d : Nat} {s u : State} (hu : u = unlist d (purge d s)) :
    (∀ v : State, v.replica.claims = u.replica.claims → Purged d s v) ∧
    (∀ b, rosterAt u b = if b = d then .absent else rosterAt s b) ∧ u.station = s.station ∧ u.link = s.link ∧
    HoldsLess s u ∧
    (d < 32 → PurgeHandedOn d s u) ∧ (d ≠ s.station.number → silenceAt u d = none) ∧
    (d = s.station.number → LatchesOnly s u ∧ u.notices = s.notices ∧ u.port = s.port) := by
  have hrun := purge_run d s
  have hhanded := fun hd : d < 32 => purge_handedOn (s := s) (u := u) hd
  have hless := purge_holdsLess d s
  have hlink := purge_link d s
  have hport := purge_port d s
  generalize purge d s = p at hu hrun hless hlink hport hhanded
  obtain ⟨hroster, hsilence, heq⟩ := unlist_effect d p
  rw [← hu] at hroster hsilence heq
  have hstation : u.station = s.station := by
    rw [heq]
    exact hrun.station
  have hclaims : u.replica.claims = p.replica.claims := by rw [heq]
  refine ⟨fun v hv => hrun.purged (hv.trans hclaims), fun b => ?_, hstation, ?_, ?_, fun hd => ?_, fun hd => hsilence ?_,
    fun hown => ?_⟩
  · rw [hroster b, rosterAt, hrun.roster]
    rfl
  · rw [heq]
    exact hlink
  · refine hless.trans (.of_eq ?_ ?_ ?_) <;> rw [heq]
  · refine hhanded hd hclaims ?_ ?_ ?_ ?_ <;> rw [heq]
  · rw [hrun.station]
    exact hd
  · obtain ⟨hlatch, hnotices⟩ := hrun.quiet hown
    refine ⟨fun n => ?_, ?_, ?_⟩
    · obtain ⟨w, hw⟩ := hlatch n
      exact ⟨w, by rw [← hw, heq]; rfl⟩
    · rw [heq]
      exact hnotices
    · rw [heq]
      exact hport

/-- A DROP in MEMBER or LEAVING (R57). -/
theorem dropBody_shared {e : RxEntry} {s : State} {d : Nat} (hp : parseOne e.payload = some d) (hd : d < 32)
    (hs : s.station.state = .member ∨ s.station.state = .leaving) : dropBody e s = dropShared d e.sender s := by
  have hin : ¬ Config.stationCount ≤ d := Nat.not_le.mpr hd
  simp only [dropBody, hp, if_neg hin, (sharing_iff _).mpr hs, if_true]

/-- Settles O46: the purge of another station, the end of the departure, and the eviction. -/
theorem dropPurgesTheStation : Obligations.DropPurgesTheStation := by
  intro s e rest db hfront hst hpay d own ended
  have hp : parseOne e.payload = some d := by rw [hpay]; rfl
  have hexec : exec .applyDrop s = .next (dropBody e (atFront e rest s)) :=
    congrArg Host.Outcome.next (exec_apply hfront)
  have hlisted : d < 32 → rosterAt s d ≠ .absent → exec .applyDrop s = .next
      (if d = own then droppedSelf e.sender (unlist d (purge d (atFront e rest s)))
        else unlist d (purge d (atFront e rest s))) := fun hd hr => by
    refine hexec.trans (congrArg _ ((dropBody_shared (s := atFront e rest s) hp hd hst).trans ((if_neg hr).trans ?_)))
    exact if_congr Iff.rfl rfl rfl
  obtain ⟨hpurged, hroster, hstation, hlink, hless, hhanded, hsilence, hquiet⟩ :=
    purgedAndUnlisted (s := atFront e rest s) (d := d) rfl
  generalize unlist d (purge d (atFront e rest s)) = u at hlisted hpurged hroster hstation hlink hless hhanded hsilence hquiet
  refine ⟨fun hno => ?_, fun hd hother hr => ?_, fun hd hself hr hleaves => ?_, fun hd hself hr hm hsender => ?_⟩
  · refine hexec.trans (congrArg _ ?_)
    by_cases hd : d < 32
    · exact (dropBody_shared (s := atFront e rest s) hp hd hst).trans (if_pos (hno.resolve_left (Nat.not_le.mpr hd)))
    · have hout : Config.stationCount ≤ d := Nat.not_lt.mp hd
      simp only [dropBody, hp, if_pos hout]
  · exact ⟨u, (hlisted hd hr).trans (congrArg _ (if_neg hother)), hpurged u rfl, hhanded hd, hsilence hother, hroster,
      hstation, hlink⟩
  · obtain ⟨hlatch, hnotices, hport⟩ := hquiet hself
    obtain ⟨hafter, hstay, hposts⟩ := departureEnds_effect u
    have hdeparts : droppedSelf e.sender u = departureEnds u := if_pos (by rw [hstation]; exact hleaves)
    refine ⟨_, (hlisted hd hr).trans (congrArg _ ((if_pos hself).trans hdeparts)), (departureEnds_gone u).2,
      ⟨(departureEnds_gone u).2.2.2.2.2.2.2.2.2.2.2.2.2, fun n hn hu => ?_⟩, ?_, fun hnone hroom => ?_⟩
    · obtain ⟨w, hw⟩ := hlatch n
      have hend := endTags_lost_cancelled .left hstay hn (by rw [hw]; exact hu)
      rw [hw] at hend
      exact hend
    · rw [hafter, hstation]
      rfl
    · have hnotags : NoTags u := fun n hn => by
        obtain ⟨w, hw⟩ := hlatch n
        rw [hw]
        exact hnone n hn
      have hplaces : freePlaces u = freePlaces s := freePlaces_of_reservations
        (by rw [hnotices]; rfl) (by rw [hport]; rfl) fun n => by
          obtain ⟨w, hw⟩ := hlatch n
          rw [hw]
          rfl
      rw [hposts hnotags (by rw [hplaces]; exact hroom), hnotices]
      rfl
  · obtain ⟨hlatch, hnotices, _⟩ := hquiet hself
    have hevicts : droppedSelf e.sender u = enterAfresh .evicted (endTags .dropped u) := if_neg (by
      rw [hstation]
      exact not_or.mpr ⟨fun h => absurd (hm.symm.trans h) (by decide), hsender⟩)
    obtain ⟨h1, h2, h3, h4, _, _, h7, h8⟩ := enterAfresh_effect .evicted (endTags .dropped u)
    rw [endTags_replica] at h1
    rw [endTags_station, hstation] at h7
    have hlost := fun n (hn : n < 16) (hu : (tagAt u n).inUse = true) =>
      endTags_lost_cancelled .dropped (enterAfresh_noticesStay .evicted (endTags .dropped u)) hn hu
    refine ⟨_, (hlisted hd hr).trans (congrArg _ ((if_pos hself).trans hevicts)), hpurged _ (by rw [h1]),
      ⟨fun n hn => ?_, fun n hn hu => ?_⟩, fun b => ?_, h7, fun hheld => h8 ?_, h2, h3⟩
    · rw [tagAt, h4]
      exact endTags_noTags .dropped u n hn
    · obtain ⟨w, hw⟩ := hlatch n
      have hend := hlost n hn (by rw [hw]; exact hu)
      rw [hw] at hend
      exact hend
    · rw [rosterAt, h1]
      exact hroster b
    · exact lt_of_le_of_lt (internalHeld_le (hless.trans (endTags_holdsLess _ _))) hheld

end Sys2Proof.Machine
end

/-! # ENTER: the obligation fails on a tag table out of its form (3.10) -/

section
namespace Sys2Proof.Machine

open Sys2Proof (Byte BusFrame FrameEnd TryEnd Instr)

/-- A station in ENTERING that applies its own ENTER with no other MEMBER. Its tag table is out of its form, which no
step makes it (O52): it lists number 0 twice, first a tag that only its warn latch tells from a free one. -/
def founderListedTwice : State := { State.reset with
  station := ⟨false, .entering, 3, Setup.default, true, 1, .none, 0⟩
  apply.rx := [⟨.enter, 3, [], true, none, false, false⟩]
  tags := [(0, { Tag.free with warnLatch := true }), (0, { Tag.free with reservations := 47 })] }

/-- The notices held after a step. -/
def noticesAfter : Host.Outcome State Fault Refusal → List Notice
  | .next t => t.notices.entries
  | _ => []

/-- Refutes O47: at founding the latches clear with the table, the first entry of `founderListedTwice` leaves with its
latch, and the second one's reservations come into view and take every place, so that STATE is counted as dropped. -/
theorem not_enterJoinsOrFounds : ¬ Obligations.EnterJoinsOrFounds := by
  intro h
  obtain ⟨_, _, _, hfounds, _⟩ := h founderListedTwice ⟨.enter, 3, [], true, none, false, false⟩ [] (by decide) (by decide)
  obtain ⟨t, hexec, _, _, _, _, _, hnotices⟩ := hfounds rfl rfl (by decide) (by decide)
  have hdropped : noticesAfter (exec .applyEnter founderListedTwice) = [.overflow 1] := by decide
  rw [hexec] at hdropped
  exact absurd (hnotices.symm.trans hdropped) (by decide)

end Sys2Proof.Machine
end
